-- ==== Sys2Proof/Word.lean ====
section
/-! DEFINITION. The plainest bit types of the LS-340: bytes of frames and text, 12-bit converter values. -/

namespace Sys2Proof

/-- A byte of a lane frame, of the start-up memory or of a text line (R180, R182, R183). -/
abbrev Byte := BitVec 8

/-- A raw value of the 12-bit converter, 0 to 4095 (R64). -/
abbrev Raw := BitVec 12

end Sys2Proof
end

