-- ==== Sys2Proof/Config.lean ====
section
/-! DEFINITION. The numbers the manual fixes for the LS-340, each under the rule that states it.
One result is left open by the manual, `newestOfCycle`; nothing in Lean can evaluate it. -/

namespace Sys2Proof.Config

/-- The vehicle table holds at most 4 entries (R1). -/
def tableSize : Nat := 4

/-- The transmit queue holds at most 8 frames (R30). -/
def queueSize : Nat := 8

/-- The peer list holds at most 14 entries (R34, R36). -/
def peerListSize : Nat := 14

/-- A peer whose age reaches 5 is removed (R35). -/
def absentAge : Nat := 5

/-- The bus is idle once 12 consecutive recessive bit times have been read (R22). -/
def idleBits : Nat := 12

/-- PT0's reload, 200 Hz (R49). -/
def pt0Reload : Nat := 499

/-- PT1's reload, 50 Hz (R49). -/
def pt1Reload : Nat := 1999

/-- PT2-low's reload for the HIGH tone (R50). -/
def toneHighReload : Nat := 24

/-- PT2-low's reload for the LOW tone (R50). -/
def toneLowReload : Nat := 61

/-- Windows of the warning with an empty awaited set (R57, R105). -/
def hornAloneWindows : Nat := 24

/-- Windows of the confirmation limit (R57, R105). -/
def confirmWindows : Nat := 16

/-- Windows of the run-out (R57, R106). -/
def runOutWindows : Nat := 8

/-- Windows of the spin-up limit (R57, R107). -/
def spinUpWindows : Nat := 32

/-- Windows of the test time limit (R57, R109). -/
def testWindows : Nat := 160

/-- Windows of the crossing limit (R57, R121). -/
def crossingWindows : Nat := 160

/-- Windows of PAPER_WAIT (R57, R158). -/
def paperWaitWindows : Nat := 960

/-- Windows of minimum show time (R133). -/
def showWindows : Nat := 16

/-- Life count of ENTRY_REJECTED (R136). -/
def rejectedLife : Nat := 80

/-- Life count of WARNING_FROM_PEER (R143). -/
def warningLife : Nat := 240

/-- Windows of a SINGLE horn pattern (R141). -/
def singleWindows : Nat := 4

/-- The print job queue holds at most 4 jobs (R147). -/
def jobQueueSize : Nat := 4

/-- Lines of a certificate page (R154). -/
def pageLines : Nat := 16

/-- Slots of the archive (R163). -/
def slotCount : Nat := 32

/-- Slots of one erase block (R163). -/
def blockSlots : Nat := 8

/-- The archive's request list holds at most 4 requests (R164). -/
def requestListSize : Nat := 4

/-- The newest slot of a scan in which every numbered slot has a newer one, so that R171 names none: a free value, given the
sequences of the numbered slots (log entry 18). -/
opaque newestOfCycle : List Nat → Nat

end Sys2Proof.Config
end

