-- ==== Sys2Proof/Syntax.lean ====
section
/-! DEFINITION. The commands of the LS-340: one constructor of Instr for each of the 74 rows of spec/opcode_table.json.
The table gives its rows no operands; each constructor carries what its event brings from outside the part (log entry 8). -/

namespace Sys2Proof

/-- The twelve filtered local lines of R47, in its table's order. -/
inductive Line where
  | wheelL | wheelR | plateEntry | plateExit | fbL | fbR | keyStart | keyNext | keyRepeat | keyAbort | stopIn | dim
  deriving DecidableEq, Repr

/-- One level, active (true) or inactive, for each filtered line (R47). -/
structure Samples where
  wheelL : Bool
  wheelR : Bool
  plateEntry : Bool
  plateExit : Bool
  fbL : Bool
  fbR : Bool
  keyStart : Bool
  keyNext : Bool
  keyRepeat : Bool
  keyAbort : Bool
  stopIn : Bool
  dim : Bool
  deriving DecidableEq, Repr

/-- The blocks that take an 8 Hz tick, in the order of R46's table. -/
inductive TickTaker where
  | pulseCounters | phaseTimers | sequence | guidance
  deriving DecidableEq, Repr

/-- The pulse inputs of R53. -/
inductive PulseInput where
  | dl | dr | sl | sr
  deriving DecidableEq, Repr

/-- The joined pacing timers of R48. -/
inductive PacingTimer where
  | pt0 | pt1
  deriving DecidableEq, Repr

/-- What the cells of a slot read after an erase or a program that did not end in full, or after one that did
(R164, R167, R168, R171): the physical outcome comes from outside the model (log entry 10).
`erased`: they read erased; `whole`: they read as though the operation on them had ended well (a program) or had not
touched them (an erase); `bodyDamaged`: the header checks and the CRC does not; `unreadable`: anything else. -/
inductive Residue where
  | erased | whole | bodyDamaged | unreadable
  deriving DecidableEq, Repr

/-- The commands, in the order of the opcode table. -/
inductive Instr where
  /-- POWER_ON (R172). -/
  | powerOn
  /-- POWER_OFF (R164); `left`: what the slots of an archive operation in flight then read. -/
  | powerOff (left : List Residue)
  /-- RESET_PIN becomes active (R172); `left` as in POWER_OFF. -/
  | resetPin (left : List Residue)
  /-- RESET_RELEASE with the strap pins sampled at that moment (R173). -/
  | resetRelease (station : BitVec 4) (role : BitVec 2) (printer : Bool)
  /-- MEMORY_READ_COMPLETE with the bytes the memory delivered for each copy (R174). -/
  | memoryReadComplete (copy1 copy2 copy3 : List Byte)
  /-- ARCHIVE_SCAN_COMPLETE (R171). -/
  | archiveScanComplete
  /-- START_UP_END (R178). -/
  | startUpEnd
  /-- TICK_32HZ with the level of each filtered line, and the lines served first where several change at one tick (R47). -/
  | tick32Hz (samples : Samples) (first : List Line)
  /-- TICK_8HZ, and the blocks that take it first, in that order (R46). -/
  | tick8Hz (first : List TickTaker)
  /-- TICK_1HZ (R46). -/
  | tick1Hz
  /-- PEER_ABSENT (R35). -/
  | peerAbsent
  /-- PULSE_EDGE on one pulse input (R53). -/
  | pulseEdge (input : PulseInput)
  /-- PACING_EVENT of PT0 or PT1 (R48). -/
  | pacingEvent (timer : PacingTimer)
  /-- TONE_UNDERFLOW (R50). -/
  | toneUnderflow
  /-- DIMMER_UNDERFLOW (R52). -/
  | dimmerUnderflow
  /-- AXLE_ON_ROLLERS (R102). -/
  | axleOnRollers
  /-- AXLE_LEAVES (R112). -/
  | axleLeaves
  /-- FEEDBACK_COUNT_EXPIRY (R98). -/
  | feedbackCountExpiry
  /-- WELDED_CONTACTOR (R99). -/
  | weldedContactor
  /-- ROLL_DOWN_COMPLETE (R110). -/
  | rollDownComplete
  /-- WARN_HORN_EXPIRY (R105). -/
  | warnHornExpiry
  /-- WARNING_TIMEOUT (R106). -/
  | warningTimeout
  /-- RUN_OUT_EXPIRY (R106). -/
  | runOutExpiry
  /-- SPIN_UP_TIMEOUT (R107). -/
  | spinUpTimeout
  /-- TEST_TIME_LIMIT (R109). -/
  | testTimeLimit
  /-- CROSSING_EXPIRY (R126). -/
  | crossingExpiry
  /-- PAPER_WAIT_EXPIRY (R158). -/
  | paperWaitExpiry
  /-- CONVERTER_START (R63). -/
  | converterStart
  /-- ROW_COMPLETE with the raw value of each column, in column order (R64). -/
  | rowComplete (raws : List Raw)
  /-- INPUT_FAULTED for one analog input (R71). -/
  | inputFaulted (input : Fin 8)
  /-- ONE_OFF_CONVERSION_COMPLETE with its raw value (R72). -/
  | oneOffConversionComplete (raw : Raw)
  /-- EVALUATION_COMPLETE (R76). -/
  | evaluationComplete
  /-- RELEASE (R87). -/
  | release
  /-- SLIP_STOP (R83). -/
  | slipStop
  /-- FRAME_START (R22). -/
  | frameStart
  /-- LOST_ARBITRATION (R27). -/
  | lostArbitration
  /-- BIT_ERROR (R28). -/
  | bitError
  /-- FRAME_SENT (R29). -/
  | frameSent
  /-- FRAME_DISCARDED with the bits read from the start bit on; true is recessive (R25). -/
  | frameDiscarded (bits : List Bool)
  /-- UNKNOWN_KIND_FRAME: a heard frame with its header fields and payload (R26). -/
  | unknownKindFrame (cls : BitVec 2) (kind : BitVec 5) (source : BitVec 4) (payload : List Byte)
  /-- PRESENCE heard (R34). Here and below: the source station of the header and the payload bytes. -/
  | presence (source : BitVec 4) (payload : List Byte)
  /-- LANE_STOP heard (R41). -/
  | laneStop (source : BitVec 4) (payload : List Byte)
  /-- LANE_RESUME heard (R42). -/
  | laneResume (source : BitVec 4) (payload : List Byte)
  /-- MOTOR_WARNING heard (R143). -/
  | motorWarning (source : BitVec 4) (payload : List Byte)
  /-- WARNING_SHOWN heard (R106). -/
  | warningShown (source : BitVec 4) (payload : List Byte)
  /-- ROLLERS_STOPPED heard (R145). -/
  | rollersStopped (source : BitVec 4) (payload : List Byte)
  /-- VEHICLE_ENTRY heard (R5, R6, R7). -/
  | vehicleEntry (source : BitVec 4) (payload : List Byte)
  /-- VEHICLE_CANCEL heard (R8). -/
  | vehicleCancel (source : BitVec 4) (payload : List Byte)
  /-- AXLE_EVENT heard (R9). -/
  | axleEvent (source : BitVec 4) (payload : List Byte)
  /-- AXLE_LOAD heard (R13, R14). -/
  | axleLoad (source : BitVec 4) (payload : List Byte)
  /-- BRAKE_RESULT heard (R13, R14). -/
  | brakeResult (source : BitVec 4) (payload : List Byte)
  /-- SLIP_RESULT heard (R13, R14). -/
  | slipResult (source : BitVec 4) (payload : List Byte)
  /-- CERT_REQUEST heard (R150). -/
  | certRequest (source : BitVec 4) (payload : List Byte)
  /-- REPRINT_REQUEST heard (R151). -/
  | reprintRequest (source : BitVec 4) (payload : List Byte)
  /-- CERT_DONE heard (R18). -/
  | certDone (source : BitVec 4) (payload : List Byte)
  /-- PRINT_ANSWER heard (R34). -/
  | printAnswer (source : BitVec 4) (payload : List Byte)
  /-- LANE_CLEAR heard (R20). -/
  | laneClear (source : BitVec 4) (payload : List Byte)
  /-- MINIMUM_SHOW_TIME_MET (R133). -/
  | minimumShowTimeMet
  /-- ENTRY_REJECTED_LIFE_END (R136). -/
  | entryRejectedLifeEnd
  /-- WARNING_LIFE_END (R145). -/
  | warningLifeEnd
  /-- SINGLE_COUNT_END (R141). -/
  | singleCountEnd
  /-- PANEL_FRAME_SENT (R139). -/
  | panelFrameSent
  /-- CERTIFICATE_JOB_START (R153). -/
  | certificateJobStart
  /-- REPRINT_JOB_START (R152). -/
  | reprintJobStart
  /-- PRINTER_READY_RISE (R156). -/
  | printerReadyRise
  /-- LINE_SENT (R156). -/
  | lineSent
  /-- PAPER_OUT_ACTIVE (R158). -/
  | paperOutActive
  /-- PAPER_OUT_INACTIVE (R158). -/
  | paperOutInactive
  /-- ERASE_COMPLETE with what each slot of the block then reads (R168). -/
  | eraseComplete (left : List Residue)
  /-- RECORD_PROGRAM_COMPLETE with the outcome reported and what the slot then reads (R167). -/
  | recordProgramComplete (pass : Bool) (left : Residue)
  /-- MARK_PROGRAM_COMPLETE with the outcome (R170). -/
  | markProgramComplete (pass : Bool)
  /-- BUS_IDLE (R22). -/
  | busIdle
  /-- BECOMES_RECEIVER (R22). -/
  | becomesReceiver
  /-- DIMMER_COMPARE_REACHED (R51). -/
  | dimmerCompareReached
  deriving DecidableEq, Repr

end Sys2Proof
end

