-- ==== Sys2Proof/WellFormed.lean ====
section
/-! DEFINITION. Which commands are well formed: operand lists no longer than what they stand for.
The meanings are total on every command; these checks say which ones a sender can mean. -/

namespace Sys2Proof

/-- A lane frame carries 0 to 28 payload bytes (R24). -/
def payloadOk (p : List Byte) : Bool := decide (p.length ≤ 28)

/-- The longest frame of R24's table has 329 bits with its end field. -/
def maxFrameBits : Nat := 329

/-- The well-formedness of a command's operands. -/
def Instr.wf : Instr → Bool
  | .powerOn => true
  | .powerOff left => decide (left.length ≤ Config.blockSlots)
  | .resetPin left => decide (left.length ≤ Config.blockSlots)
  | .resetRelease _ _ _ => true
  | .memoryReadComplete a b c => decide (a.length ≤ 128) && decide (b.length ≤ 128) && decide (c.length ≤ 128)
  | .archiveScanComplete => true
  | .startUpEnd => true
  | .tick32Hz _ first => decide first.Nodup
  | .tick8Hz first => decide first.Nodup
  | .tick1Hz => true
  | .peerAbsent => true
  | .pulseEdge _ => true
  | .pacingEvent _ => true
  | .toneUnderflow => true
  | .dimmerUnderflow => true
  | .axleOnRollers => true
  | .axleLeaves => true
  | .feedbackCountExpiry => true
  | .weldedContactor => true
  | .rollDownComplete => true
  | .warnHornExpiry => true
  | .warningTimeout => true
  | .runOutExpiry => true
  | .spinUpTimeout => true
  | .testTimeLimit => true
  | .crossingExpiry => true
  | .paperWaitExpiry => true
  | .converterStart => true
  | .rowComplete raws => decide (1 ≤ raws.length) && decide (raws.length ≤ 3)
  | .inputFaulted _ => true
  | .oneOffConversionComplete _ => true
  | .evaluationComplete => true
  | .release => true
  | .slipStop => true
  | .frameStart => true
  | .lostArbitration => true
  | .bitError => true
  | .frameSent => true
  | .frameDiscarded bits => decide (bits.length ≤ maxFrameBits)
  | .unknownKindFrame _ _ _ p => payloadOk p
  | .presence _ p => payloadOk p
  | .laneStop _ p => payloadOk p
  | .laneResume _ p => payloadOk p
  | .motorWarning _ p => payloadOk p
  | .warningShown _ p => payloadOk p
  | .rollersStopped _ p => payloadOk p
  | .vehicleEntry _ p => payloadOk p
  | .vehicleCancel _ p => payloadOk p
  | .axleEvent _ p => payloadOk p
  | .axleLoad _ p => payloadOk p
  | .brakeResult _ p => payloadOk p
  | .slipResult _ p => payloadOk p
  | .certRequest _ p => payloadOk p
  | .reprintRequest _ p => payloadOk p
  | .certDone _ p => payloadOk p
  | .printAnswer _ p => payloadOk p
  | .laneClear _ p => payloadOk p
  | .minimumShowTimeMet => true
  | .entryRejectedLifeEnd => true
  | .warningLifeEnd => true
  | .singleCountEnd => true
  | .panelFrameSent => true
  | .certificateJobStart => true
  | .reprintJobStart => true
  | .printerReadyRise => true
  | .lineSent => true
  | .paperOutActive => true
  | .paperOutInactive => true
  | .eraseComplete left => decide (left.length ≤ Config.blockSlots)
  | .recordProgramComplete _ _ => true
  | .markProgramComplete _ => true
  | .busIdle => true
  | .becomesReceiver => true
  | .dimmerCompareReached => true

end Sys2Proof
end

