-- ==== Sys2Proof/Decode.lean ====
section
/-! DEFINITION. The commands that a word spells by the opcode table's bits. No row of spec/opcode_table.json gives bits
(every row's fields are empty), so no word spells a command. Frame bits are read and written in Machine/Frames.lean. -/

namespace Sys2Proof

/-- The command a word of the table's bits spells: none, for no row of the table has bits. -/
def decodeTableWord (_nbits _w : Nat) : Option Instr := none

end Sys2Proof
end

