-- ==== Sys2Proof/Machine/State.lean ====
section
/-! DEFINITION. The state of the LS-340: every register, table, queue, buffer, counter, mode and latch the manual names,
as plain data, block by block; the state after reset; the (unused) fault and refusal reasons. Each item cites its rule. -/

namespace Sys2Proof.Machine

/-! ### Start-up and station identity -/

/-- Whether the part is powered and released from reset (R172). -/
inductive Power where
  | off | held | running
  deriving DecidableEq, Repr

/-- The station's role from the straps (R173). -/
inductive Role where
  | roller | plate | panel
  deriving DecidableEq, Repr

/-- The fields of a start-up block (R174, R183). -/
structure StartUpBlock where
  serial : List Byte
  laneName : List Byte
  approval : List Byte
  gfL : Nat
  gfR : Nat
  gwL : Nat
  gwR : Nat
  zwL : Nat
  zwR : Nat
  gp : Nat
  zp : Nat
  gs : Nat
  zs : Nat
  nnom : Nat
  pprL : Nat
  pprR : Nat
  lampPeriod : Nat
  dayDuty : Nat
  nightDuty : Nat
  deriving DecidableEq, Repr

/-- The start-up record of R172. `endDue`: a 1 Hz tick has found both reads done and START_UP_END is due (log entry 1). -/
structure StartUp where
  ownNumber : Nat
  role : Role
  printer : Bool
  memoryDone : Bool
  scanDone : Bool
  /-- The copy in use, 1 to 3, with its fields. -/
  block : Option (Nat × StartUpBlock)
  ended : Bool
  endDue : Bool
  deriving DecidableEq, Repr

/-- The unfiltered printer lines, true active (R147, R156); they lie outside the part, so a reset does not touch them (log entry 4). -/
structure Pins where
  paperOut : Bool
  printerReady : Bool
  deriving DecidableEq, Repr

/-! ### Lane view -/

/-- Vehicle class (R2). -/
inductive VehicleClass where
  | light | heavy | trailer
  deriving DecidableEq, Repr

/-- Brake system (R2). -/
inductive BrakeSystem where
  | hydraulic | air
  deriving DecidableEq, Repr

/-- Verdict (R2, R93). -/
inductive Verdict where
  | pass | fail | incomplete
  deriving DecidableEq, Repr

/-- Test kind (R3, R180). -/
inductive TestKind where
  | service | parking
  deriving DecidableEq, Repr

/-- End reason of a test (R3). -/
inductive EndReason where
  | slip | release | time
  deriving DecidableEq, Repr

/-- A certificate number: station and sequence (R2). -/
structure CertNo where
  station : Nat
  seq : Nat
  deriving DecidableEq, Repr

/-- The entry time as received (R2). -/
structure EntryTime where
  year : Nat
  month : Nat
  day : Nat
  hour : Nat
  minute : Nat
  deriving DecidableEq, Repr

/-- A left and a right value. -/
structure Pair where
  l : Nat
  r : Nat
  deriving DecidableEq, Repr

/-- The figures of a service or parking result (R3, R89): all but its end reason and loads. -/
structure Figures where
  fmax : Pair
  fref : Option Pair
  imbalance : Option Nat
  ovalL : Option Nat
  ovalR : Option Nat
  rr : Pair
  deriving DecidableEq, Repr

/-- A service or parking result of an axle record (R3). -/
structure BrakeResult where
  figures : Figures
  endReason : EndReason
  deriving DecidableEq, Repr

/-- An axle record: four parts, each present or absent (R3). -/
structure AxleRecord where
  load : Option Pair
  service : Option BrakeResult
  parking : Option BrakeResult
  slip : Option Int
  deriving DecidableEq, Repr

/-- The record with every part absent (R3). -/
def AxleRecord.empty : AxleRecord := ⟨none, none, none, none⟩

/-- The five entry states of R4. -/
inductive EntryState where
  | registered | inLane | complete | closed | abandoned
  deriving DecidableEq, Repr

/-- A vehicle entry (R2). Axle sets are lists of axle numbers without repeats. -/
structure Entry where
  ticket : Nat
  stamp : Nat
  state : EntryState
  cls : VehicleClass
  brake : BrakeSystem
  axleCount : Nat
  parkingSet : List Nat
  steeredSet : List Nat
  pref : Option Nat
  weight : Option Nat
  time : EntryTime
  plate : List Byte
  platePassed : Nat
  rollerPassed : Nat
  axles : List AxleRecord
  serviceRatio : Option Nat
  parkingRatio : Option Nat
  verdict : Option Verdict
  certNo : Option CertNo
  deriving DecidableEq, Repr

/-- The vehicle table and its stamp counter (R1). -/
structure LaneView where
  entries : List Entry
  stampCounter : Nat
  deriving DecidableEq, Repr

/-! ### Lane bus and peers -/

/-- The bus modes of R38. -/
inductive BusMode where
  | starting | ready | degraded | listenOnly
  deriving DecidableEq, Repr

/-- Causes of a lane stop (R41). -/
inductive StopCause where
  | stopInput | contactor | desk
  deriving DecidableEq, Repr

/-- The events of AXLE_EVENT (R9). -/
inductive AxleEventKind where
  | arrived | left
  deriving DecidableEq, Repr

/-- The reporting roles of AXLE_EVENT (R9). -/
inductive MeasuringRole where
  | roller | plate
  deriving DecidableEq, Repr

/-- The roles of a PRESENCE (R33, R180). -/
inductive PeerRole where
  | roller | plate | panel | desk
  deriving DecidableEq, Repr

/-- The mode field of a PRESENCE (R33). -/
inductive PresenceMode where
  | ready | stopped | degraded
  deriving DecidableEq, Repr

/-- The activity field of a PRESENCE (R33). -/
inductive Activity where
  | idle | testing | fault
  deriving DecidableEq, Repr

/-- The printer state field of a PRESENCE (R33, R148). -/
inductive PrinterState where
  | noPrinter | ready | printing | paperOut
  deriving DecidableEq, Repr

/-- The outcomes of a PRINT_ANSWER (R180). -/
inductive AnswerOutcome where
  | printed | failedPaper | refusedQueueFull | refusedNoPrinter | refusedUnknown | refusedLimit | refusedDamaged
  deriving DecidableEq, Repr

/-- What a print job or a PRINT_ANSWER is about: a ticket (CERTIFICATE) or a certificate number (REPRINT) (R147, R180). -/
inductive Subject where
  | ticket (t : Nat)
  | certificate (n : CertNo)
  deriving DecidableEq, Repr

/-- The frames this station queues, with their fields (section 2.9, R180). -/
inductive LaneFrame where
  | laneStop (cause : StopCause)
  | laneResume
  | motorWarning (ticket axle : Nat) (kind : TestKind)
  | warningShown (rollerStation ticket axle : Nat)
  | rollersStopped (ticket axle : Nat)
  | axleEvent (ticket axle : Nat) (event : AxleEventKind) (role : MeasuringRole)
  | axleLoad (ticket axle : Nat) (load : Pair)
  | brakeResult (ticket axle : Nat) (kind : TestKind) (reason : EndReason) (load : Pair) (figures : Figures)
  | slipResult (ticket axle : Nat) (slip : Int)
  | certDone (ticket : Nat) (number : CertNo) (verdict : Verdict)
  | printAnswer (requester : Nat) (subject : Subject) (outcome : AnswerOutcome)
  | presence (role : PeerRole) (mode : PresenceMode) (activity : Activity) (ticket : Nat) (printer : PrinterState)
  deriving DecidableEq, Repr

/-- A queued frame with its queue stamp (R30). -/
structure QueuedFrame where
  frame : LaneFrame
  stamp : Nat
  deriving DecidableEq, Repr

/-- What the station is doing on the bus (R22, R27): taking no part, receiving a frame, or transmitting one, which is
named by its queue stamp. -/
inductive Link where
  | quiet
  | receiving
  | transmitting (sent : QueuedFrame)
  deriving DecidableEq, Repr

/-- A peer entry (R34); `none` is UNKNOWN. -/
structure Peer where
  station : Nat
  role : Option PeerRole
  activity : Option Activity
  ticket : Option Nat
  printer : Option PrinterState
  age : Nat
  deriving DecidableEq, Repr

/-- The lane stop latch (R41). -/
structure Latch where
  stopped : Bool
  cause : Option StopCause
  station : Option Nat
  localCause : Bool
  deriving DecidableEq, Repr

/-- The lane bus controller (R22, R30, R34, R38, R41). Peers stand in order of station number. -/
structure Bus where
  mode : BusMode
  link : Link
  recessive : Nat
  queue : List QueuedFrame
  nextStamp : Nat
  peers : List Peer
  latch : Latch
  deriving DecidableEq, Repr

/-! ### Lane clock, timers and counters -/

/-- The lane clock (R44). `took32`, `took8`, `took1`: the tick of the passage at which the count stands has been taken (log entry 6). -/
structure Clock where
  count : Nat
  took32 : Bool
  took8 : Bool
  took1 : Bool
  deriving DecidableEq, Repr

/-- The input filter: accepted level and last sample of each line (R47). -/
structure Filter where
  accepted : Samples
  last : Samples
  deriving DecidableEq, Repr

/-- A joined pacing timer, PT0 or PT1 (R48). -/
structure JoinedTimer where
  counter : Nat
  reload : Nat
  running : Bool
  deriving DecidableEq, Repr

/-- PT2-low with the tone output, true high (R50). -/
structure ToneTimer where
  counter : Nat
  reload : Nat
  running : Bool
  output : Bool
  deriving DecidableEq, Repr

/-- PT2-high, the lamp dimmer (R51, R52). -/
structure Dimmer where
  counter : Nat
  p : Nat
  q : Nat
  running : Bool
  pendingCompare : Option Nat
  dayDuty : Nat
  nightDuty : Nat
  deriving DecidableEq, Repr

/-- A phase timer (R56). `expired`: its expiry is due at the owner (log entry 1). -/
structure PhaseTimer where
  running : Bool
  remaining : Nat
  expired : Bool
  deriving DecidableEq, Repr

/-- The pacing timers, the lamp dimmer and the phase timers. -/
structure Timers where
  pt0 : JoinedTimer
  pt1 : JoinedTimer
  tone : ToneTimer
  dimmer : Dimmer
  seqTimer : PhaseTimer
  certTimer : PhaseTimer
  deriving DecidableEq, Repr

/-- A revolution counter (R55). -/
structure RevCounter where
  number : Nat
  position : Nat
  compare : Nat
  running : Bool
  deriving DecidableEq, Repr

/-- The pulse and revolution counters (R53, R55). -/
structure Counters where
  dl : Nat
  dr : Nat
  sl : Nat
  sr : Nat
  revL : RevCounter
  revR : RevCounter
  deriving DecidableEq, Repr

/-- The window sample of an 8 Hz tick (R54). -/
structure WindowSample where
  ndL : Nat
  ndR : Nat
  nsL : Nat
  nsR : Nat
  deriving DecidableEq, Repr

/-! ### Capture streams and converter -/

/-- The streams of R58. -/
inductive StreamId where
  | s0 | s1 | s2 | s3
  deriving DecidableEq, Repr

/-- Stream triggers (R58). -/
inductive Trigger where
  | pt0 | pt1 | gate | off
  deriving DecidableEq, Repr

/-- Stream modes (R58). -/
inductive StreamMode where
  | latest | page
  deriving DecidableEq, Repr

/-- Page buffer states (R66). -/
inductive BufferState where
  | empty | filling | full | held
  deriving DecidableEq, Repr

/-- A row: its revolution stamps and one raw value per column (R64). -/
structure Row where
  stampL : Nat
  stampR : Nat
  values : List Nat
  deriving DecidableEq, Repr

/-- A page buffer (R58, R66) with the marks its page takes at completion or stop (R60, R67). -/
structure Buffer where
  state : BufferState
  rows : List Row
  run : Nat
  seq : Nat
  short : Bool
  columns : List Nat
  deriving DecidableEq, Repr

/-- A buffer that is EMPTY, with no rows. -/
def Buffer.clear : Buffer := ⟨.empty, [], 0, 0, false, []⟩

/-- A stream's configuration, written whole (R59). -/
structure StreamConfig where
  columns : List Nat
  trigger : Trigger
  mode : StreamMode
  pageLength : Nat
  exclusive : Bool
  deriving DecidableEq, Repr

/-- A capture stream (R58). `waiting`: for a buffer (R59); `holding`: an exclusive page (R62). -/
structure Stream where
  config : StreamConfig
  running : Bool
  runNumber : Nat
  seqCounter : Nat
  lastDelivered : Nat
  bufA : Buffer
  bufB : Buffer
  requests : Nat
  rails : List Nat
  latest : Option Row
  waiting : Bool
  holding : Bool
  deriving DecidableEq, Repr

/-- The work the converter has in hand (R63). A row keeps the stream's run and columns as they stood when it began, the stamps
read then, the rail run counts it raises, and whether its stream was stopped meanwhile (R60, R64). -/
inductive Converter where
  | idle
  | row (stream : StreamId) (run : Nat) (columns : List Nat) (stampL stampR : Nat) (rails : List Nat) (discard : Bool)
  | oneOff (input : Nat)
  deriving DecidableEq, Repr

/-- The capture block (R58, R63, R71, R72). `faulted`, `oneOffs` and `faultDue` are sets of analog input numbers in rising order;
`faultDue` holds the inputs whose INPUT_FAULTED is due (log entry 1). -/
structure Capture where
  s0 : Stream
  s1 : Stream
  s2 : Stream
  s3 : Stream
  gateOpen : Bool
  faulted : List Nat
  oneOffs : List Nat
  faultDue : List Nat
  converter : Converter
  deriving DecidableEq, Repr

/-! ### Evaluation unit -/

/-- A page handed to the evaluation unit (R70). `inB`: it stands in buffer B. -/
structure Page where
  stream : StreamId
  inB : Bool
  run : Nat
  seq : Nat
  columns : List Nat
  short : Bool
  gap : Bool
  rows : List Row
  deriving DecidableEq, Repr

/-- The calibration of R79. -/
structure Calibration where
  gfL : Nat
  gfR : Nat
  gwL : Nat
  gwR : Nat
  zwL : Nat
  zwR : Nat
  gp : Nat
  zp : Nat
  gs : Nat
  zs : Nat
  nnom : Nat
  deriving DecidableEq, Repr

/-- The states of the evaluation context (R77); `noContext` is the manual's NONE. -/
inductive EvalContext where
  | noContext | weighing | zeroing | testing | draining | crossing | crossingDrain
  deriving DecidableEq, Repr

/-- What begin test gives (R77). -/
structure TestSetup where
  kind : TestKind
  pressure : Bool
  pref : Option Nat
  deriving DecidableEq, Repr

/-- A revolution in progress (R86). -/
structure Revolution where
  number : Nat
  opened : Bool
  clean : Bool
  low : Nat
  high : Nat
  deriving DecidableEq, Repr

/-- The accumulators kept per side (section 5.4). `riseRow` is the row, counted from 1, of the side's last Fmax rise, 0 for none. -/
structure SideAcc where
  fmax : Nat
  pAtMax : Option Nat
  imbAtRise : Option Nat
  riseRow : Nat
  rev : Option Revolution
  oval : Option Nat
  deriving DecidableEq, Repr

/-- The live values of R84: the last row's F L, F R and p. -/
structure LiveRow where
  fL : Nat
  fR : Nat
  p : Option Nat
  deriving DecidableEq, Repr

/-- The test accumulators (R83 to R87). `releaseFound` and `slipFound`: the judgement has reached its end in this test;
`releaseDue` and `slipDue`: its report is due (log entry 1). -/
structure TestAcc where
  left : SideAcc
  right : SideAcc
  runImb : Option Nat
  armed : Bool
  releaseCount : Nat
  releaseFound : Bool
  releaseDue : Bool
  slipCount : Nat
  slipFound : Bool
  slipDue : Bool
  rows : Nat
  live : Option LiveRow
  deriving DecidableEq, Repr

/-- A side's accumulators when cleared. -/
def SideAcc.clear : SideAcc := ⟨0, none, none, 0, none, none⟩

/-- The test accumulators when cleared (R77). -/
def TestAcc.clear : TestAcc :=
  ⟨SideAcc.clear, SideAcc.clear, none, false, 0, false, false, 0, false, false, 0, none⟩

/-- The axle result record as the unit forms it (R89), before the roller sequence adds ticket, axle and end reason. -/
structure FormedRecord where
  kind : TestKind
  load : Pair
  figures : Figures
  deriving DecidableEq, Repr

/-- The evaluation unit (R76, R77, R79). -/
structure Eval where
  slot : Option Page
  context : EvalContext
  loads : Option Pair
  zt : Option Pair
  rr : Option Pair
  wantS0 : Option Nat
  wantS1 : Option Nat
  test : TestSetup
  acc : TestAcc
  requested : Bool
  /-- The side-slip peak of a crossing (R95). -/
  peak : Option Int
  calib : Option Calibration
  deriving DecidableEq, Repr

/-! ### Roller and plate sequences -/

/-- The roller phases (R96). -/
inductive Phase where
  | idle | weigh | positioned | warn | spinUp | zero | test | stopping | result | exit
  deriving DecidableEq, Repr

/-- Fault causes of the roller sequence (R96). -/
inductive FaultCause where
  | noFeedback | dropout | noSpinUp | welded | sensor | noRows
  deriving DecidableEq, Repr

/-- Which of the waits of WARN the sequence phase timer bounds (R105, R106). -/
inductive WarnWait where
  | hornAlone | confirming | runOut
  deriving DecidableEq, Repr

/-- A ticket with an axle number. -/
structure FixedAxle where
  ticket : Nat
  axle : Nat
  deriving DecidableEq, Repr

/-- The roller sequence (R96). -/
structure Roller where
  phase : Phase
  fixed : Option FixedAxle
  weighed : Bool
  kind : TestKind
  endReason : Option EndReason
  held : Option FormedRecord
  resultWritten : Bool
  awaited : List Nat
  warnWait : Option WarnWait
  motors : Bool
  fbL : Bool
  fbR : Bool
  wheelCount : Nat
  rollDown : Nat
  feedbackCount : Nat
  weldedCount : Nat
  welded : Bool
  faultHold : Option FaultCause
  roleClash : Bool
  releaseOwed : Bool
  deriving DecidableEq, Repr

/-- The crossing states (R119). -/
inductive Crossing where
  | clear | onPlate | reversing
  deriving DecidableEq, Repr

/-- The measure item (R119); `unmeasured` is the manual's NONE. -/
inductive Measure where
  | measuring | draining | unmeasured
  deriving DecidableEq, Repr

/-- The crossing record (R119). -/
structure Plate where
  crossing : Crossing
  fixed : Option FixedAxle
  measure : Measure
  reportExit : Bool
  pendingEntry : Bool
  faultHold : Bool
  deriving DecidableEq, Repr

/-! ### Guidance unit -/

/-- The 22 prompts of R131. -/
inductive Prompt where
  | laneStopped | stationClash | sensorFault | motorFault | motorsStarting | warningFromPeer | calibrationMissing
  | roleClash | panelNotResponding | vehicleNotRegistered | laneFull | paperOut | applyBrake | applyParking
  | releaseBrake | axleResult | driveOff | entryRejected | wait | driveOn | printing | laneReady
  deriving DecidableEq, Repr

/-- The variable fields of the templates (R135), each present or absent. `apply`: stage APPLY, else START. -/
structure PromptFields where
  ticket : Option Nat := none
  axle : Option Nat := none
  station : Option Nat := none
  kind : Option TestKind := none
  apply : Bool := false
  stations : List Nat := []
  fmax : Option Pair := none
  fref : Option Pair := none
  imbalance : Option Nat := none
  endReason : Option EndReason := none
  cause : Option FaultCause := none
  stopCause : Option StopCause := none
  input : Option Nat := none
  subject : Option Subject := none
  deriving DecidableEq, Repr

/-- A prompt in the set (R130). `lowering`: standing LOWERING, else RAISED. -/
structure PromptEntry where
  prompt : Prompt
  fields : PromptFields
  lowering : Bool
  showCount : Nat
  life : Nat
  confirm : Bool
  deriving DecidableEq, Repr

/-- Horn patterns (R131, R141). -/
inductive HornPattern where
  | off | continuous | single | slow | fast
  deriving DecidableEq, Repr

/-- Horn tones (R131). -/
inductive Tone where
  | high | low
  deriving DecidableEq, Repr

/-- The horn engine (R141). -/
structure Horn where
  requested : HornPattern
  isNew : Bool
  inForce : HornPattern
  singleCount : Nat
  tone : Tone
  deriving DecidableEq, Repr

/-- The guidance unit (R130, R132, R139, R141). Prompts stand oldest first. `showDue`: MINIMUM_SHOW_TIME_MET is due (log entry 1);
`lastFrame`: the 44 bytes of the panel frame sent last. -/
structure Guidance where
  prompts : List PromptEntry
  displayed : Option Prompt
  showDue : Bool
  sending : Bool
  waiting : Bool
  lastFrame : Option (List Byte)
  horn : Horn
  deriving DecidableEq, Repr

/-! ### Certificate unit and archive -/

/-- States of a print job (R147). -/
inductive JobState where
  | queued | composing | printing | paperWait
  deriving DecidableEq, Repr

/-- A print job (R147); its kind is that of its subject. Requester 0 is an automatic job. -/
structure Job where
  subject : Subject
  requester : Nat
  state : JobState
  deriving DecidableEq, Repr

/-- The remarks of R94. -/
structure Remarks where
  ovality : Bool
  brakeDrag : Bool
  notReferenced : Bool
  deriving DecidableEq, Repr

/-- Which parts of an axle record are required (R153). -/
structure Required where
  load : Bool
  service : Bool
  parking : Bool
  slip : Bool
  deriving DecidableEq, Repr

/-- The station identity printed (R153, R176); UNSET is its absence. -/
structure Identity where
  laneName : List Byte
  approval : List Byte
  serial : List Byte
  deriving DecidableEq, Repr

/-- The certificate content (R153). `duplicate` is the duplicate number of a reprint (R152). -/
structure CertContent where
  number : CertNo
  ticket : Nat
  plate : List Byte
  cls : VehicleClass
  brake : BrakeSystem
  axleCount : Nat
  time : EntryTime
  parkingSet : List Nat
  steeredSet : List Nat
  axles : List AxleRecord
  denominator : Option Nat
  serviceRatio : Option Nat
  parkingRatio : Option Nat
  verdict : Verdict
  remarks : Remarks
  required : List Required
  identity : Option Identity
  duplicate : Option Nat
  deriving DecidableEq, Repr

/-- Page outcomes (R147). -/
inductive PageOutcome where
  | pass | fail | noOutcome
  deriving DecidableEq, Repr

/-- Archive outcomes (R147). -/
inductive ArchiveOutcome where
  | awaiting | pass | fail | noOutcome
  deriving DecidableEq, Repr

/-- A line of the OUTPUT page with its sent mark. -/
structure PrintLine where
  text : List Byte
  sent : Bool
  deriving DecidableEq, Repr

/-- What the print line is sending (R156): the lead line, a line of the OUTPUT page by its place, or a line handed from a page
that has since been emptied or is being sent again. -/
inductive PrintItem where
  | lead
  | line (i : Nat)
  | stale
  deriving DecidableEq, Repr

/-- The certificate unit (R147). `lead`: the OUTPUT page's lead line, with its sent mark. `composed` pages of the compose source have
been composed (R155); `footerFail` is whether the footer carries NOT ARCHIVED, fixed at its composition (R161). -/
structure Cert where
  jobs : List Job
  completed : List Nat
  source : Option CertContent
  compose : List (List Byte)
  lead : Option Bool
  output : List PrintLine
  current : PageOutcome
  previous : PageOutcome
  archiveOutcome : ArchiveOutcome
  sending : Option (PrintItem × List Byte)
  paperOut : Bool
  composed : Nat
  footerFail : Option Bool
  deriving DecidableEq, Repr

/-- What a slot's header reads (R163, R171). -/
inductive HeaderCell where
  | erased
  | checks (n : CertNo)
  | unreadable
  deriving DecidableEq, Repr

/-- What a slot's body reads (R163): erased, a content with the CRC-16 that stands behind it, or bytes that are no content at all. Whether
the CRC checks is formed at each reading (SlotStore.content). -/
inductive BodyCell where
  | erased
  | written (c : CertContent) (crc : BitVec 16)
  | damaged
  deriving DecidableEq, Repr

/-- What a mark place reads (R163). -/
inductive MarkCell where
  | unused
  | mark (requester : Nat)
  | spoiled
  deriving DecidableEq, Repr

/-- A slot's storage (R163). -/
structure SlotStore where
  header : HeaderCell
  body : BodyCell
  marks : List MarkCell
  deriving DecidableEq, Repr

/-- A slot that reads wholly erased. -/
def SlotStore.blank : SlotStore := ⟨.erased, .erased, [.unused, .unused, .unused]⟩

/-- Slot table states (R163). -/
inductive SlotState where
  | erased | record | bad
  deriving DecidableEq, Repr

/-- A row of the slot table (R163). -/
structure SlotRow where
  state : SlotState
  number : Option CertNo
  marks : Nat
  used : Nat
  deriving DecidableEq, Repr

/-- The row of an ERASED slot. -/
def SlotRow.blank : SlotRow := ⟨.erased, none, 0, 0⟩

/-- A request of the certificate unit to the archive (R164). -/
inductive ArchiveRequest where
  | record (c : CertContent)
  | mark (n : CertNo) (requester : Nat)
  deriving DecidableEq, Repr

/-- The archive's operation (R164): IDLE, ERASING a block for a record write (with the blocks that write has entered, R166),
or PROGRAMMING a record or a reprint mark. -/
inductive ArchiveOp where
  | idle
  | erasing (block : Nat) (c : CertContent) (entered : List Nat)
  | programRecord (slot : Nat) (c : CertContent)
  | programMark (slot place : Nat) (requester : Nat)
  deriving DecidableEq, Repr

/-- The certificate archive (R163 to R166). `storage` is non-volatile; the rest is not. -/
structure Archive where
  storage : List SlotStore
  table : List SlotRow
  op : ArchiveOp
  requests : List ArchiveRequest
  writePos : Nat
  nextSeq : Nat
  deriving DecidableEq, Repr

/-! ### The machine -/

/-- The state of the LS-340, block by block, and the queue of commands that wait. -/
structure State where
  power : Power
  startUp : StartUp
  pins : Pins
  lane : LaneView
  bus : Bus
  clock : Clock
  filter : Filter
  timers : Timers
  counters : Counters
  capture : Capture
  eval : Eval
  roller : Roller
  plate : Plate
  guidance : Guidance
  cert : Cert
  archive : Archive
  pending : List Instr
  deriving DecidableEq, Repr

/-- The reasons a command could stop the part: the manual gives none, so no meaning answers with one (INVENTORY.md, Faults). -/
inductive Fault where
  /-- Raised by no meaning; safe. -/
  | unused
  deriving DecidableEq, Repr

/-- The reasons a command could be refused. -/
inductive Refusal where
  /-- A command with no meaning yet, by its mnemonic; raised by a refused arm of exec only; safe. -/
  | notModelled (mnemonic : String)
  deriving DecidableEq, Repr

/-! ### Power-on values, block by block -/

/-- Every filtered line inactive (R47). -/
def Samples.inactive : Samples :=
  ⟨false, false, false, false, false, false, false, false, false, false, false, false⟩

/-- R172's start-up record; the strap items until the straps are read: DESIGN CHOICE, log entry 3. -/
def StartUp.reset : StartUp := ⟨0, .roller, false, false, false, none, false, false⟩

/-- R1. -/
def LaneView.reset : LaneView := ⟨[], 0⟩

/-- R41. -/
def Latch.reset : Latch := ⟨false, none, none, false⟩

/-- R30, R34, R38; the recessive count and the stamp source: DESIGN CHOICE, log entry 5. -/
def Bus.reset : Bus := ⟨.starting, .quiet, 0, [], 0, [], Latch.reset⟩

/-- R44; the passage to 0 at which the count stands gives no tick (R45: the first ticks come one period after reset). -/
def Clock.reset : Clock := ⟨0, true, true, true⟩

/-- R47. -/
def Filter.reset : Filter := ⟨Samples.inactive, Samples.inactive⟩

/-- R48, R50, R51, R52, R56; the duties: DESIGN CHOICE, log entry 5. -/
def Timers.reset : Timers :=
  ⟨⟨0, 0, false⟩, ⟨0, 0, false⟩, ⟨0, 0, false, false⟩, ⟨0, 0, 0, false, none, 0, 0⟩, ⟨false, 0, false⟩, ⟨false, 0, false⟩⟩

/-- R53, R55; the compares: DESIGN CHOICE, log entry 5. -/
def Counters.reset : Counters := ⟨0, 0, 0, 0, ⟨0, 0, 0, false⟩, ⟨0, 0, 0, false⟩⟩

/-- R58. -/
def Stream.reset : Stream :=
  ⟨⟨[], .off, .latest, 1024, false⟩, false, 0, 0, 0, Buffer.clear, Buffer.clear, 0, [], none, false, false⟩

/-- R58, R63, R72. -/
def Capture.reset : Capture :=
  ⟨Stream.reset, Stream.reset, Stream.reset, Stream.reset, false, [], [], [], .idle⟩

/-- R76, R77, R79; the parameters of begin test: DESIGN CHOICE, log entry 5. -/
def Eval.reset : Eval :=
  ⟨none, .noContext, none, none, none, none, none, ⟨.service, false, none⟩, TestAcc.clear, false, none, none⟩

/-- R96. -/
def Roller.reset : Roller :=
  ⟨.idle, none, false, .service, none, none, false, [], none, false, false, false, 0, 0, 0, 0, false, none, false, false⟩

/-- R119. -/
def Plate.reset : Plate := ⟨.clear, none, .unmeasured, false, false, false⟩

/-- R141; the tone: DESIGN CHOICE, log entry 5. -/
def Horn.reset : Horn := ⟨.off, false, .off, 0, .low⟩

/-- R130: LANE_READY alone, RAISED, with show count 0; R137, R139. -/
def Guidance.reset : Guidance :=
  ⟨[⟨.laneReady, {}, false, 0, 0, false⟩], none, false, false, false, none, Horn.reset⟩

/-- R147. -/
def Cert.reset : Cert :=
  ⟨[], [], none, [], none, [], .noOutcome, .noOutcome, .noOutcome, none, false, 0, none⟩

/-- The volatile part of the archive before the start-up scan (R164; the table, write position and next sequence:
DESIGN CHOICE, log entry 7), over the storage given. -/
def Archive.fresh (storage : List SlotStore) : Archive :=
  ⟨storage, List.replicate Config.slotCount SlotRow.blank, .idle, [], 0, 1⟩

/-- Every volatile item at its value for power-on and the RESET pin (R172), the archive's storage and the outside lines kept. -/
def State.fresh (power : Power) (storage : List SlotStore) (pins : Pins) (queue : List Instr) : State where
  power := power
  startUp := StartUp.reset
  pins := pins
  lane := LaneView.reset
  bus := Bus.reset
  clock := Clock.reset
  filter := Filter.reset
  timers := Timers.reset
  counters := Counters.reset
  capture := Capture.reset
  eval := Eval.reset
  roller := Roller.reset
  plate := Plate.reset
  guidance := Guidance.reset
  cert := Cert.reset
  archive := Archive.fresh storage
  pending := queue

/-- The machine right after power-on, held in reset (R172), with an archive that has never been written (log entry 7). -/
def State.reset : State :=
  State.fresh .held (List.replicate Config.slotCount SlotStore.blank) ⟨false, false⟩ []

/-! ### Updates, one per block -/

def State.setPower (s : State) (x : Power) : State := { s with power := x }
def State.setStartUp (s : State) (x : StartUp) : State := { s with startUp := x }
def State.setPins (s : State) (x : Pins) : State := { s with pins := x }
def State.setLane (s : State) (x : LaneView) : State := { s with lane := x }
def State.setBus (s : State) (x : Bus) : State := { s with bus := x }
def State.setClock (s : State) (x : Clock) : State := { s with clock := x }
def State.setFilter (s : State) (x : Filter) : State := { s with filter := x }
def State.setTimers (s : State) (x : Timers) : State := { s with timers := x }
def State.setCounters (s : State) (x : Counters) : State := { s with counters := x }
def State.setCapture (s : State) (x : Capture) : State := { s with capture := x }
def State.setEval (s : State) (x : Eval) : State := { s with eval := x }
def State.setRoller (s : State) (x : Roller) : State := { s with roller := x }
def State.setPlate (s : State) (x : Plate) : State := { s with plate := x }
def State.setGuidance (s : State) (x : Guidance) : State := { s with guidance := x }
def State.setCert (s : State) (x : Cert) : State := { s with cert := x }
def State.setArchive (s : State) (x : Archive) : State := { s with archive := x }
def State.setPending (s : State) (x : List Instr) : State := { s with pending := x }

end Sys2Proof.Machine
end

