-- ==== Sys2Proof/Machine/Arithmetic.lean ====
section
/-! DEFINITION. The arithmetic of the evaluation unit: conversion to engineering units, roller slip, the test accumulators row by
row, the axle result record, the vehicle's ratios, verdict and remarks, and side-slip (R79 to R95). All of it is exact. -/

namespace Sys2Proof.Machine

/-! ### Conversion (R80) -/

/-- The difference of a raw value and a zero, at least 0, times the gain, by 1024 (R80). -/
def scaled (raw offset gain : Nat) : Nat := (raw - offset) * gain / 1024

/-- The wheel load W of a load raw value (R80). -/
def wheelLoad (raw zw gw : Nat) : Nat := min 15000 (scaled raw zw gw)

/-- The rolling resistance RR of a mean ZERO force raw value (R80). -/
def rollingResistance (mean zt gf : Nat) : Nat := min 6000 (scaled mean zt gf)

/-- The brake force F of one row on one side (R80). -/
def brakeForce (raw zt gf rr : Nat) : Nat := min 6000 (scaled raw zt gf - rr)

/-- The pressure p of one row (R80). -/
def airPressure (raw zp gp : Nat) : Nat := min 1500 (scaled raw zp gp)

/-- The plate displacement X of one row, in hundredths of a mm, truncated toward zero (R95). -/
def displacement (raw zs gs : Nat) : Int :=
  max (-2000) (min 2000 (Int.tdiv (((raw : Int) - zs) * gs) 1024))

/-- The raw value of a row's column; columns are read by position (R80). -/
def Row.value (r : Row) (i : Nat) : Nat := r.values.getD i 0

/-- The mean of a column over a page's rows: floor(sum / row count) (R80). -/
def columnMean (rows : List Row) (i : Nat) : Nat := (rows.map (·.value i)).sum / rows.length

/-- The spin-up threshold formed from Nnom (R79). -/
def Calibration.threshold (c : Calibration) : Nat := 9 * c.nnom / 10

/-- The static zero pair of a WEIGH S0 page (R80, R81). -/
def staticZero (rows : List Row) : Pair := ⟨columnMean rows 0, columnMean rows 1⟩

/-- The wheel load pair of a WEIGH S1 page (R80, R81). -/
def wheelLoads (c : Calibration) (rows : List Row) : Pair :=
  ⟨wheelLoad (columnMean rows 0) c.zwL c.gwL, wheelLoad (columnMean rows 1) c.zwR c.gwR⟩

/-- The rolling resistance pair of a ZERO page (R80, R82). -/
def rollingPair (c : Calibration) (zt : Pair) (rows : List Row) : Pair :=
  ⟨rollingResistance (columnMean rows 0) zt.l c.gfL, rollingResistance (columnMean rows 1) zt.r c.gfR⟩

/-! ### Roller slip (R83) -/

/-- The slip of one side in a window, or not assessed (R83). -/
def sideSlip (nd ns : Nat) : Option Nat :=
  if nd < 20 then none else if nd ≤ ns then some 0 else some (100 * (nd - ns) / nd)

/-- Whether an assessed slip is 25 or more. -/
def slips (o : Option Nat) : Bool :=
  match o with
  | none => false
  | some v => decide (25 ≤ v)

/-- Whether a window is a slipping window (R83). -/
def WindowSample.slipping (w : WindowSample) : Bool := slips (sideSlip w.ndL w.nsL) || slips (sideSlip w.ndR w.nsR)

/-- A window judged in TESTING: the count, and at 2 the slip stop, once in the test (R83). -/
def TestAcc.judgeWindow (a : TestAcc) (w : WindowSample) : TestAcc :=
  if a.slipFound then a
  else if w.slipping then
    if 1 ≤ a.slipCount then { a with slipCount := a.slipCount + 1, slipFound := true, slipDue := true }
    else { a with slipCount := a.slipCount + 1 }
  else { a with slipCount := 0 }

/-! ### The test accumulators (R84 to R87) -/

/-- The row imbalance, for a row whose larger force is 100 or more (R85). -/
def rowImbalance (fL fR : Nat) : Option Nat :=
  if max fL fR < 100 then none else some (100 * (max fL fR - min fL fR) / max fL fR)

/-- The greater of two values, either of which may be absent. -/
def optMax : Option Nat → Option Nat → Option Nat
  | none, y => y
  | x, none => x
  | some a, some b => some (max a b)

/-- Fmax, p@max and the imbalance at the last rise, for one side (R84, R85). -/
def SideAcc.rise (a : SideAcc) (f : Nat) (p : Option Nat) (runImb : Option Nat) (rowNo : Nat) : SideAcc :=
  if a.fmax < f then { a with fmax := f, pAtMax := p, imbAtRise := runImb, riseRow := rowNo } else a

/-- The ovality of a completed revolution, if it qualifies (R86). -/
def Revolution.ovality (r : Revolution) : Option Nat :=
  if r.opened && r.clean && decide (100 ≤ r.low) then some (100 * (r.high - r.low) / r.high) else none

/-- The revolution in progress as a row's stamp takes it, and the greatest ovality (R86). `gap`: the row's page is marked GAP;
`first`: it is its page's first row. -/
def SideAcc.turn (a : SideAcc) (stamp f : Nat) (gap first : Bool) : SideAcc :=
  match a.rev with
  | none => { a with rev := some ⟨stamp, false, !gap, f, f⟩ }
  | some r0 =>
    let r := if gap && first then { r0 with clean := false } else r0
    if stamp = r.number then { a with rev := some { r with low := min r.low f, high := max r.high f } }
    else if stamp = (r.number + 1) % 256 then
      { a with rev := some ⟨stamp, true, !gap, f, f⟩, oval := optMax a.oval r.ovality }
    else { a with rev := some ⟨stamp, false, !gap, f, f⟩ }

/-- Whether a row is a release row: the leading side's force is below half its running Fmax (R87). -/
def releaseRow (fL fR fmaxL fmaxR : Nat) : Bool :=
  if fR < fL then decide (fL < fmaxL / 2)
  else if fL < fR then decide (fR < fmaxR / 2)
  else if fmaxL < fmaxR then decide (fR < fmaxR / 2)
  else decide (fL < fmaxL / 2)

/-- The release judgement of one row, made while the context is TESTING (R87). The accumulators given include this row. -/
def TestAcc.judgeRelease (a : TestAcc) (fL fR : Nat) (gapFirst : Bool) : TestAcc :=
  if a.releaseFound then a
  else
    let armed := a.armed || decide (300 ≤ max fL fR)
    let before := if gapFirst then 0 else a.releaseCount
    let count := if armed && releaseRow fL fR a.left.fmax a.right.fmax then before + 1 else 0
    if 4 ≤ count then { a with armed := armed, releaseCount := count, releaseFound := true, releaseDue := true }
    else { a with armed := armed, releaseCount := count }

/-- A row converted to engineering units (R84): F L, F R and, with a pressure column, p. -/
def liveRow (c : Calibration) (zt rr : Pair) (pressure : Bool) (r : Row) : LiveRow where
  fL := brakeForce (r.value 0) zt.l c.gfL rr.l
  fR := brakeForce (r.value 1) zt.r c.gfR rr.r
  p := if pressure then some (airPressure (r.value 2) c.zp c.gp) else none

/-- One row applied to every accumulator (R84 to R87). -/
def TestAcc.takeRow (a : TestAcc) (v : LiveRow) (stampL stampR : Nat) (testing gap first : Bool) : TestAcc :=
  let rowNo := a.rows + 1
  let imb := optMax a.runImb (rowImbalance v.fL v.fR)
  let left := (a.left.rise v.fL v.p imb rowNo).turn stampL v.fL gap first
  let right := (a.right.rise v.fR v.p imb rowNo).turn stampR v.fR gap first
  let a' := { a with left := left, right := right, runImb := imb, rows := rowNo, live := some v }
  if testing then a'.judgeRelease v.fL v.fR (gap && first) else a'

/-- The rows of a page in page order (R84). -/
def TestAcc.takeRows (c : Calibration) (zt rr : Pair) (pressure testing gap : Bool) :
    Bool → TestAcc → List Row → TestAcc
  | _, a, [] => a
  | first, a, r :: rs =>
    TestAcc.takeRows c zt rr pressure testing gap false
      (a.takeRow (liveRow c zt rr pressure r) r.stampL r.stampR testing gap first) rs

/-! ### The axle result record (R89, R90) -/

/-- The test's imbalance: that of the side with the greater Fmax, or of the side that reached it first (R85). -/
def TestAcc.imbalance (a : TestAcc) : Option Nat :=
  if a.right.fmax < a.left.fmax then a.left.imbAtRise
  else if a.left.fmax < a.right.fmax then a.right.imbAtRise
  else if a.left.riseRow ≤ a.right.riseRow then a.left.imbAtRise
  else a.right.imbAtRise

/-- One side's Fref, or not referenced (R90). A side with no p@max is not referenced (log entry 17). -/
def referenced (fmax : Nat) (p : Option Nat) (pref : Nat) : Option Nat :=
  match p with
  | none => none
  | some p =>
    if p < 60 then none
    else if 4 * (p - 40) < pref - 40 then none
    else some (min 9999 (fmax * (pref - 40) / (p - 40)))

/-- The Fref pair: present when both sides are referenced, in a SERVICE test with the pressure column and a pref (R90). -/
def TestAcc.frefPair (a : TestAcc) (t : TestSetup) : Option Pair :=
  match t.kind, t.pressure, t.pref with
  | .service, true, some pref =>
    match referenced a.left.fmax a.left.pAtMax pref, referenced a.right.fmax a.right.pAtMax pref with
    | some l, some r => some ⟨l, r⟩
    | _, _ => none
  | _, _, _ => none

/-- The record formed at the end of a test (R89). -/
def TestAcc.record (a : TestAcc) (t : TestSetup) (load rr : Pair) : FormedRecord where
  kind := t.kind
  load := load
  figures :=
    { fmax := ⟨a.left.fmax, a.right.fmax⟩
      fref := a.frefPair t
      imbalance := a.imbalance
      ovalL := a.left.oval
      ovalR := a.right.oval
      rr := rr }

/-! ### Side-slip (R95) -/

/-- The peak over a page's rows: the X of greatest magnitude, the first of equals (R95). -/
def takePeak (c : Calibration) (peak : Option Int) (rows : List Row) : Option Int :=
  rows.foldl (fun acc r =>
    let x := displacement (r.value 0) c.zs c.gs
    match acc with
    | none => some x
    | some y => if y.natAbs < x.natAbs then some x else some y) peak

/-- The slip of a crossing, in tenths of mm/m (R95). -/
def slipOfPeak (peak : Int) : Int := Int.tdiv peak 10

/-! ### The vehicle computation (R91 to R94) -/

/-- The record of an axle, 1 to the axle count. -/
def Entry.axle? (e : Entry) (n : Nat) : Option AxleRecord := if n = 0 then none else e.axles[n - 1]?

/-- Whether an axle of the parking set holds a parking result. -/
def Entry.hasParking (e : Entry) (n : Nat) : Bool :=
  match e.axle? n with
  | some a => a.parking.isSome
  | none => false

/-- The completeness condition of R16, slip required or not. -/
def Entry.isComplete (e : Entry) (slipRequired : Bool) : Bool :=
  e.axles.all (fun a => a.load.isSome && a.service.isSome) &&
  e.parkingSet.all e.hasParking &&
  (!slipRequired || e.axles.all (·.slip.isSome))

/-- The sum of load L and load R over the axles, when every axle holds a load (R91). -/
def loadSum : List AxleRecord → Option Nat
  | [] => some 0
  | a :: as =>
    match a.load, loadSum as with
    | some w, some t => some (w.l + w.r + t)
    | _, _ => none

/-- The denominator D, or not formed (R91). -/
def Entry.denominator (e : Entry) : Option Nat :=
  match e.brake, e.weight with
  | .air, some w => some w
  | _, _ => loadSum e.axles

/-- What a service result adds to the service sum: Fref where present, else Fmax (R92). -/
def BrakeResult.serviceForce (b : BrakeResult) : Nat :=
  match b.figures.fref with
  | some f => f.l + f.r
  | none => b.figures.fmax.l + b.figures.fmax.r

/-- The service sum, when every axle holds a service result (R92). -/
def serviceSum : List AxleRecord → Option Nat
  | [] => some 0
  | a :: as =>
    match a.service, serviceSum as with
    | some b, some t => some (b.serviceForce + t)
    | _, _ => none

/-- The parking sum over the axles given, when each holds a parking result (R92). -/
def Entry.parkingSum (e : Entry) : List Nat → Option Nat
  | [] => some 0
  | n :: ns =>
    match (e.axle? n).bind (·.parking), e.parkingSum ns with
    | some b, some t => some (b.figures.fmax.l + b.figures.fmax.r + t)
    | _, _ => none

/-- A ratio in tenths of a percent, saturated at 9999 (R92). -/
def ratio (sum d : Nat) : Nat := min 9999 (1000 * sum / d)

/-- A ratio over the denominator: absent when D is not formed or 0 (R91, R92). -/
def Entry.ratioOf (e : Entry) (sum : Option Nat) : Option Nat :=
  match sum, e.denominator with
  | some t, some d => if d = 0 then none else some (ratio t d)
  | _, _ => none

/-- The service ratio (R92). -/
def Entry.formServiceRatio (e : Entry) : Option Nat := e.ratioOf (serviceSum e.axles)

/-- The parking ratio (R92). -/
def Entry.formParkingRatio (e : Entry) : Option Nat :=
  if e.parkingSet.isEmpty then none else e.ratioOf (e.parkingSum e.parkingSet)

/-- The service minimum of a class (R93). -/
def VehicleClass.serviceMinimum : VehicleClass → Nat
  | .light => 580 | .heavy => 500 | .trailer => 450

/-- The parking minimum of every class (R93). -/
def parkingMinimum : Nat := 160

/-- Whether a ratio is absent or below its minimum (R93). -/
def belowMinimum (r : Option Nat) (minimum : Nat) : Bool :=
  match r with
  | none => true
  | some v => decide (v < minimum)

/-- Whether an axle's service result holds an imbalance above 30 (R93). -/
def AxleRecord.unbalanced (a : AxleRecord) : Bool :=
  match a.service.bind (·.figures.imbalance) with
  | some v => decide (30 < v)
  | none => false

/-- Whether a steered axle holds a slip of magnitude above 70 (R93). -/
def Entry.slipFails (e : Entry) (n : Nat) : Bool :=
  match (e.axle? n).bind (·.slip) with
  | some v => decide (70 < v.natAbs)
  | none => false

/-- The verdict (R93). A COMPLETE entry is not held against the completeness test again (R16; log entry 11). -/
def Entry.formVerdict (e : Entry) (slipRequired : Bool) : Verdict :=
  if e.state ≠ .complete && !e.isComplete slipRequired then .incomplete
  else if belowMinimum e.serviceRatio e.cls.serviceMinimum then .fail
  else if !e.parkingSet.isEmpty && belowMinimum e.parkingRatio parkingMinimum then .fail
  else if e.axles.any AxleRecord.unbalanced then .fail
  else if e.steeredSet.any e.slipFails then .fail
  else .pass

/-- Whether a result holds an ovality above 20 (R94). -/
def BrakeResult.oval (b : BrakeResult) : Bool :=
  (match b.figures.ovalL with | some v => decide (20 < v) | none => false) ||
  (match b.figures.ovalR with | some v => decide (20 < v) | none => false)

/-- Whether a result's rolling resistance is above a twentieth of a side's load (R94). -/
def BrakeResult.drags (b : BrakeResult) (load : Pair) : Bool :=
  decide (load.l / 20 < b.figures.rr.l) || decide (load.r / 20 < b.figures.rr.r)

/-- The results of an axle record, service and parking. -/
def AxleRecord.results (a : AxleRecord) : List BrakeResult := a.service.toList ++ a.parking.toList

/-- The remarks (R94). -/
def Entry.formRemarks (e : Entry) : Remarks where
  ovality := e.axles.any fun a => a.results.any BrakeResult.oval
  brakeDrag := e.axles.any fun a =>
    match a.load with
    | some w => a.results.any (·.drags w)
    | none => false
  notReferenced := decide (e.brake = .air) && e.axles.any fun a =>
    match a.service with
    | some b => b.figures.fref.isNone
    | none => false

end Sys2Proof.Machine
end

