-- ==== Sys2Proof/Machine/Flags.lean ====
section
/-! DEFINITION. The status values of the part, each computed from the state in one place: which units run, the holds of IDLE, the
activity, current ticket, printer state and mode of PRESENCE, lane clock levels, slip requirement, designated printer. -/

namespace Sys2Proof.Machine

/-- The part is powered and out of reset (R172). -/
def State.isRunning (s : State) : Bool := s.power == .running

/-- Start-up has ended (R172). -/
def State.started (s : State) : Bool := s.isRunning && s.startUp.ended

/-- The roller sequence takes events: a ROLLER station after start-up (R96). -/
def State.rollerActive (s : State) : Bool := s.started && s.startUp.role == .roller

/-- The plate sequence takes events: a PLATE station after start-up (R119). -/
def State.plateActive (s : State) : Bool := s.started && s.startUp.role == .plate

/-- The guidance unit acts as a lane entrance panel (R143, R146). -/
def State.isPanel (s : State) : Bool := s.isRunning && s.startUp.role == .panel

/-- The certificate unit takes events: after start-up, with the printer strap set (R147). -/
def State.printerActive (s : State) : Bool := s.started && s.startUp.printer

/-- Measuring is enabled: the station holds a calibration (R79, R176). -/
def State.measures (s : State) : Bool := s.eval.calib.isSome

/-- IDLE is held (R102): fault hold, lane stop latch, role clash or measuring disabled. -/
def State.idleHeld (s : State) : Bool :=
  s.roller.faultHold.isSome || s.bus.latch.stopped || s.roller.roleClash || !s.measures

/-- The roller sequence's activity (R100). -/
def Roller.activity (r : Roller) : Activity :=
  if r.faultHold.isSome then .fault else if r.phase = .idle then .idle else .testing

/-- The roller sequence's current ticket (R100). -/
def Roller.currentTicket (r : Roller) : Nat :=
  if r.faultHold.isNone && decide (r.phase = .idle) then 0
  else match r.fixed with
    | some a => a.ticket
    | none => 0

/-- The plate sequence's activity (R120). -/
def Plate.activity (p : Plate) : Activity :=
  if p.faultHold then .fault else if p.crossing = .onPlate then .testing else .idle

/-- The plate sequence's current ticket (R120). -/
def Plate.currentTicket (p : Plate) : Nat :=
  if !p.faultHold && decide (p.crossing ≠ .onPlate) then 0
  else match p.fixed with
    | some a => a.ticket
    | none => 0

/-- The activity of PRESENCE (R33). -/
def State.activity (s : State) : Activity :=
  match s.startUp.role with
  | .roller => s.roller.activity
  | .plate => s.plate.activity
  | .panel => .idle

/-- The current ticket of PRESENCE (R33). -/
def State.currentTicket (s : State) : Nat :=
  match s.startUp.role with
  | .roller => s.roller.currentTicket
  | .plate => s.plate.currentTicket
  | .panel => 0

/-- The role of PRESENCE (R33). -/
def Role.peerRole : Role → PeerRole
  | .roller => .roller | .plate => .plate | .panel => .panel

/-- The printer state (R148). -/
def State.printerState (s : State) : PrinterState :=
  if !s.startUp.printer then .noPrinter
  else if s.cert.paperOut then .paperOut
  else match s.cert.jobs with
    | j :: _ => if j.state = .composing || j.state = .printing then .printing else .ready
    | [] => .ready

/-- The mode field of PRESENCE (R33). -/
def State.presenceMode (s : State) : PresenceMode :=
  if s.bus.latch.stopped then .stopped else if s.bus.mode = .degraded then .degraded else .ready

/-- The PRESENCE frame as the station stands (R33). -/
def State.presenceFrame (s : State) : LaneFrame :=
  .presence s.startUp.role.peerRole s.presenceMode s.activity s.currentTicket s.printerState

/-- The three fields whose change asks for a PRESENCE (R33). -/
def State.presenceKey (s : State) : PresenceMode × Activity × PrinterState :=
  (s.presenceMode, s.activity, s.printerState)

/-- The four divided signals (R45). -/
inductive Divided where
  | hz32 | hz8 | hz2 | hz1
  deriving DecidableEq, Repr

/-- The count bit a divided signal is taken from (R45). -/
def Divided.bit : Divided → Nat
  | .hz32 => 2 | .hz8 => 4 | .hz2 => 6 | .hz1 => 7

/-- The period of a divided signal, in counts (R45). -/
def Divided.period (d : Divided) : Nat := 2 ^ (d.bit + 1)

/-- The level of a divided signal (R45). -/
def Clock.level (c : Clock) (d : Divided) : Bool := c.count.testBit d.bit

/-- The ticks that the passage to a count gives (R45): of each signal whose period the count is a multiple of. The 2 Hz tick is taken by
no block (R46; log entry 31). -/
def ticksAt (count : Nat) : List Divided := [.hz32, .hz8, .hz2, .hz1].filter fun d => count % d.period == 0

/-- The level of the 8 Hz signal: bit 4 of the count (R45). -/
def Clock.level8 (c : Clock) : Bool := c.level .hz8

/-- The level of the 2 Hz signal: bit 6 of the count (R45). -/
def Clock.level2 (c : Clock) : Bool := c.level .hz2

/-- The level of the 1 Hz signal: bit 7 of the count (R45). -/
def Clock.level1 (c : Clock) : Bool := c.level .hz1

/-- Whether slip is required (R16): the own role is PLATE, or the peer list holds a PLATE. -/
def State.slipRequired (s : State) : Bool :=
  s.startUp.role == .plate || s.bus.peers.any (·.role == some .plate)

/-- The PANEL stations of the peer list, which a warning awaits (R105). -/
def State.panelPeers (s : State) : List Nat :=
  (s.bus.peers.filter (·.role == some .panel)).map (·.station)

/-- The ROLLER peers of lower number than this station, lowest first (R116). -/
def State.lowerRollers (s : State) : List Nat :=
  (s.bus.peers.filter fun p => p.role == some .roller && decide (p.station < s.startUp.ownNumber)).map (·.station)

/-- Whether a printer state counts for the designated printer (R149). -/
def canPrint (p : Option PrinterState) : Bool := p == some .ready || p == some .printing

/-- Whether this station is the designated printer (R149). -/
def State.designated (s : State) : Bool :=
  canPrint (some s.printerState) &&
  s.bus.peers.all fun p => !canPrint p.printer || decide (s.startUp.ownNumber < p.station)

/-- The lamp dimmer line, true lit (R51). -/
def Dimmer.lit (d : Dimmer) : Bool := d.running && decide (d.q ≤ d.p) && decide (d.counter ≤ d.q)

end Sys2Proof.Machine
end

