-- ==== Sys2Proof/Machine/Frames.lean ====
section
/-! DEFINITION. Lane frames at bit level and their payloads: the CRC-16, the stuffed region, what a receiver makes of the bits
it reads, and the encoding of every frame the station queues (R22 to R25, R179, R180). -/

namespace Sys2Proof.Machine

/-! ### Bits and the CRC-16 -/

/-- The `w` low bits of `n`, most significant first (R24, R179). -/
def natBits (w n : Nat) : List Bool := (List.range w).reverse.map n.testBit

/-- The number read from bits, most significant first. -/
def bitsNat (bs : List Bool) : Nat := bs.foldl (fun n b => 2 * n + b.toNat) 0

/-- A byte's bits, most significant first. -/
def byteBits (b : Byte) : List Bool := natBits 8 b.toNat

/-- One bit through the generator x^16 + x^12 + x^5 + 1 (R179). -/
def crcStep (crc : BitVec 16) (bit : Bool) : BitVec 16 :=
  if crc.msb != bit then (crc <<< 1) ^^^ 0x1021#16 else crc <<< 1

/-- The CRC-16 of a run of bits: the register starts at all ones and is taken as it stands (R179). -/
def crcBits (bs : List Bool) : BitVec 16 := bs.foldl crcStep 0xFFFF#16

/-- The CRC-16 of bytes, each bit taken most significant first (R179). -/
def crcBytes (bs : List Byte) : BitVec 16 := crcBits (bs.flatMap byteBits)

/-! ### Frames on the wire -/

/-- A frame as its header and payload stand on the bus (R24). -/
structure WireFrame where
  cls : Nat
  kind : Nat
  source : Nat
  payload : List Byte
  deriving DecidableEq, Repr

/-- The header's and length's 16 bits (R179). -/
def WireFrame.headBits (f : WireFrame) : List Bool :=
  natBits 2 f.cls ++ natBits 5 f.kind ++ natBits 4 f.source ++ natBits 5 f.payload.length

/-- The bits the CRC runs over: header, length and payload (R24). -/
def WireFrame.crcInput (f : WireFrame) : List Bool := f.headBits ++ f.payload.flatMap byteBits

/-- The stuffed region before stuffing: start bit to last CRC bit; false is dominant (R22, R23, R24). -/
def WireFrame.region (f : WireFrame) : List Bool :=
  false :: (f.crcInput ++ natBits 16 (crcBits f.crcInput).toNat)

/-- Bit stuffing (R23). `lvl` and `run`: the level and length of the run of equal bits that stands before the list. A stuff bit
follows every fifth equal bit, the region's last one included, and counts as the first bit of the next run. -/
def stuff (lvl : Bool) (run : Nat) : List Bool → List Bool
  | [] => if run = 5 then [!lvl] else []
  | b :: bs =>
    if run = 5 then (!lvl) :: b :: stuff b (if b = !lvl then 2 else 1) bs
    else b :: stuff b (if b = lvl then run + 1 else 1) bs

/-- The end field: 8 recessive bits, not stuffed (R23, R24). -/
def endField : List Bool := List.replicate 8 true

/-- Every bit of a frame as it is sent (R24). -/
def WireFrame.bits (f : WireFrame) : List Bool := stuff true 0 f.region ++ endField

/-- How many recessive bits a run of bits ends with: they open the count of R22, which stops at 12. -/
def trailingRecessive (bs : List Bool) : Nat :=
  min Config.idleBits (bs.reverse.takeWhile id).length

/-! ### The receiver -/

/-- The taking of `n` data bits from a stuffed run of bits: a violation, too few bits, or the data with what stands after it. -/
inductive Destuffed where
  | violation
  | tooFew
  | taken (data : List Bool) (lvl : Bool) (run : Nat) (rest : List Bool)
  deriving DecidableEq, Repr

/-- Put one data bit before those taken. -/
def Destuffed.push (b : Bool) : Destuffed → Destuffed
  | .taken d lvl run rest => .taken (b :: d) lvl run rest
  | .violation => .violation
  | .tooFew => .tooFew

/-- Remove the stuff bits from the bits read, up to `n` data bits (R23, R25). -/
def destuff (n : Nat) (lvl : Bool) (run : Nat) : List Bool → Destuffed
  | [] => if n = 0 then .taken [] lvl run [] else .tooFew
  | b :: bs =>
    if n = 0 then .taken [] lvl run (b :: bs)
    else if run = 5 then (if b = lvl then .violation else destuff n b 1 bs)
    else (destuff (n - 1) b (if b = lvl then run + 1 else 1) bs).push b

/-- What a receiver makes of the bits read from a start bit on (R25). -/
inductive Reception where
  | incomplete
  | discarded
  | heard (f : WireFrame)
  deriving DecidableEq, Repr

/-- The bytes of a run of bits, eight by eight. -/
def bytesOfBits : Nat → List Bool → List Byte
  | 0, _ => []
  | n + 1, bs => BitVec.ofNat 8 (bitsNat (bs.take 8)) :: bytesOfBits n (bs.drop 8)

/-- The end field: discarded at a dominant bit (R25). -/
def receiveEnd (f : WireFrame) (rest : List Bool) : Reception :=
  if (rest.take 8).all id then (if 8 ≤ rest.length then .heard f else .incomplete) else .discarded

/-- After the CRC field: the stuff bit that follows it when its last five bits are equal, then the end field (R23). -/
def receiveTail (f : WireFrame) (lvl : Bool) (run : Nat) (rest : List Bool) : Reception :=
  if run = 5 then
    match rest with
    | [] => .incomplete
    | b :: bs => if b = lvl then .discarded else receiveEnd f bs
  else receiveEnd f rest

/-- Payload and CRC, once the header and the length are known: discarded at a stuffing violation or a CRC that does not match (R25). -/
def receiveBody (head : List Bool) (lvl : Bool) (run : Nat) (rest : List Bool) : Reception :=
  let n := bitsNat (head.drop 11)
  match destuff (8 * n + 16) lvl run rest with
  | .violation => .discarded
  | .tooFew => .incomplete
  | .taken data lvl' run' rest' =>
    if natBits 16 (crcBits (head ++ data.take (8 * n))).toNat = data.drop (8 * n) then
      receiveTail ⟨bitsNat (head.take 2), bitsNat ((head.drop 2).take 5), bitsNat ((head.drop 7).take 4),
        bytesOfBits n (data.take (8 * n))⟩ lvl' run' rest'
    else .discarded

/-- A receiver's judgement of the bits of a frame, from its start bit on (R25). -/
def receive (bits : List Bool) : Reception :=
  match destuff 17 true 0 bits with
  | .violation => .discarded
  | .tooFew => .incomplete
  | .taken data lvl run rest =>
    if data.head? = some true then .incomplete
    else if 29 ≤ bitsNat (data.drop 12) then .discarded
    else receiveBody (data.drop 1) lvl run rest

/-! ### Payload fields (R180) -/

/-- One byte; values above 255 do not occur in one-byte fields. -/
def byteOf (n : Nat) : Byte := BitVec.ofNat 8 n

/-- Two bytes, most significant first. -/
def wordBytes (n : Nat) : List Byte := [byteOf (n / 256), byteOf n]

/-- An optional two-byte field: absent is all ones. -/
def optWordBytes (o : Option Nat) : List Byte := wordBytes (o.getD 65535)

/-- An optional one-byte field: absent is all ones. -/
def optByte (o : Option Nat) : Byte := byteOf (o.getD 255)

/-- A signed two-byte field in two's complement. -/
def signedBytes (i : Int) : List Byte := wordBytes (BitVec.ofInt 16 i).toNat

/-- A certificate number in three bytes. -/
def certBytes (n : CertNo) : List Byte := byteOf n.station :: wordBytes n.seq

def StopCause.code : StopCause → Nat
  | .stopInput => 0 | .contactor => 1 | .desk => 2

def TestKind.code : TestKind → Nat
  | .service => 0 | .parking => 1

def EndReason.code : EndReason → Nat
  | .slip => 0 | .release => 1 | .time => 2

def AxleEventKind.code : AxleEventKind → Nat
  | .arrived => 0 | .left => 1

def MeasuringRole.code : MeasuringRole → Nat
  | .roller => 0 | .plate => 1

def PeerRole.code : PeerRole → Nat
  | .roller => 0 | .plate => 1 | .panel => 2 | .desk => 3

def PresenceMode.code : PresenceMode → Nat
  | .ready => 0 | .stopped => 1 | .degraded => 2

def Activity.code : Activity → Nat
  | .idle => 0 | .testing => 1 | .fault => 2

def PrinterState.code : PrinterState → Nat
  | .noPrinter => 0 | .ready => 1 | .printing => 2 | .paperOut => 3

def Verdict.code : Verdict → Nat
  | .pass => 0 | .fail => 1 | .incomplete => 2

def AnswerOutcome.code : AnswerOutcome → Nat
  | .printed => 0 | .failedPaper => 1 | .refusedQueueFull => 2 | .refusedNoPrinter => 3
  | .refusedUnknown => 4 | .refusedLimit => 5 | .refusedDamaged => 6

/-- The four bytes of a PRINT_ANSWER's subject: its type, then a ticket behind a 0 byte, or a certificate number (R180). -/
def Subject.bytes : Subject → List Byte
  | .ticket t => byteOf 0 :: byteOf 0 :: wordBytes t
  | .certificate n => byteOf 1 :: certBytes n

/-- The class of a queued frame (section 2.9). -/
def LaneFrame.cls : LaneFrame → Nat
  | .laneStop _ => 0
  | .laneResume => 0
  | .motorWarning _ _ _ => 1
  | .warningShown _ _ _ => 1
  | .rollersStopped _ _ => 1
  | .axleEvent _ _ _ _ => 2
  | .axleLoad _ _ _ => 2
  | .brakeResult _ _ _ _ _ _ => 2
  | .slipResult _ _ _ => 2
  | .certDone _ _ _ => 2
  | .printAnswer _ _ _ => 2
  | .presence _ _ _ _ _ => 3

/-- The kind number of a queued frame within its class (R180). -/
def LaneFrame.kind : LaneFrame → Nat
  | .laneStop _ => 1
  | .laneResume => 2
  | .motorWarning _ _ _ => 1
  | .warningShown _ _ _ => 2
  | .rollersStopped _ _ => 3
  | .axleEvent _ _ _ _ => 4
  | .axleLoad _ _ _ => 5
  | .brakeResult _ _ _ _ _ _ => 6
  | .slipResult _ _ _ => 7
  | .certDone _ _ _ => 10
  | .printAnswer _ _ _ => 11
  | .presence _ _ _ _ _ => 1

/-- The payload bytes of a queued frame (R180). -/
def LaneFrame.payload : LaneFrame → List Byte
  | .laneStop c => [byteOf c.code]
  | .laneResume => []
  | .motorWarning t a k => wordBytes t ++ [byteOf a, byteOf k.code]
  | .warningShown st t a => byteOf st :: wordBytes t ++ [byteOf a]
  | .rollersStopped t a => wordBytes t ++ [byteOf a]
  | .axleEvent t a e r => wordBytes t ++ [byteOf a, byteOf e.code, byteOf r.code]
  | .axleLoad t a w => wordBytes t ++ [byteOf a] ++ wordBytes w.l ++ wordBytes w.r
  | .brakeResult t a k e w f =>
    wordBytes t ++ [byteOf a, byteOf k.code, byteOf e.code] ++ wordBytes w.l ++ wordBytes w.r ++
      wordBytes f.fmax.l ++ wordBytes f.fmax.r ++ optWordBytes (f.fref.map Pair.l) ++ optWordBytes (f.fref.map Pair.r) ++
      [optByte f.imbalance, optByte f.ovalL, optByte f.ovalR] ++ wordBytes f.rr.l ++ wordBytes f.rr.r
  | .slipResult t a i => wordBytes t ++ [byteOf a] ++ signedBytes i
  | .certDone t n v => wordBytes t ++ certBytes n ++ [byteOf v.code]
  | .printAnswer st sub o => byteOf st :: sub.bytes ++ [byteOf o.code]
  | .presence r m a t p => [byteOf r.code, byteOf m.code, byteOf a.code] ++ wordBytes t ++ [byteOf p.code]

/-- A queued frame on the wire, from a station of the number given. -/
def LaneFrame.wire (own : Nat) (f : LaneFrame) : WireFrame := ⟨f.cls, f.kind, own, f.payload⟩

/-- Whether a length is allowed for a class and kind; none for a pair that is not in the kind table (R26, R180). -/
def kindLength (cls kind len : Nat) : Option Bool :=
  match cls, kind with
  | 0, 1 => some (len == 1)
  | 0, 2 => some (len == 0)
  | 1, 1 => some (len == 4)
  | 1, 2 => some (len == 4)
  | 1, 3 => some (len == 3)
  | 2, 1 => some (len == 0)
  | 2, 2 => some (len == 2)
  | 2, 3 => some (decide (17 ≤ len) && decide (len ≤ 28))
  | 2, 4 => some (len == 5)
  | 2, 5 => some (len == 7)
  | 2, 6 => some (len == 24)
  | 2, 7 => some (len == 5)
  | 2, 8 => some (len == 3)
  | 2, 9 => some (len == 4)
  | 2, 10 => some (len == 6)
  | 2, 11 => some (len == 6)
  | 3, 1 => some (len == 6)
  | _, _ => none

/-- Whether a frame makes sense: its class and kind stand in the kind table and its length is allowed (R26). -/
def WireFrame.sensible (f : WireFrame) : Bool :=
  kindLength f.cls f.kind f.payload.length == some true

end Sys2Proof.Machine
end

