-- ==== Sys2Proof/Machine/Operands.lean ====
section
/-! DEFINITION. The operands of heard frames read from their payload bytes (R180): every enumerated field, every optional field,
the signed slip, axle sets and certificate numbers. A code outside its table reads as none, which refuses the frame at its block. -/

namespace Sys2Proof.Machine

/-- The byte at a place of a payload. -/
def byteAt (p : List Byte) (i : Nat) : Nat := (p.getD i 0).toNat

/-- The two-byte field at a place, most significant byte first. -/
def wordAt (p : List Byte) (i : Nat) : Nat := 256 * byteAt p i + byteAt p (i + 1)

/-- An optional two-byte field: 65535 is absent. -/
def optWordAt (p : List Byte) (i : Nat) : Option Nat :=
  if wordAt p i = 65535 then none else some (wordAt p i)

/-- An optional one-byte field: 255 is absent. -/
def optByteAt (p : List Byte) (i : Nat) : Option Nat :=
  if byteAt p i = 255 then none else some (byteAt p i)

/-- A signed two-byte field in two's complement. -/
def signedAt (p : List Byte) (i : Nat) : Int := (BitVec.ofNat 16 (wordAt p i)).toInt

/-- A certificate number in three bytes. -/
def certAt (p : List Byte) (i : Nat) : CertNo := ⟨byteAt p i, wordAt p (i + 1)⟩

def readStopCause : Nat → Option StopCause
  | 0 => some .stopInput | 1 => some .contactor | 2 => some .desk | _ => none

def readTestKind : Nat → Option TestKind
  | 0 => some .service | 1 => some .parking | _ => none

def readEndReason : Nat → Option EndReason
  | 0 => some .slip | 1 => some .release | 2 => some .time | _ => none

def readClass : Nat → Option VehicleClass
  | 0 => some .light | 1 => some .heavy | 2 => some .trailer | _ => none

def readBrake : Nat → Option BrakeSystem
  | 0 => some .hydraulic | 1 => some .air | _ => none

def readAxleEvent : Nat → Option AxleEventKind
  | 0 => some .arrived | 1 => some .left | _ => none

def readMeasuringRole : Nat → Option MeasuringRole
  | 0 => some .roller | 1 => some .plate | _ => none

def readPeerRole : Nat → Option PeerRole
  | 0 => some .roller | 1 => some .plate | 2 => some .panel | 3 => some .desk | _ => none

def readPresenceMode : Nat → Option PresenceMode
  | 0 => some .ready | 1 => some .stopped | 2 => some .degraded | _ => none

def readActivity : Nat → Option Activity
  | 0 => some .idle | 1 => some .testing | 2 => some .fault | _ => none

def readPrinterState : Nat → Option PrinterState
  | 0 => some .noPrinter | 1 => some .ready | 2 => some .printing | 3 => some .paperOut | _ => none

def readVerdict : Nat → Option Verdict
  | 0 => some .pass | 1 => some .fail | 2 => some .incomplete | _ => none

/-- The axles of an axle set byte, axle k in bit k − 1, those above the axle count dropped (R5, R180). -/
def axlesOf (set count : Nat) : List Nat :=
  ((List.range 8).map (· + 1)).filter fun k => set.testBit (k - 1) && decide (k ≤ count)

/-- The fields of a VEHICLE_ENTRY (R180), enumerated fields unread where their code is out of range. -/
structure EntryFields where
  ticket : Nat
  cls : Option VehicleClass
  brake : Option BrakeSystem
  axleCount : Nat
  parking : Nat
  steered : Nat
  pref : Option Nat
  weight : Option Nat
  time : EntryTime
  plate : List Byte
  deriving DecidableEq, Repr

/-- VEHICLE_ENTRY (R180). -/
def readEntry (p : List Byte) : EntryFields where
  ticket := wordAt p 0
  cls := readClass (byteAt p 2)
  brake := readBrake (byteAt p 3)
  axleCount := byteAt p 4
  parking := byteAt p 5
  steered := byteAt p 6
  pref := optWordAt p 7
  weight := optWordAt p 9
  time := ⟨wordAt p 11, byteAt p 13, byteAt p 14, byteAt p 15, byteAt p 16⟩
  plate := p.drop 17

/-- The fields of a BRAKE_RESULT (R180), before they are brought into range. -/
structure BrakeFields where
  ticket : Nat
  axle : Nat
  kind : Option TestKind
  reason : Option EndReason
  load : Pair
  fmax : Pair
  frefL : Option Nat
  frefR : Option Nat
  imbalance : Option Nat
  ovalL : Option Nat
  ovalR : Option Nat
  rr : Pair
  deriving DecidableEq, Repr

/-- BRAKE_RESULT (R180). -/
def readBrakeResult (p : List Byte) : BrakeFields where
  ticket := wordAt p 0
  axle := byteAt p 2
  kind := readTestKind (byteAt p 3)
  reason := readEndReason (byteAt p 4)
  load := ⟨wordAt p 5, wordAt p 7⟩
  fmax := ⟨wordAt p 9, wordAt p 11⟩
  frefL := optWordAt p 13
  frefR := optWordAt p 15
  imbalance := optByteAt p 17
  ovalL := optByteAt p 18
  ovalR := optByteAt p 19
  rr := ⟨wordAt p 20, wordAt p 22⟩

/-- The fields a PRESENCE gives a peer entry; none when any enumerated field is out of range (R34). -/
def readPresence (p : List Byte) : Option (PeerRole × Activity × Nat × PrinterState) :=
  match readPeerRole (byteAt p 0), readPresenceMode (byteAt p 1), readActivity (byteAt p 2), readPrinterState (byteAt p 5) with
  | some r, some _, some a, some q => some (r, a, wordAt p 3, q)
  | _, _, _, _ => none

end Sys2Proof.Machine
end

