-- ==== Sys2Proof/Machine/Ops.lean ====
section
/-! DEFINITION. The named operations the blocks share: the transmit queue and PRESENCE, the lane clock, the filter's lines, the
pacing and phase timers, the pulse and revolution counters, and the look-ups and updates of the vehicle table. -/

namespace Sys2Proof.Machine

/-! ### The transmit queue (R30 to R33, R40) -/

/-- Whether requests to queue are taken (R30). -/
def Bus.canQueue (b : Bus) : Bool := b.mode == .ready || b.mode == .degraded

/-- The stamp of the frame being transmitted, if any. -/
def Bus.sendingStamp (b : Bus) : Option Nat :=
  match b.link with
  | .transmitting q => some q.stamp
  | _ => none

/-- Queue order: class, then queue stamp (R30). -/
def QueuedFrame.before (a b : QueuedFrame) : Bool :=
  decide (a.frame.cls < b.frame.cls) || (a.frame.cls == b.frame.cls && decide (a.stamp < b.stamp))

/-- Put a frame at its place in queue order. -/
def insertQueued (q : QueuedFrame) : List QueuedFrame → List QueuedFrame
  | [] => [q]
  | x :: xs => if q.before x then q :: x :: xs else x :: insertQueued q xs

/-- Put a frame at its place; a head that is being transmitted keeps the head position (R30). -/
def Bus.placed (b : Bus) (q : QueuedFrame) : List QueuedFrame → List QueuedFrame
  | [] => [q]
  | x :: xs => if b.sendingStamp = some x.stamp then x :: insertQueued q xs else insertQueued q (x :: xs)

/-- The queued frame with the latest stamp among those of a higher class number (R31). -/
def latestAbove (cls : Nat) (queue : List QueuedFrame) : Option QueuedFrame :=
  queue.foldl (fun acc q =>
    if q.frame.cls ≤ cls then acc
    else match acc with
      | none => some q
      | some r => if r.stamp < q.stamp then some q else acc) none

/-- Add a frame to the queue under the next stamp. -/
def Bus.append (b : Bus) (f : LaneFrame) (queue : List QueuedFrame) : Bus :=
  { b with queue := b.placed ⟨f, b.nextStamp⟩ queue, nextStamp := b.nextStamp + 1 }

/-- A request to queue a frame: discarded in STARTING and LISTEN_ONLY (R30), displacing or discarded at a full queue (R31). -/
def Bus.enqueue (b : Bus) (f : LaneFrame) : Bus :=
  if !b.canQueue then b
  else if b.queue.length < Config.queueSize then b.append f b.queue
  else match latestAbove f.cls b.queue with
    | some q => b.append f (b.queue.erase q)
    | none => b

def LaneFrame.isPresence : LaneFrame → Bool
  | .presence _ _ _ _ _ => true
  | _ => false

/-- A queued PRESENCE that is not being transmitted (R32). -/
def Bus.replaceable (b : Bus) (q : QueuedFrame) : Bool :=
  q.frame.isPresence && decide (b.sendingStamp ≠ some q.stamp)

/-- A PRESENCE that is due: it replaces a waiting one in place, else it is queued (R32). Where two wait, one of them having lost arbitration
after the other was queued, both take the new content (log entry 33). -/
def Bus.enqueuePresence (b : Bus) (f : LaneFrame) : Bus :=
  if !b.canQueue then b
  else if b.queue.any b.replaceable then
    { b with queue := b.queue.map fun q => if b.replaceable q then { q with frame := f } else q }
  else b.enqueue f

/-- Queue a frame. -/
def queueFrame (f : LaneFrame) (s : State) : State := s.setBus (s.bus.enqueue f)

/-- Ask for a PRESENCE with the fields as they stand (R33). -/
def requestPresence (s : State) : State := s.setBus (s.bus.enqueuePresence s.presenceFrame)

/-- Ask for a PRESENCE when mode, activity or printer state differ from those before (R33). -/
def presenceIfChanged (before after : State) : State :=
  if before.presenceKey = after.presenceKey then after else requestPresence after

/-! ### Lane clock (R44, R45; log entry 6) -/

/-- The count after the tick of a period: where that tick has not been taken at the passage where the clock stands, the same passage;
otherwise the next multiple of the period. -/
def Clock.passage (c : Clock) (period : Nat) (taken : Bool) : Clock :=
  if c.count % period = 0 && !taken then c
  else ⟨(c.count / period + 1) * period % 256, false, false, false⟩

def Clock.tick32 (c : Clock) : Clock := { c.passage 8 c.took32 with took32 := true }
def Clock.tick8 (c : Clock) : Clock := { c.passage 32 c.took8 with took8 := true }
def Clock.tick1 (c : Clock) : Clock := { c.passage 256 c.took1 with took1 := true }

/-- One period of the 256 Hz base in which no signal ticks (R44). A period at whose end a tick falls is left to the tick's command. -/
def Clock.period (c : Clock) : Clock := if ticksAt (c.count + 1) = [] then ⟨c.count + 1, true, true, true⟩ else c

/-! ### The filtered lines (R47) -/

/-- The level of one line. -/
def lineLevel (x : Samples) : Line → Bool
  | .wheelL => x.wheelL
  | .wheelR => x.wheelR
  | .plateEntry => x.plateEntry
  | .plateExit => x.plateExit
  | .fbL => x.fbL
  | .fbR => x.fbR
  | .keyStart => x.keyStart
  | .keyNext => x.keyNext
  | .keyRepeat => x.keyRepeat
  | .keyAbort => x.keyAbort
  | .stopIn => x.stopIn
  | .dim => x.dim

/-- The levels with one line's level written. -/
def setLine (x : Samples) (l : Line) (v : Bool) : Samples :=
  match l with
  | .wheelL => { x with wheelL := v }
  | .wheelR => { x with wheelR := v }
  | .plateEntry => { x with plateEntry := v }
  | .plateExit => { x with plateExit := v }
  | .fbL => { x with fbL := v }
  | .fbR => { x with fbR := v }
  | .keyStart => { x with keyStart := v }
  | .keyNext => { x with keyNext := v }
  | .keyRepeat => { x with keyRepeat := v }
  | .keyAbort => { x with keyAbort := v }
  | .stopIn => { x with stopIn := v }
  | .dim => { x with dim := v }

/-- The lines in the order of R47's table. -/
def allLines : List Line :=
  [.wheelL, .wheelR, .plateEntry, .plateExit, .fbL, .fbR, .keyStart, .keyNext, .keyRepeat, .keyAbort, .stopIn, .dim]

/-- A list's members, each once, at its first place. -/
def onceEach {α : Type} [DecidableEq α] : List α → List α
  | [] => []
  | x :: xs => x :: (onceEach xs).filter fun y => y ≠ x

/-- The lines in the order they are served at a tick: those named first, then the rest in table order, each once (log entry 8). -/
def lineOrder (first : List Line) : List Line :=
  onceEach first ++ allLines.filter fun l => !first.contains l

/-- Whether a line's sample changes its accepted level: it differs from that level and equals the last sample (R47). -/
def Filter.changes (f : Filter) (l : Line) (sample : Bool) : Bool :=
  decide (sample ≠ lineLevel f.accepted l) && decide (sample = lineLevel f.last l)

/-- The line's accepted level and last sample after its sample (R47). -/
def Filter.sample (f : Filter) (l : Line) (sample : Bool) : Filter where
  accepted := if f.changes l sample then setLine f.accepted l sample else f.accepted
  last := setLine f.last l sample

/-! ### Pacing timers (R48) -/

/-- Start: the counter takes the reload (R48). -/
def JoinedTimer.start (t : JoinedTimer) : JoinedTimer := { t with counter := t.reload, running := true }

/-- Write the reload and start together (R48). -/
def JoinedTimer.startWith (t : JoinedTimer) (reload : Nat) : JoinedTimer := { t with reload := reload }.start

/-- Stop: the counter holds its value (R48). -/
def JoinedTimer.stop (t : JoinedTimer) : JoinedTimer := { t with running := false }

/-- An underflow: the counter takes the reload (R48). -/
def JoinedTimer.underflow (t : JoinedTimer) : JoinedTimer := { t with counter := t.reload }

/-! ### Phase timers (R56) -/

/-- Start with N windows; 0 is taken as 1. -/
def PhaseTimer.start (_t : PhaseTimer) (n : Nat) : PhaseTimer := ⟨true, max 1 n, false⟩

/-- Cancel: IDLE, remaining count 0, no expiry. -/
def PhaseTimer.cancel (_t : PhaseTimer) : PhaseTimer := ⟨false, 0, false⟩

/-- An 8 Hz tick: a running timer counts down, and at 0 it is IDLE with its expiry due at the owner. -/
def PhaseTimer.tick (t : PhaseTimer) : PhaseTimer :=
  if !t.running then t
  else if t.remaining ≤ 1 then ⟨false, 0, true⟩
  else { t with remaining := t.remaining - 1 }

def startSeqTimer (n : Nat) (s : State) : State :=
  s.setTimers { s.timers with seqTimer := s.timers.seqTimer.start n }

def cancelSeqTimer (s : State) : State :=
  s.setTimers { s.timers with seqTimer := s.timers.seqTimer.cancel }

def startCertTimer (n : Nat) (s : State) : State :=
  s.setTimers { s.timers with certTimer := s.timers.certTimer.start n }

def cancelCertTimer (s : State) : State :=
  s.setTimers { s.timers with certTimer := s.timers.certTimer.cancel }

/-! ### Pulse and revolution counters (R53 to R55) -/

/-- One edge in a window counter, saturated at 4095 (R53). -/
def countEdge (n : Nat) : Nat := min 4095 (n + 1)

/-- One edge in a revolution counter (R55). -/
def RevCounter.edge (c : RevCounter) : RevCounter :=
  if !c.running then c
  else if c.compare ≤ c.position + 1 then { c with position := 0, number := (c.number + 1) % 256 }
  else { c with position := c.position + 1 }

/-- One edge of an input (R53, R55). -/
def Counters.edge (c : Counters) : PulseInput → Counters
  | .dl => { c with dl := countEdge c.dl, revL := c.revL.edge }
  | .dr => { c with dr := countEdge c.dr, revR := c.revR.edge }
  | .sl => { c with sl := countEdge c.sl }
  | .sr => { c with sr := countEdge c.sr }

/-- The window sample as the counters stand (R54). -/
def Counters.sample (c : Counters) : WindowSample := ⟨c.dl, c.dr, c.sl, c.sr⟩

/-- The window counters cleared (R54). -/
def Counters.cleared (c : Counters) : Counters := { c with dl := 0, dr := 0, sl := 0, sr := 0 }

/-! ### The vehicle table -/

/-- The entry that holds a ticket; ticket 0 finds none (R1). -/
def LaneView.find (v : LaneView) (ticket : Nat) : Option Entry :=
  if ticket = 0 then none else v.entries.find? fun e => e.ticket == ticket

/-- Rewrite the entry of a ticket. -/
def LaneView.update (v : LaneView) (ticket : Nat) (f : Entry → Entry) : LaneView :=
  { v with entries := v.entries.map fun e => if e.ticket = ticket then f e else e }

/-- Open entries: REGISTERED or IN_LANE (R4). -/
def Entry.isOpen (e : Entry) : Bool := e.state == .registered || e.state == .inLane

/-- Entries that take results: the open ones and COMPLETE (R4, R13). -/
def Entry.takesResults (e : Entry) : Bool := e.isOpen || e.state == .complete

/-- A role's passed count (R9). -/
def Entry.passed (e : Entry) : MeasuringRole → Nat
  | .roller => e.rollerPassed
  | .plate => e.platePassed

/-- The entry of lowest order stamp among those given. -/
def oldest : List Entry → Option Entry
  | [] => none
  | e :: es =>
    match oldest es with
    | none => some e
    | some x => if x.stamp < e.stamp then some x else some e

/-- Entries in order of order stamp, oldest first: one insertion. -/
def insertByStamp (e : Entry) : List Entry → List Entry
  | [] => [e]
  | x :: xs => if e.stamp < x.stamp then e :: x :: xs else x :: insertByStamp e xs

/-- Entries in order of order stamp, oldest first. -/
def byStamp : List Entry → List Entry
  | [] => []
  | e :: es => insertByStamp e (byStamp es)

/-- The expected vehicle for a role (R12): the oldest open entry with axles still to pass, with its next axle; else ticket 0, axle 1. -/
def LaneView.expected (v : LaneView) (role : MeasuringRole) : FixedAxle :=
  match oldest (v.entries.filter fun e => e.isOpen && decide (e.passed role < e.axleCount)) with
  | some e => ⟨e.ticket, e.passed role + 1⟩
  | none => ⟨0, 1⟩

/-! ### Identity -/

/-- The station identity, UNSET without a block in use (R176). -/
def State.identity (s : State) : Option Identity :=
  s.startUp.block.map fun b => ⟨b.2.laneName, b.2.approval, b.2.serial⟩

end Sys2Proof.Machine
end

