-- ==== Sys2Proof/Machine/Text.lean ====
section
/-! DEFINITION. Character text of the panel and print lines: fields at their widths, padding, dashes for absent fields, and the
characters that are not in the code (R134, R154, R182). -/

namespace Sys2Proof.Machine

/-- The codes of literal text (R182). The code of each character is that of ASCII (log entry 49). -/
def ascii (t : String) : List Byte := t.toList.map fun c => byteOf c.toNat

/-- A byte outside 32 to 126 is sent as code 63 (R182). -/
def printable (b : Byte) : Byte := if b.toNat < 32 || 126 < b.toNat then 63#8 else b

/-- Spaces. -/
def spaces (n : Nat) : List Byte := List.replicate n 32#8

/-- Dashes filling a width, for an absent field (R134). -/
def dashes (n : Nat) : List Byte := List.replicate n 45#8

/-- Right-aligned in a width. -/
def padLeft (w : Nat) (t : List Byte) : List Byte := spaces (w - t.length) ++ t

/-- Left-aligned in a width. -/
def padRight (w : Nat) (t : List Byte) : List Byte := t ++ spaces (w - t.length)

/-- A line of exactly a width: padded with spaces on the right (R134, R154). -/
def fitLine (w : Nat) (t : List Byte) : List Byte := (padRight w t).take w

/-- Decimal digits, by fuel. -/
def digitsFrom : Nat → Nat → List Byte → List Byte
  | 0, _, acc => acc
  | fuel + 1, n, acc =>
    let acc' := byteOf (48 + n % 10) :: acc
    if n / 10 = 0 then acc' else digitsFrom fuel (n / 10) acc'

/-- The decimal digits of a number. -/
def digits (n : Nat) : List Byte := digitsFrom 20 n []

/-- A number right-aligned in its width. -/
def numField (w n : Nat) : List Byte := padLeft w (digits n)

/-- A field that may be absent: dashes in its width. -/
def optField {α : Type} (w : Nat) (o : Option α) (f : α → List Byte) : List Byte :=
  match o with
  | some v => f v
  | none => dashes w

/-- An optional number. -/
def optNum (w : Nat) (o : Option Nat) : List Byte := optField w o (numField w)

/-- Characters left-aligned in a width, those outside the code as question marks. -/
def charField (w : Nat) (t : List Byte) : List Byte := padRight w (t.map printable)

/-- A ratio in tenths of a percent: whole part, point and one digit, right-aligned in 5 (R134). -/
def ratioField (n : Nat) : List Byte := padLeft 5 (digits (n / 10) ++ ascii "." ++ digits (n % 10))

/-- A slip in mm/m: sign, whole part, point and one digit, right-aligned in 5; the sign is + for 0 (R154). -/
def slipField (i : Int) : List Byte :=
  padLeft 5 (ascii (if i < 0 then "-" else "+") ++ digits (i.natAbs / 10) ++ ascii "." ++ digits (i.natAbs % 10))

/-- Two digits with a leading 0; a value above 99 takes 3 digits (R154). -/
def twoDigits (n : Nat) : List Byte := if n < 10 then ascii "0" ++ digits n else digits n

/-- What UNSET identities read (R176). -/
def unsetText : List Byte := ascii "UNSET"

def TestKind.text : TestKind → List Byte
  | .service => ascii "SERV"
  | .parking => ascii "PARK"

def EndReason.text : EndReason → List Byte
  | .slip => padRight 7 (ascii "SLIP")
  | .release => ascii "RELEASE"
  | .time => padRight 7 (ascii "TIME")

def StopCause.text : StopCause → List Byte
  | .stopInput => padRight 7 (ascii "BUTTON")
  | .contactor => ascii "CONTACT"
  | .desk => padRight 7 (ascii "DESK")

def Role.text : Role → List Byte
  | .roller => ascii "ROLLER"
  | .plate => padRight 6 (ascii "PLATE")
  | .panel => padRight 6 (ascii "PANEL")

/-- Numbers separated by single spaces. -/
def spaced : List Nat → List Byte
  | [] => []
  | [n] => digits n
  | n :: ns => digits n ++ ascii " " ++ spaced ns

/-- Insert a number into a rising list. -/
def insertNat (n : Nat) : List Nat → List Nat
  | [] => [n]
  | x :: xs => if n ≤ x then n :: x :: xs else x :: insertNat n xs

/-- A list of numbers in rising order. -/
def sortNat : List Nat → List Nat
  | [] => []
  | n :: ns => insertNat n (sortNat ns)

/-- A station list: up to the 5 lowest numbers, then " +" when there are more (R134). -/
def stationList (ns : List Nat) : List Byte :=
  spaced ((sortNat ns).take 5) ++ (if 5 < ns.length then ascii " +" else [])

end Sys2Proof.Machine
end

