-- ==== Sys2Proof/Machine/Panel.lean ====
section
/-! DEFINITION. What the panel shows: each prompt's priority, lamp and horn, its two text lines, and the 44 bytes of a panel frame
(R131, R134, R135, R138, R140, R182). -/

namespace Sys2Proof.Machine

/-- The three lamps (R131). -/
inductive Lamp where
  | red | amber | green
  deriving DecidableEq, Repr

/-- A lamp's state in a panel frame (R140). -/
inductive LampState where
  | off | on | blink
  deriving DecidableEq, Repr

/-- A prompt's fixed priority (R131). -/
def Prompt.priority : Prompt → Nat
  | .laneStopped => 7
  | .stationClash => 7
  | .sensorFault => 6
  | .motorFault => 6
  | .motorsStarting => 6
  | .warningFromPeer => 6
  | .calibrationMissing => 6
  | .roleClash => 5
  | .panelNotResponding => 5
  | .vehicleNotRegistered => 5
  | .laneFull => 5
  | .paperOut => 5
  | .applyBrake => 4
  | .applyParking => 4
  | .releaseBrake => 4
  | .axleResult => 3
  | .driveOff => 3
  | .entryRejected => 3
  | .wait => 2
  | .driveOn => 2
  | .printing => 2
  | .laneReady => 0

/-- A prompt's lamp and its state, if it has one (R131). -/
def Prompt.lamp : Prompt → Option (Lamp × LampState)
  | .laneStopped => some (.red, .on)
  | .stationClash => some (.red, .blink)
  | .sensorFault => some (.red, .on)
  | .motorFault => some (.red, .on)
  | .motorsStarting => some (.amber, .blink)
  | .warningFromPeer => some (.amber, .blink)
  | .calibrationMissing => some (.red, .on)
  | .roleClash => some (.red, .on)
  | .panelNotResponding => some (.amber, .on)
  | .vehicleNotRegistered => some (.amber, .on)
  | .laneFull => some (.amber, .on)
  | .paperOut => some (.amber, .on)
  | .applyBrake => some (.green, .on)
  | .applyParking => some (.green, .on)
  | .releaseBrake => some (.amber, .on)
  | .axleResult => some (.green, .on)
  | .driveOff => some (.green, .on)
  | .entryRejected => some (.amber, .on)
  | .wait => some (.red, .on)
  | .driveOn => some (.green, .on)
  | .printing => none
  | .laneReady => some (.green, .on)

/-- A prompt's horn pattern (R131). -/
def Prompt.horn : Prompt → HornPattern
  | .laneStopped => .continuous
  | .stationClash => .off
  | .sensorFault => .single
  | .motorFault => .single
  | .motorsStarting => .fast
  | .warningFromPeer => .fast
  | .calibrationMissing => .off
  | .roleClash => .off
  | .panelNotResponding => .single
  | .vehicleNotRegistered => .single
  | .laneFull => .off
  | .paperOut => .slow
  | .applyBrake => .off
  | .applyParking => .off
  | .releaseBrake => .single
  | .axleResult => .off
  | .driveOff => .off
  | .entryRejected => .single
  | .wait => .off
  | .driveOn => .off
  | .printing => .off
  | .laneReady => .off

/-- The horn tone of a prompt's priority: HIGH for 6 and 7 (R131). -/
def Prompt.tone (p : Prompt) : Tone := if 6 ≤ p.priority then .high else .low

/-! ### Fields read at composition (R135) -/

/-- The plate text of the entry of a ticket. -/
def State.plateOf (s : State) (ticket : Option Nat) : Option (List Byte) :=
  (ticket.bind s.lane.find).map (·.plate)

/-- The live loads of a ROLLER station (R134). -/
def State.liveLoads (s : State) : Option Pair :=
  match s.capture.s1.latest, s.eval.calib with
  | some r, some c => some ⟨wheelLoad (r.value 0) c.zwL c.gwL, wheelLoad (r.value 1) c.zwR c.gwR⟩
  | _, _ => none

/-- The lane name, UNSET without a block in use (R135). -/
def State.laneNameText (s : State) : List Byte :=
  match s.identity with
  | some i => charField 16 i.laneName
  | none => padRight 16 unsetText

/-- The ratio of a test kind that the entry of a ticket holds (R135). -/
def State.ratioShown (s : State) (ticket : Option Nat) (kind : Option TestKind) : Option Nat :=
  match ticket.bind s.lane.find, kind with
  | some e, some .service => e.serviceRatio
  | some e, some .parking => e.parkingRatio
  | _, _ => none

def loadsText (w : Option Pair) : List Byte :=
  ascii "L " ++ optNum 5 (w.map Pair.l) ++ ascii " R " ++ optNum 5 (w.map Pair.r) ++ ascii " daN"

def plateText (o : Option (List Byte)) : List Byte := optField 8 o (charField 8)

/-- A MOTOR_FAULT's second line (R135); SENSOR has none, for the capture block raises its prompt. -/
def FaultCause.text : FaultCause → List Byte
  | .noFeedback => ascii "NO CONTACTOR SIGNAL"
  | .dropout => ascii "CONTACTOR DROPPED"
  | .noSpinUp => ascii "NO SPIN-UP"
  | .welded => ascii "CONTACTOR WELDED"
  | .noRows => ascii "NO FORCE READINGS"
  | .sensor => []

/-- Line 1 of stage APPLY: the live forces and pressure (R135). -/
def liveText (v : Option LiveRow) : List Byte :=
  ascii "L " ++ optNum 4 (v.map (·.fL)) ++ ascii " R " ++ optNum 4 (v.map (·.fR)) ++ ascii " P " ++ optNum 4 (v.bind (·.p))

/-- The running Fmax pair of stage APPLY, absent until the first page has been evaluated (R135). -/
def maxText (a : TestAcc) : List Byte :=
  let fl := a.live.map fun _ => a.left.fmax
  let fr := a.live.map fun _ => a.right.fmax
  optNum 4 fl ++ ascii " " ++ optNum 4 fr

/-- The two text lines of a prompt, before padding (R135). -/
def promptText (s : State) (p : Prompt) (f : PromptFields) : List Byte × List Byte :=
  match p with
  | .laneStopped => (ascii "LANE STOPPED", optField 7 f.stopCause StopCause.text ++ ascii " AT ST " ++ optNum 2 f.station)
  | .stationClash => (ascii "STATION NUMBER CLASH", ascii "ST " ++ numField 2 s.startUp.ownNumber ++ ascii " SILENT")
  | .sensorFault => (ascii "SENSOR FAULT AN" ++ optNum 1 f.input, ascii "CHECK THEN ABORT")
  | .motorFault => (ascii "MOTOR FAULT", optField 0 f.cause FaultCause.text)
  | .motorsStarting => (ascii "ROLLERS STARTING", ascii "STAND CLEAR AXLE " ++ optNum 1 f.axle)
  | .warningFromPeer => (ascii "ROLLERS STARTING", ascii "STAND CLEAR ST " ++ optNum 2 f.station)
  | .calibrationMissing => (ascii "NO CALIBRATION", ascii "MEASURING DISABLED")
  | .roleClash => (ascii "SECOND ROLLER ST " ++ optNum 2 f.station, ascii "THIS STATION WAITS")
  | .panelNotResponding => (ascii "PANEL NOT RESPONDING", ascii "ST " ++ stationList f.stations)
  | .vehicleNotRegistered => (ascii "NOT REGISTERED", ascii "AXLE " ++ optNum 1 f.axle ++ ascii " AS TICKET 0")
  | .laneFull => (ascii "LANE FULL", ascii "TICKET " ++ optNum 5 f.ticket ++ ascii " WAITS")
  | .paperOut => (ascii "PRINTER PAPER OUT", ascii "LOAD PAPER")
  | .applyBrake =>
    if f.apply then (liveText s.eval.acc.live, ascii "APPLY MAX " ++ maxText s.eval.acc)
    else (ascii "AXLE " ++ optNum 1 f.axle ++ ascii " " ++ plateText (s.plateOf f.ticket), ascii "PRESS START")
  | .applyParking =>
    if f.apply then (liveText s.eval.acc.live, ascii "PARK MAX " ++ maxText s.eval.acc)
    else (ascii "AXLE " ++ optNum 1 f.axle ++ ascii " " ++ plateText (s.plateOf f.ticket), ascii "PRESS START PARKING")
  | .releaseBrake => (ascii "RELEASE BRAKE", ascii "AXLE " ++ optNum 1 f.axle ++ ascii " ROLLERS STOP")
  | .axleResult =>
    let shown := match f.fref with | some q => some q | none => f.fmax
    let line1 := ascii "A" ++ optNum 1 f.axle ++ ascii " " ++ optField 4 f.kind TestKind.text ++ ascii " " ++
      optNum 4 (shown.map Pair.l) ++ ascii " " ++ optNum 4 (shown.map Pair.r)
    match s.ratioShown f.ticket f.kind with
    | some r =>
      (line1, (if f.kind = some .parking then ascii "PARKING RATIO " else ascii "SERVICE RATIO ") ++ ratioField r ++ ascii "%")
    | none => (line1, ascii "IMB " ++ optNum 3 f.imbalance ++ ascii "% END " ++ optField 7 f.endReason EndReason.text)
  | .driveOff => (ascii "DRIVE OFF ROLLERS", ascii "TICKET " ++ optNum 5 f.ticket ++ ascii " AXLE " ++ optNum 1 f.axle)
  | .entryRejected => (ascii "REGISTRATION REFUSED", ascii "TICKET " ++ optNum 5 f.ticket)
  | .wait => (ascii "WAIT", ascii "ROLLERS BUSY ST " ++ optNum 2 f.station)
  | .driveOn =>
    match f.ticket with
    | none => (ascii "DRIVE ON ROLLERS", loadsText s.liveLoads)
    | some t => (ascii "DRIVE ON " ++ plateText (s.plateOf (some t)), ascii "TICKET " ++ numField 5 t)
  | .printing =>
    match f.subject with
    | some (.certificate n) => (ascii "PRINTING DUPLICATE", ascii "CERT " ++ numField 2 n.station ++ ascii "/" ++ numField 5 n.seq)
    | some (.ticket t) => (ascii "PRINTING CERTIFICATE", ascii "TICKET " ++ numField 5 t)
    | none => (ascii "PRINTING CERTIFICATE", ascii "TICKET " ++ dashes 5)
  | .laneReady =>
    if s.startUp.role = .roller then (s.laneNameText, loadsText s.liveLoads)
    else (s.laneNameText, ascii "STATION " ++ numField 2 s.startUp.ownNumber ++ ascii " " ++ s.startUp.role.text)

/-! ### The panel frame (R182) -/

def LampState.code : LampState → Nat
  | .off => 0 | .on => 1 | .blink => 2

/-- The state of one lamp while a prompt is displayed: the prompt's own lamp in its state, the others OFF (R140). -/
def Prompt.lampState (p : Prompt) (l : Lamp) : LampState :=
  match p.lamp with
  | some (x, st) => if x = l then st else .off
  | none => .off

/-- The lamp byte: red in bits 1–0, amber in bits 3–2, green in bits 5–4 (R182). -/
def Prompt.lampByte (p : Prompt) : Byte :=
  byteOf ((p.lampState .red).code + 4 * (p.lampState .amber).code + 16 * (p.lampState .green).code)

/-- The panel frame of a prompt with its fields, as the state stands (R138, R182). -/
def panelFrame (s : State) (p : Prompt) (f : PromptFields) : List Byte :=
  let t := promptText s p f
  [2#8] ++ fitLine 20 t.1 ++ fitLine 20 t.2 ++ [p.lampByte, if s.filter.accepted.dim then 1#8 else 0#8, 3#8]

end Sys2Proof.Machine
end

