-- ==== Sys2Proof/Machine/Guidance.lean ====
section
/-! DEFINITION. The guidance unit: raising, updating and lowering prompts, the choice of the displayed prompt, panel frames, the
horn engine, the panel's part in the warning protocol and the lane-entry judgement (R130 to R146). Every operation here changes the
guidance unit, the transmit queue (WARNING_SHOWN) and PT2-low at most. -/

namespace Sys2Proof.Machine

/-! ### The prompt set (R130, R132, R133) -/

/-- The entry of a prompt in the set. -/
def Guidance.find (g : Guidance) (p : Prompt) : Option PromptEntry := g.prompts.find? fun e => e.prompt == p

/-- A prompt is in the set and RAISED. -/
def Guidance.isRaised (g : Guidance) (p : Prompt) : Bool := g.prompts.any fun e => e.prompt == p && !e.lowering

/-- The set without a prompt. -/
def Guidance.without (g : Guidance) (p : Prompt) : List PromptEntry := g.prompts.filter fun e => e.prompt ≠ p

/-- A prompt has met its minimum show time (R133). -/
def PromptEntry.met (e : PromptEntry) : Bool := decide (Config.showWindows ≤ e.showCount)

/-- The prompt of highest priority, the newest among equals; the set stands oldest first (R132). -/
def bestPrompt (ps : List PromptEntry) : Option Prompt :=
  (ps.foldl (fun acc e =>
    match acc with
    | none => some e
    | some x => if x.prompt.priority ≤ e.prompt.priority then some e else some x) (none : Option PromptEntry)).map (·.prompt)

/-- The prompt displayed until now stays: it is in the set, has not met its show time, and none of higher priority is there (R132). -/
def Guidance.stays (g : Guidance) (p : Prompt) : Bool :=
  match g.find p with
  | some e => !e.met && g.prompts.all fun x => decide (x.prompt.priority ≤ p.priority)
  | none => false

/-- The choice of R132. -/
def Guidance.choice (g : Guidance) : Option Prompt :=
  match g.displayed with
  | some p => if g.stays p then some p else bestPrompt g.prompts
  | none => bestPrompt g.prompts

/-- The set without LOWERING prompts that are not displayed (R133). -/
def dropHiddenLowering (shown : Option Prompt) (ps : List PromptEntry) : List PromptEntry :=
  ps.filter fun e => !e.lowering || decide (shown = some e.prompt)

/-! ### Panel frames (R138, R139) -/

/-- A frame is due: sent at once on an idle line, else frame waiting is set (R139). -/
def Guidance.due (g : Guidance) (frame : List Byte) : Guidance :=
  if g.sending then { g with waiting := true } else { g with sending := true, lastFrame := some frame }

/-- The composition of the displayed prompt, if one is displayed (R138). -/
def composition (s : State) : Option (List Byte) :=
  s.guidance.displayed.bind fun p => (s.guidance.find p).map fun e => panelFrame s p e.fields

/-- Compose; a composition that differs from the last frame sent, which the frame being sent counts as (log entry 57), makes a frame
due (R138). -/
def composePanel (s : State) : State :=
  match composition s with
  | some frame => if s.guidance.lastFrame = some frame then s else s.setGuidance (s.guidance.due frame)
  | none => s

/-- A frame is due whatever the composition holds (R138). -/
def refreshPanel (s : State) : State :=
  match composition s with
  | some frame => s.setGuidance (s.guidance.due frame)
  | none => s

/-- A frame's sending ends (R139). -/
def panelSent (s : State) : State :=
  if !s.guidance.sending then s
  else if s.guidance.waiting then
    s.setGuidance { s.guidance with waiting := false, lastFrame := composition s }
  else s.setGuidance { s.guidance with sending := false }

/-! ### What a newly displayed or newly raised prompt sets off (R132, R141, R144) -/

/-- The horn gets a new request, that of the displayed prompt (R141). -/
def Guidance.requestHorn (g : Guidance) : Guidance :=
  match g.displayed with
  | some p => { g with horn := { g.horn with requested := p.horn, isNew := true } }
  | none => g

/-- The WARNING_SHOWN to queue when WARNING_FROM_PEER is displayed with confirmation pending (R144). -/
def Guidance.confirmation (g : Guidance) : Option LaneFrame :=
  if g.displayed = some .warningFromPeer then
    match g.find .warningFromPeer with
    | some e =>
      if e.confirm then some (.warningShown (e.fields.station.getD 0) (e.fields.ticket.getD 0) (e.fields.axle.getD 0)) else none
    | none => none
  else none

/-- Confirmation pending cleared (R144). -/
def Guidance.confirmed (g : Guidance) : Guidance :=
  { g with prompts := g.prompts.map fun e => if e.prompt = .warningFromPeer then { e with confirm := false } else e }

/-- Confirm a shown warning (R144). -/
def confirmShown (s : State) : State :=
  match s.guidance.confirmation with
  | some f => (queueFrame f s).setGuidance s.guidance.confirmed
  | none => s

/-- The displayed prompt is new on the display, or raised anew: a frame is composed, the horn gets a request, and a shown warning is
confirmed. -/
def showDisplayed (s : State) : State :=
  let s := composePanel s
  confirmShown (s.setGuidance s.guidance.requestHorn)

/-- The choice of R132 is made again. Nothing is displayed before the end of start-up (R137). -/
def rechoose (s : State) : State :=
  if s.guidance.displayed = none then s
  else
    let c := s.guidance.choice
    if c = s.guidance.displayed then s
    else showDisplayed (s.setGuidance
      { s.guidance with displayed := c, showDue := false, prompts := dropHiddenLowering c s.guidance.prompts })

/-- The first choice and the first panel frame, at the end of start-up (R137). -/
def firstDisplay (s : State) : State :=
  showDisplayed (s.setGuidance { s.guidance with displayed := bestPrompt s.guidance.prompts })

/-! ### Raise, field update, lower (R130, R133) -/

/-- The set after a raise: the prompt at the newest place, RAISED, with the fields given and its show count kept. -/
def Guidance.raised (g : Guidance) (p : Prompt) (f : PromptFields) (life : Nat) (confirm : Bool) : Guidance :=
  { g with prompts := g.without p ++ [⟨p, f, false, ((g.find p).map (·.showCount)).getD 0, life, confirm⟩] }

/-- Raise a prompt with its life count and confirmation flag (R130, R136, R143). -/
def raiseWith (p : Prompt) (f : PromptFields) (life : Nat) (confirm : Bool) (s : State) : State :=
  let t := rechoose (s.setGuidance (s.guidance.raised p f life confirm))
  if s.guidance.displayed = some p && t.guidance.displayed = some p then showDisplayed t else t

/-- Raise a prompt (R130). -/
def raise (p : Prompt) (f : PromptFields) (s : State) : State := raiseWith p f 0 false s

/-- Field update of a prompt in the set; no effect on one that is not (R130). -/
def updateFields (p : Prompt) (f : PromptFields) (s : State) : State :=
  let t := s.setGuidance
    { s.guidance with prompts := s.guidance.prompts.map fun e => if e.prompt = p then { e with fields := f } else e }
  if s.guidance.displayed = some p then composePanel t else t

/-- Lower a prompt, by its case (R133). LANE_READY is never lowered. -/
def lower (p : Prompt) (s : State) : State :=
  if p = .laneReady then s
  else match s.guidance.find p with
    | none => s
    | some e =>
      if s.guidance.displayed = some p && !e.met then
        s.setGuidance
          { s.guidance with prompts := s.guidance.prompts.map fun x => if x.prompt = p then { x with lowering := true } else x }
      else rechoose (s.setGuidance { s.guidance with prompts := s.guidance.without p })

/-- Lower several prompts in turn. -/
def lowerAll : List Prompt → State → State
  | [], s => s
  | p :: ps, s => lowerAll ps (lower p s)

/-! ### 8 Hz and 1 Hz ticks -/

/-- One window of display time and of life (R133, R136, R145). -/
def Guidance.countWindow (g : Guidance) (shown : Prompt) : Guidance :=
  { g with
    showDue := g.showDue || g.prompts.any fun e => e.prompt == shown && e.showCount + 1 == Config.showWindows
    prompts := g.prompts.map fun e =>
      let e := if e.prompt = shown then { e with showCount := min Config.showWindows (e.showCount + 1) } else e
      if (e.prompt = .entryRejected || e.prompt = .warningFromPeer) && !e.lowering then { e with life := e.life - 1 } else e }

/-- PT2-low's reload for a tone (R50). -/
def Tone.reload : Tone → Nat
  | .high => Config.toneHighReload
  | .low => Config.toneLowReload

/-- PT2-low as a pattern taken in force leaves it (R50, R141): reload written, started when the pattern leaves OFF, stopped when it
becomes OFF, running on between two patterns that are not OFF. -/
def ToneTimer.follow (t : ToneTimer) (before after : HornPattern) (tone : Tone) : ToneTimer :=
  if after = .off then { t with reload := tone.reload, running := false, output := false }
  else if before = .off then ⟨tone.reload, tone.reload, true, false⟩
  else { t with reload := tone.reload }

/-- A new horn request taken at the tick, or the single count's fall (R141). -/
def hornTick (shown : Prompt) (s : State) : State :=
  let h := s.guidance.horn
  if h.isNew then
    (s.setGuidance { s.guidance with
      horn := { h with inForce := h.requested, isNew := false, tone := shown.tone,
                       singleCount := if h.requested = .single then Config.singleWindows else h.singleCount } }).setTimers
      { s.timers with tone := s.timers.tone.follow h.inForce h.requested shown.tone }
  else if h.inForce = .single then
    s.setGuidance { s.guidance with horn := { h with singleCount := h.singleCount - 1 } }
  else s

/-- The guidance unit's part of an 8 Hz tick, from the end of start-up (R46, R133, R136, R138, R141). -/
def guidanceTick8 (s : State) : State :=
  match s.guidance.displayed with
  | none => s
  | some p => composePanel (hornTick p (s.setGuidance (s.guidance.countWindow p)))

/-! ### The guidance unit's own events -/

/-- The displayed prompt's show count has reached 16 (R133): a LOWERING prompt leaves the set and the choice is made again. -/
def showTimeMet (s : State) : State :=
  rechoose (s.setGuidance
    { s.guidance with showDue := false, prompts := s.guidance.prompts.filter fun e => !(e.lowering && e.met) })

/-- A life count has reached 0 (R136, R145). -/
def lifeEnded (p : Prompt) (s : State) : Bool :=
  s.guidance.displayed.isSome && s.guidance.prompts.any fun e => e.prompt == p && !e.lowering && e.life == 0

/-- The single count has reached 0: the pattern in force becomes OFF and PT2-low is stopped (R141). -/
def singleEnd (s : State) : State :=
  (s.setGuidance { s.guidance with horn := { s.guidance.horn with inForce := .off } }).setTimers
    { s.timers with tone := { s.timers.tone with running := false, output := false } }

/-- Lower a prompt whose ticket field is the one given (R136). -/
def lowerForTicket (ticket : Nat) (p : Prompt) (s : State) : State :=
  match s.guidance.find p with
  | some e => if e.fields.ticket = some ticket then lower p s else s
  | none => s

/-! ### The lane entrance (R146) -/

/-- The lowest ROLLER peer TESTING a ticket other than the entering one (R146). -/
def State.busyRoller (s : State) (entering : Nat) : Option Nat :=
  (s.bus.peers.find? fun p =>
    p.role == some .roller && p.activity == some .testing && decide (p.ticket ≠ some entering)).map (·.station)

/-- Raise a prompt that is not raised; update its fields when they differ; leave it when they stand (R146). -/
def raiseOrUpdate (p : Prompt) (f : PromptFields) (s : State) : State :=
  if s.guidance.isRaised p then
    if (s.guidance.find p).map (·.fields) = some f then s else updateFields p f s
  else raise p f s

/-- Lower a prompt that is raised. -/
def lowerIfRaised (p : Prompt) (s : State) : State := if s.guidance.isRaised p then lower p s else s

/-- The lane-entry judgement of a PANEL station (R146). Where both prompts change, WAIT is acted on first (log entry 41). -/
def judgeEntry (s : State) : State :=
  if !s.isPanel then s
  else
    let entering := (s.lane.expected .roller).ticket
    match s.busyRoller entering with
    | some n => lowerIfRaised .driveOn (raiseOrUpdate .wait { station := some n } s)
    | none =>
      if entering = 0 then lowerIfRaised .driveOn (lowerIfRaised .wait s)
      else raiseOrUpdate .driveOn { ticket := some entering } (lowerIfRaised .wait s)

/-- The guidance unit's part of a 1 Hz tick (R46): the panel refresh, then the lane-entry judgement, in the order of R46's table (log
entry 34). -/
def guidanceTick1 (s : State) : State := judgeEntry (refreshPanel s)

/-- A ticket cancelled or ticket dropped report at the guidance unit (R136), its prompts lowered in the order in which R136 lists them
(log entry 47). -/
def guidanceTicketGone (ticket : Nat) (s : State) : State :=
  judgeEntry (lowerForTicket ticket .warningFromPeer (lowerForTicket ticket .laneFull (lowerForTicket ticket .entryRejected s)))

/-- A heard LANE_CLEAR at the guidance unit (R136), its prompts lowered in the order in which R136 lists them (log entry 47). -/
def guidanceLaneClear (s : State) : State :=
  judgeEntry (lowerAll [.entryRejected, .laneFull, .warningFromPeer] s)

/-- A heard MOTOR_WARNING on a PANEL station (R143). -/
def warningFrom (sender ticket axle : Nat) (kind : TestKind) (s : State) : State :=
  raiseWith .warningFromPeer
    { station := some sender, ticket := some ticket, axle := some axle, kind := some kind } Config.warningLife true s

/-- Lower the warning of a sender (R145). -/
def lowerWarningOf (sender : Nat) (s : State) : State :=
  match s.guidance.find .warningFromPeer with
  | some e => if e.fields.station = some sender then lower .warningFromPeer s else s
  | none => s

end Sys2Proof.Machine
end

