-- ==== Sys2Proof/Machine/Capture.lean ====
section
/-! DEFINITION. The capture block with the evaluation unit's page slot: stream writes and stops, row requests, the converter, pages
and their hand-over, rail faults and one-off conversions (R58 to R72). The operations work on the pair of the two blocks, which no
other block reads in between. -/

namespace Sys2Proof.Machine

/-! ### Streams and buffers -/

def Capture.stream (c : Capture) : StreamId → Stream
  | .s0 => c.s0
  | .s1 => c.s1
  | .s2 => c.s2
  | .s3 => c.s3

def Capture.setStream (c : Capture) (i : StreamId) (x : Stream) : Capture :=
  match i with
  | .s0 => { c with s0 := x }
  | .s1 => { c with s1 := x }
  | .s2 => { c with s2 := x }
  | .s3 => { c with s3 := x }

/-- The streams, lowest first. -/
def allStreams : List StreamId := [.s0, .s1, .s2, .s3]

/-- Another stream's exclusive hold is in force (R62). -/
def Capture.heldByOther (c : Capture) (i : StreamId) : Bool :=
  allStreams.any fun j => decide (j ≠ i) && (c.stream j).holding

/-- A buffer that has become FILLING. -/
def Buffer.fresh : Buffer := { Buffer.clear with state := .filling }

/-- The next sequence number on the ring (R67, R68). -/
def nextSequence (n : Nat) : Nat := (n + 1) % 4294967296

/-- A completed or SHORT page in its buffer: FULL, with the marks it takes (R60, R67). -/
def Buffer.closed (b : Buffer) (run seq : Nat) (short : Bool) (columns : List Nat) : Buffer :=
  ⟨.full, b.rows, run, seq, short, columns⟩

/-- A FILLING buffer at a stop: a SHORT page when it holds rows, else EMPTY; another buffer is left (R60). -/
def Buffer.stopped (b : Buffer) (run seq : Nat) (columns : List Nat) : Buffer :=
  if b.state ≠ .filling then b
  else if b.rows.isEmpty then Buffer.clear
  else b.closed run seq true columns

/-- A buffer is FILLING with rows, so that a stop makes a page of it. -/
def Buffer.makesShort (b : Buffer) : Bool := b.state == .filling && !b.rows.isEmpty

/-- The stop of a stream (R60). -/
def Stream.stop (x : Stream) : Stream :=
  let seq := nextSequence x.seqCounter
  { x with
    requests := 0
    running := false
    waiting := false
    holding := false
    seqCounter := if x.bufA.makesShort || x.bufB.makesShort then seq else x.seqCounter
    bufA := x.bufA.stopped x.runNumber seq x.config.columns
    bufB := x.bufB.stopped x.runNumber seq x.config.columns }

/-- A RUNNING stream in PAGE mode takes an EMPTY buffer as FILLING, A first, or waits for one (R59 step 4); the exclusive hold begins
with it unless another stream's is in force (R62). -/
def Stream.takeBuffer (x : Stream) (otherHolds : Bool) : Stream :=
  if x.bufA.state = .empty then { x with bufA := Buffer.fresh, waiting := false, holding := x.config.exclusive && !otherHolds }
  else if x.bufB.state = .empty then { x with bufB := Buffer.fresh, waiting := false, holding := x.config.exclusive && !otherHolds }
  else { x with waiting := true }

/-- A page length of 0 is stored as 1024 (R59). -/
def StreamConfig.stored (k : StreamConfig) : StreamConfig :=
  { k with pageLength := if k.pageLength = 0 then 1024 else k.pageLength }

/-- The new configuration stored and, unless OFF or without columns, the stream started (R59 steps 2 to 4). -/
def Stream.configure (x : Stream) (k : StreamConfig) (otherHolds : Bool) : Stream :=
  let y := { x with config := k.stored }
  if k.trigger = .off || k.columns.isEmpty then y
  else
    let z := { y with running := true, runNumber := (x.runNumber + 1) % 256, rails := List.replicate k.columns.length 0 }
    if k.mode = .page then z.takeBuffer otherHolds else z

/-- The row the converter is taking of a stream that is stopped is discarded at its completion (R60). -/
def Converter.discardOf (v : Converter) (i : StreamId) : Converter :=
  match v with
  | .row j run cols l r rails d => if j = i then .row j run cols l r rails true else .row j run cols l r rails d
  | .idle => .idle
  | .oneOff n => .oneOff n

/-! ### Hand-over and release (R68, R69, R78) -/

/-- The context wants a page of a stream's run (R78). -/
def Eval.wants (e : Eval) (i : StreamId) (run : Nat) : Bool :=
  match e.context, i with
  | .noContext, _ => false
  | .weighing, .s1 => e.wantS1 == some run
  | _, .s0 => e.wantS0 == some run
  | _, _ => false

/-- On the ring, `a` is the older of two sequence numbers. -/
def seqOlder (a b : Nat) : Bool := decide ((b + 4294967296 - a) % 4294967296 < 2147483648)

/-- Whether a stream's FULL page to hand over next stands in buffer B; none without a FULL page (R69). -/
def Stream.fullBuffer (x : Stream) : Option Bool :=
  let a := x.bufA.state == .full
  let b := x.bufB.state == .full
  if a && b then some (!(seqOlder x.bufA.seq x.bufB.seq))
  else if a then some false
  else if b then some true
  else none

def Stream.buffer (x : Stream) (inB : Bool) : Buffer := if inB then x.bufB else x.bufA

def Stream.setBuffer (x : Stream) (inB : Bool) (b : Buffer) : Stream :=
  if inB then { x with bufB := b } else { x with bufA := b }

/-- The page of a stream's buffer as it is handed over, its GAP mark fixed (R68, R70). -/
def Stream.pageOf (x : Stream) (i : StreamId) (inB : Bool) : Page :=
  let b := x.buffer inB
  ⟨i, inB, b.run, b.seq, b.columns, b.short, decide (b.seq ≠ nextSequence x.lastDelivered), b.rows⟩

/-- The stream after one of its pages has been handed over: HELD, last delivered sequence taken (R68, R69). -/
def Stream.handOver (x : Stream) (inB : Bool) : Stream :=
  let b := x.buffer inB
  { x.setBuffer inB { b with state := .held } with lastDelivered := b.seq }

/-- A buffer released: EMPTY, or FILLING at once for a stream waiting for one (R69). -/
def Stream.release (x : Stream) (inB : Bool) (otherHolds : Bool) : Stream :=
  let y := x.setBuffer inB Buffer.clear
  if y.waiting then y.takeBuffer otherHolds else y

/-- Release a stream's buffer. -/
def Capture.release (c : Capture) (i : StreamId) (inB : Bool) : Capture :=
  c.setStream i ((c.stream i).release inB (c.heldByOther i))

/-- The lowest-numbered stream with a FULL buffer, and which (R69). -/
def Capture.nextFull (c : Capture) : Option (StreamId × Bool) :=
  allStreams.findSome? fun i => (c.stream i).fullBuffer.map fun b => (i, b)

/-- While the unit holds no page, FULL pages are handed over; one that is not wanted is passed over at once (R69, R78).
The fuel covers the eight buffers there are. -/
def handOverPages : Nat → Capture × Eval → Capture × Eval
  | 0, ce => ce
  | fuel + 1, (c, e) =>
    if e.slot.isSome then (c, e)
    else match c.nextFull with
      | none => (c, e)
      | some (i, inB) =>
        let page := (c.stream i).pageOf i inB
        let c' := c.setStream i ((c.stream i).handOver inB)
        if e.wants i page.run then (c', { e with slot := some page })
        else handOverPages fuel (c'.release i inB, e)

/-- Hand over what there is. -/
def handOver (ce : Capture × Eval) : Capture × Eval := handOverPages 9 ce

/-! ### Writes (R59, R60) -/

/-- The stop of a RUNNING stream (R59 step 1, R60). Its SHORT page is handed over there when the unit holds no page; one that is not
wanted is passed over at once, and its buffer is EMPTY again before the new configuration takes a buffer. -/
def stopStream (i : StreamId) (ce : Capture × Eval) : Capture × Eval :=
  let c := ce.1
  if (c.stream i).running then
    handOver ({ c.setStream i (c.stream i).stop with converter := c.converter.discardOf i }, ce.2)
  else ce

/-- The owning sequence writes a stream's configuration as one action (R59). -/
def writeStreamOn (i : StreamId) (k : StreamConfig) (ce : Capture × Eval) : Capture × Eval :=
  let de := stopStream i ce
  (de.1.setStream i ((de.1.stream i).configure k (de.1.heldByOther i)), de.2)

/-- Put the two blocks back. -/
def State.setChain (s : State) (ce : Capture × Eval) : State := (s.setCapture ce.1).setEval ce.2

/-- Write a stream. -/
def writeStream (i : StreamId) (k : StreamConfig) (s : State) : State := s.setChain (writeStreamOn i k (s.capture, s.eval))

/-- The configuration of a stream that is written OFF (R73, R74). The rules give its trigger alone; the other fields, which nothing reads
while the stream is OFF, are the model's (log entry 35). -/
def offConfig : StreamConfig := ⟨[], .off, .latest, 0, false⟩

/-- Open or close the crossing gate (R61). -/
def setGate (isOpen : Bool) (s : State) : State := s.setCapture { s.capture with gateOpen := isOpen }

/-! ### Row requests (R61, R62) -/

/-- A pacing event makes a request for a stream of its trigger. -/
def Stream.triggeredBy (x : Stream) (t : PacingTimer) (gateOpen : Bool) : Bool :=
  x.running &&
  match x.config.trigger, t with
  | .pt0, .pt0 => true
  | .pt1, .pt1 => true
  | .gate, .pt0 => gateOpen
  | _, _ => false

/-- The pending count after a pacing event: raised unless the request is lost (R61). -/
def Capture.requested (c : Capture) (t : PacingTimer) (i : StreamId) : Stream :=
  let x := c.stream i
  if x.triggeredBy t c.gateOpen && !x.waiting && !c.heldByOther i && decide (x.requests < 255) then
    { x with requests := x.requests + 1 }
  else x

/-- A pacing event at the capture block (R49, R61). -/
def Capture.pace (c : Capture) (t : PacingTimer) : Capture :=
  { c with s0 := c.requested t .s0, s1 := c.requested t .s1, s2 := c.requested t .s2, s3 := c.requested t .s3 }

/-! ### The converter (R63, R64) -/

/-- Work is waiting for an idle converter (R63). -/
def Capture.workWaiting (c : Capture) : Bool :=
  c.converter == .idle && (!c.oneOffs.isEmpty || allStreams.any fun i => decide (0 < (c.stream i).requests))

/-- The idle converter takes the next work by its arbiter; a row reads its stamps as it begins (R63, R64). -/
def Capture.start (c : Capture) (stampL stampR : Nat) : Capture :=
  match c.oneOffs with
  | n :: ns => { c with oneOffs := ns, converter := .oneOff n }
  | [] =>
    match allStreams.find? fun i => decide (0 < (c.stream i).requests) with
    | none => c
    | some i =>
      let x := c.stream i
      { c.setStream i { x with requests := x.requests - 1 } with
        converter := .row i x.runNumber x.config.columns stampL stampR x.rails false }

/-- A rail value (R71). -/
def isRail (raw : Nat) : Bool := decide (raw ≤ 8) || decide (4087 ≤ raw)

/-- A column's rail run count after a raw value, before it is set back at 4 (R71). -/
def railCount (count raw : Nat) : Nat := if isRail raw then count + 1 else 0

/-- The rail run counts of a row's columns, and the inputs whose count reached 4 (R71). -/
def checkRails : List Nat → List Nat → List Nat → List Nat × List Nat
  | col :: cols, counts, raws =>
    let n := railCount (counts.headD 0) (raws.headD 0)
    let rest := checkRails cols counts.tail raws.tail
    if 4 ≤ n then (0 :: rest.1, col :: rest.2) else (n :: rest.1, rest.2)
  | [], _, _ => ([], [])

/-- Add a number to a set kept in rising order. -/
def addNat (n : Nat) (ns : List Nat) : List Nat := if ns.contains n then ns else insertNat n ns

/-- The inputs that become due to be FAULTED: those that are not FAULTED already (R71). -/
def Capture.markDue (c : Capture) (hits : List Nat) : Capture :=
  { c with faultDue := hits.foldl (fun d n => if c.faulted.contains n then d else addNat n d) c.faultDue }

/-- The page in a buffer completes: kept when the other buffer is EMPTY, dropped otherwise (R67). The exclusive hold lapses (R62). -/
def Stream.complete (x : Stream) (inB : Bool) : Stream :=
  let seq := nextSequence x.seqCounter
  let y := { x with seqCounter := seq, holding := false }
  if (x.buffer (!inB)).state = .empty then
    (y.setBuffer inB ((x.buffer inB).closed x.runNumber seq false x.config.columns)).setBuffer (!inB) Buffer.fresh
  else y.setBuffer inB Buffer.fresh

/-- A row added to a FILLING buffer, which may complete its page (R64, R67). -/
def Stream.addRow (x : Stream) (inB : Bool) (r : Row) : Stream :=
  let b := x.buffer inB
  let y := x.setBuffer inB { b with rows := b.rows ++ [r] }
  if x.config.pageLength ≤ b.rows.length + 1 then y.complete inB else y

/-- A completed row enters its stream (R64 step 4, R65). -/
def Stream.enter (x : Stream) (r : Row) : Stream :=
  match x.config.mode with
  | .latest => { x with latest := some r }
  | .page =>
    if x.bufA.state = .filling then x.addRow false r
    else if x.bufB.state = .filling then x.addRow true r
    else x

/-- The last conversion of a row completes (R64, R71): rail counts, then the row enters its stream unless it is discarded. The rail checks
of a row whose stream has been started anew go on from the counts of its own run and leave those of the new run (log entry 36). -/
def completeRow (raws : List Nat) (ce : Capture × Eval) : Capture × Eval :=
  let c := ce.1
  match c.converter with
  | .row i run columns stampL stampR rails discard =>
    let values := columns.mapIdx fun k _ => raws.getD k 0
    let checked := checkRails columns rails values
    let x := c.stream i
    let y := if x.runNumber = run then { x with rails := checked.1 } else x
    let z := if discard then y else y.enter ⟨stampL, stampR, values⟩
    let c' : Capture := { (c.setStream i z) with converter := .idle }
    handOver (c'.markDue checked.2, ce.2)
  | .idle => ce
  | .oneOff _ => ce

/-! ### Rail faults and one-off conversions (R71, R72) -/

/-- The lowest FAULTED input; sets are kept in rising order. -/
def Capture.lowestFaulted (c : Capture) : Option Nat := c.faulted.head?

/-- An input becomes FAULTED (R71). -/
def Capture.fault (c : Capture) (n : Nat) : Capture :=
  { c with faulted := addNat n c.faulted, faultDue := c.faultDue.filter fun m => m ≠ n }

/-- The ABORT key's one-off requests: every FAULTED input that has none pending (R72). A conversion that the converter is taking counts as
pending (log entry 37). -/
def Capture.abortKey (c : Capture) : Capture :=
  let due := c.faulted.foldl (fun d n => if c.converter = .oneOff n then d else addNat n d) c.oneOffs
  { c with oneOffs := due }

/-- SENSOR_FAULT with the lowest FAULTED input: raised, or its field updated when it is raised already (R71). -/
def raiseSensorFault (s : State) : State :=
  if s.guidance.isRaised .sensorFault then updateFields .sensorFault { input := s.capture.lowestFaulted } s
  else raise .sensorFault { input := s.capture.lowestFaulted } s

/-- SENSOR_FAULT after an input has become SOUND: lowered with the last one, else its field set (R72). -/
def settleSensorFault (s : State) : State :=
  if s.capture.faulted.isEmpty then lower .sensorFault s
  else updateFields .sensorFault { input := s.capture.lowestFaulted } s

end Sys2Proof.Machine
end

