-- ==== Sys2Proof/Machine/Evaluation.lean ====
section
/-! DEFINITION. The evaluation unit's context and pages: the sequences' commands, what a page does at its evaluation-complete event,
drainage, and the reports to the sequences (R76 to R78, R81, R82, R84, R88, R95). -/

namespace Sys2Proof.Machine

/-- What the unit reports to the owning sequence (R81, R82, R88, R95). -/
inductive EvalReport where
  | weighFormed (load : Pair)
  | zeroFormed
  | recordFormed (r : FormedRecord)
  | noRows
  | slipFormed (slip : Int)
  deriving DecidableEq, Repr

/-! ### Context commands (R77) -/

/-- begin weigh. -/
def Eval.beginWeigh (e : Eval) (c : Capture) : Eval :=
  { e with context := .weighing, loads := none, zt := none, rr := none, requested := false,
           wantS0 := some c.s0.runNumber, wantS1 := some c.s1.runNumber }

/-- begin zero: in NONE or WEIGHING, with Zt present. -/
def Eval.beginZero (e : Eval) (c : Capture) : Eval :=
  if (e.context = .noContext || e.context = .weighing) && e.zt.isSome then
    { e with context := .zeroing, rr := none, wantS0 := some c.s0.runNumber, wantS1 := none }
  else e

/-- begin test: in NONE or ZEROING, with Zt and RR present. -/
def Eval.beginTest (e : Eval) (c : Capture) (t : TestSetup) : Eval :=
  if (e.context = .noContext || e.context = .zeroing) && e.zt.isSome && e.rr.isSome then
    { e with context := .testing, test := t, acc := TestAcc.clear, requested := false, wantS0 := some c.s0.runNumber, wantS1 := none }
  else e

/-- end test. -/
def Eval.endTest (e : Eval) : Eval := if e.context = .testing then { e with context := .draining } else e

/-- request record, before drainage is looked at. -/
def Eval.requestRecord (e : Eval) : Eval := if e.context = .draining then { e with requested := true } else e

/-- discard test: accumulators and RR cleared, loads and Zt kept; not given in a crossing. -/
def Eval.discardTest (e : Eval) : Eval :=
  if e.context = .crossing || e.context = .crossingDrain then e
  else { e with context := .noContext, acc := TestAcc.clear, rr := none, requested := false, wantS0 := none, wantS1 := none }

/-- discard axle. -/
def Eval.discardAxle (e : Eval) : Eval :=
  { e with context := .noContext, acc := TestAcc.clear, loads := none, zt := none, rr := none, requested := false,
           wantS0 := none, wantS1 := none }

/-- begin crossing: in NONE. -/
def Eval.beginCrossing (e : Eval) (c : Capture) : Eval :=
  if e.context = .noContext then { e with context := .crossing, peak := none, wantS0 := some c.s0.runNumber, wantS1 := none } else e

/-- end crossing, before drainage is looked at. -/
def Eval.endCrossing (e : Eval) : Eval := if e.context = .crossing then { e with context := .crossingDrain } else e

/-- discard crossing. -/
def Eval.discardCrossing (e : Eval) : Eval :=
  if e.context = .crossing || e.context = .crossingDrain then { e with context := .noContext, peak := none, wantS0 := none } else e

/-! ### Drainage (R88, R95) -/

/-- A page of a run stands FULL in a buffer. -/
def Buffer.fullOf (b : Buffer) (run : Nat) : Bool := b.state == .full && b.run == run

/-- The recorded S0 run is drained: S0 OFF, no page of the run in the slot or FULL in a buffer (R88). -/
def drained (c : Capture) (e : Eval) : Bool :=
  match e.wantS0 with
  | none => true
  | some run =>
    !c.s0.running && !c.s0.bufA.fullOf run && !c.s0.bufB.fullOf run &&
    match e.slot with
    | some p => !(p.stream == .s0 && p.run == run)
    | none => true

/-- What drainage gives: the record or no rows once requested (R88), the slip or no rows of a crossing (R95). -/
def drain (c : Capture) (e : Eval) : Eval × Option EvalReport :=
  match e.context with
  | .draining =>
    if e.requested && drained c e then
      let e' := { e with context := .noContext, requested := false, wantS0 := none }
      if e.acc.rows = 0 then (e', some .noRows)
      else (e', some (.recordFormed (e.acc.record e.test (e.loads.getD ⟨0, 0⟩) (e.rr.getD ⟨0, 0⟩))))
    else (e, none)
  | .crossingDrain =>
    if drained c e then
      let e' := { e with context := .noContext, wantS0 := none }
      match e.peak with
      | none => (e', some .noRows)
      | some x => (e', some (.slipFormed (slipOfPeak x)))
    else (e, none)
  | _ => (e, none)

/-! ### Pages (R76, R78, R81, R82, R84, R95) -/

/-- The effect of a wanted page at its evaluation-complete event, with the report it gives. -/
def Eval.takePage (e : Eval) (k : Calibration) (p : Page) : Eval × Option EvalReport :=
  match e.context, p.stream with
  | .weighing, .s0 =>
    let e' := { e with zt := some (staticZero p.rows), wantS0 := none }
    (e', e.loads.map .weighFormed)
  | .weighing, .s1 =>
    let w := wheelLoads k p.rows
    let e' := { e with loads := some w, wantS1 := none }
    (e', if e.zt.isSome then some (.weighFormed w) else none)
  | .zeroing, .s0 =>
    ({ e with rr := some (rollingPair k (e.zt.getD ⟨0, 0⟩) p.rows), wantS0 := none }, some .zeroFormed)
  | .testing, .s0 =>
    ({ e with acc := TestAcc.takeRows k (e.zt.getD ⟨0, 0⟩) (e.rr.getD ⟨0, 0⟩) e.test.pressure true p.gap true e.acc p.rows }, none)
  | .draining, .s0 =>
    ({ e with acc := TestAcc.takeRows k (e.zt.getD ⟨0, 0⟩) (e.rr.getD ⟨0, 0⟩) e.test.pressure false p.gap true e.acc p.rows }, none)
  | .crossing, .s0 => ({ e with peak := takePeak k e.peak p.rows }, none)
  | .crossingDrain, .s0 => ({ e with peak := takePeak k e.peak p.rows }, none)
  | _, _ => (e, none)

/-- The evaluation-complete event of the page in the slot: its effect under the context standing now, its release, the next hand-over,
and drainage (R76, R88). -/
def completeEvaluation (ce : Capture × Eval) : (Capture × Eval) × Option EvalReport :=
  let (c, e) := ce
  match e.slot with
  | none => (ce, none)
  | some p =>
    let taken : Eval × Option EvalReport :=
      match e.calib with
      | some k => if e.wants p.stream p.run then e.takePage k p else (e, none)
      | none => (e, none)
    let ce1 := handOver (c.release p.stream p.inB, { taken.1 with slot := none })
    match taken.2 with
    | some r => (ce1, some r)
    | none =>
      let d := drain ce1.1 ce1.2
      ((ce1.1, d.1), d.2)

/-! ### The commands on the state -/

def evalBeginWeigh (s : State) : State := s.setEval (s.eval.beginWeigh s.capture)
def evalBeginZero (s : State) : State := s.setEval (s.eval.beginZero s.capture)
def evalBeginTest (t : TestSetup) (s : State) : State := s.setEval (s.eval.beginTest s.capture t)
def evalEndTest (s : State) : State := s.setEval s.eval.endTest
def evalDiscardTest (s : State) : State := s.setEval s.eval.discardTest
def evalDiscardAxle (s : State) : State := s.setEval s.eval.discardAxle
def evalBeginCrossing (s : State) : State := s.setEval (s.eval.beginCrossing s.capture)
def evalDiscardCrossing (s : State) : State := s.setEval s.eval.discardCrossing

/-- request record, with the report that comes at once when the run is drained already (R88). -/
def evalRequestRecord (s : State) : State × Option EvalReport :=
  let d := drain s.capture s.eval.requestRecord
  (s.setEval d.1, d.2)

/-- end crossing, with the report that comes at once when the run is drained already (R95). -/
def evalEndCrossing (s : State) : State × Option EvalReport :=
  let d := drain s.capture s.eval.endCrossing
  (s.setEval d.1, d.2)

/-- A window sample judged for the slip stop while TESTING (R83). -/
def evalWindow (w : WindowSample) (s : State) : State :=
  if s.eval.context = .testing then s.setEval { s.eval with acc := s.eval.acc.judgeWindow w } else s

end Sys2Proof.Machine
end

