-- ==== Sys2Proof/Machine/Records.lean ====
section
/-! DEFINITION. The archive record as bytes and its CRC-16 (R163, R169, R179): what a slot's body must hold for its content to be read.
The manual names the fields that the CRC covers and gives no layout of them; the order and the widths here are the model's (log entry 13). -/

namespace Sys2Proof.Machine

/-! ### The bytes that the CRC covers (log entry 13) -/

/-- An optional part of a width in bytes: absent, it is all ones in its width (00_scope.md, Optional fields). -/
def partBytes {α : Type} (width : Nat) (f : α → List Byte) : Option α → List Byte
  | none => List.replicate width 255#8
  | some a => f a

/-- A list: a byte with its length, then its members' bytes. -/
def listBytes {α : Type} (f : α → List Byte) (xs : List α) : List Byte := byteOf xs.length :: xs.flatMap f

/-- A value of four bytes, most significant first. -/
def doubleWordBytes (n : Nat) : List Byte := wordBytes (n / 65536) ++ wordBytes n

def Pair.bytes (p : Pair) : List Byte := wordBytes p.l ++ wordBytes p.r

/-- A yes or no. -/
def flagByte (b : Bool) : Byte := byteOf b.toNat

def VehicleClass.code : VehicleClass → Nat
  | .light => 0 | .heavy => 1 | .trailer => 2

def BrakeSystem.code : BrakeSystem → Nat
  | .hydraulic => 0 | .air => 1

def EntryTime.bytes (t : EntryTime) : List Byte := wordBytes t.year ++ [t.month, t.day, t.hour, t.minute].map byteOf

def BrakeResult.bytes (b : BrakeResult) : List Byte :=
  let f := b.figures
  byteOf b.endReason.code :: f.fmax.bytes ++ partBytes 4 Pair.bytes f.fref ++ f.rr.bytes ++ [f.imbalance, f.ovalL, f.ovalR].map optByte

/-- A slip as its sign and its magnitude, so that no slip is all ones. -/
def slipBytes (i : Int) : List Byte := flagByte (decide (i < 0)) :: wordBytes i.natAbs

def AxleRecord.bytes (a : AxleRecord) : List Byte :=
  partBytes 4 Pair.bytes a.load ++ partBytes 16 BrakeResult.bytes a.service ++ partBytes 16 BrakeResult.bytes a.parking ++
    partBytes 3 slipBytes a.slip

def Remarks.bytes (r : Remarks) : List Byte := [r.ovality, r.brakeDrag, r.notReferenced].map flagByte

def Required.bytes (r : Required) : List Byte := [r.load, r.service, r.parking, r.slip].map flagByte

/-- The identity used, behind a byte 1, so that no identity is all ones. -/
def Identity.bytes (i : Identity) : List Byte := 1 :: i.laneName ++ i.approval ++ i.serial

/-- The body of a record (R163): the content but for its certificate number, which stands in the header, and its duplicate number, which
a record has not. -/
def CertContent.body (c : CertContent) : List Byte :=
  wordBytes c.ticket ++ listBytes (fun b => [b]) c.plate ++ [c.cls.code, c.brake.code, c.axleCount].map byteOf ++ c.time.bytes ++
    listBytes (fun k => [byteOf k]) c.parkingSet ++ listBytes (fun k => [byteOf k]) c.steeredSet ++ listBytes AxleRecord.bytes c.axles ++
    partBytes 4 doubleWordBytes c.denominator ++ partBytes 2 wordBytes c.serviceRatio ++ partBytes 2 wordBytes c.parkingRatio ++
    byteOf c.verdict.code :: c.remarks.bytes ++ listBytes Required.bytes c.required ++ partBytes 39 Identity.bytes c.identity

/-- The CRC-16 over a record's header and body, by the generator of the lane frames (R163, R179). -/
def recordCrc (n : CertNo) (c : CertContent) : BitVec 16 := crcBytes (certBytes n ++ c.body)

/-! ### Reading a slot (R169, R171) -/

/-- The header and body of a record as they are programmed. -/
def SlotStore.record (c : CertContent) : SlotStore :=
  ⟨.checks c.number, .written c (recordCrc c.number c), [.unused, .unused, .unused]⟩

/-- The record read from a slot: its header checks, and the CRC-16 formed over header and body is the one that stands there. -/
def SlotStore.content (x : SlotStore) : Option CertContent :=
  match x.header, x.body with
  | .checks n, .written c crc => if recordCrc n c = crc then some { c with number := n } else none
  | _, _ => none

end Sys2Proof.Machine
end

