-- ==== Sys2Proof/Machine/Archive.lean ====
section
/-! DEFINITION. The certificate archive: the slot table, record writes with their search and block erases, mark programs, the lookup,
the certificate sequence, the start-up scan, and what an operation cut short leaves behind (R163 to R171). -/

namespace Sys2Proof.Machine

/-- What the archive reports to the certificate unit (R161, R167, R170). -/
inductive ArchiveReport where
  | recordDone (n : CertNo) (pass : Bool)
  | markDone (pass : Bool)
  | markSkipped
  deriving DecidableEq, Repr

/-- The erase block of a slot (R163). -/
def blockOf (slot : Nat) : Nat := slot / Config.blockSlots

/-- The slot after a slot in ring order (R163). -/
def nextSlot (slot : Nat) : Nat := (slot + 1) % Config.slotCount

/-- The slots of a block. -/
def blockSlotsOf (block : Nat) : List Nat := (List.range Config.blockSlots).map (· + Config.blockSlots * block)

def Archive.row (a : Archive) (slot : Nat) : SlotRow := a.table.getD slot SlotRow.blank

def Archive.store (a : Archive) (slot : Nat) : SlotStore := a.storage.getD slot SlotStore.blank

def Archive.setRow (a : Archive) (slot : Nat) (r : SlotRow) : Archive := { a with table := a.table.set slot r }

def Archive.setStore (a : Archive) (slot : Nat) (x : SlotStore) : Archive := { a with storage := a.storage.set slot x }

def Archive.isIdle (a : Archive) : Bool := a.op == .idle

/-- A block is under erase (R168). -/
def Archive.erasesBlock (a : Archive) (block : Nat) : Bool :=
  match a.op with
  | .erasing b _ _ => b == block
  | _ => false

/-! ### The sequence (R165) -/

/-- The sequence after a sequence, 65535 passing to 1. -/
def nextSeqOf (n : Nat) : Nat := if 65535 ≤ n then 1 else n + 1

/-- The next sequence advanced by one when a job takes it. -/
def Archive.takeSequence (a : Archive) : Archive := { a with nextSeq := nextSeqOf a.nextSeq }

/-! ### The lookup (R169) -/

/-- The slot whose table state is RECORD with a certificate number and whose block is not under erase. -/
def Archive.lookup (a : Archive) (n : CertNo) : Option Nat :=
  (List.range Config.slotCount).find? fun i =>
    (a.row i).state == .record && (a.row i).number == some n && !a.erasesBlock (blockOf i)

/-- The archive's answer for a certificate number. -/
inductive ArchiveAnswer where
  | notFound
  | damaged
  | found (marks : Nat) (c : CertContent)
  deriving DecidableEq, Repr

def Archive.ask (a : Archive) (n : CertNo) : ArchiveAnswer :=
  match a.lookup n with
  | none => .notFound
  | some i =>
    match (a.store i).content with
    | some c => .found (a.row i).marks c
    | none => .damaged

/-! ### Storage after an operation (log entries 10 and 13) -/

/-- A slot after an erase reached it. -/
def SlotStore.erasedTo (x : SlotStore) : Residue → SlotStore
  | .erased => SlotStore.blank
  | .whole => x
  | .bodyDamaged => { x with body := .damaged }
  | .unreadable => ⟨.unreadable, .damaged, [.spoiled, .spoiled, .spoiled]⟩

/-- A slot after its record program: header and body. -/
def SlotStore.programmedTo (x : SlotStore) (c : CertContent) : Residue → SlotStore
  | .erased => x
  | .whole => { SlotStore.record c with marks := x.marks }
  | .bodyDamaged => { x with header := .checks c.number, body := .damaged }
  | .unreadable => { x with header := .unreadable, body := .damaged }

/-- A mark place after a mark program cut short. -/
def markResidue (requester : Nat) : Residue → MarkCell
  | .erased => .unused
  | .whole => .mark requester
  | _ => .spoiled

def SlotStore.setMark (x : SlotStore) (place : Nat) (m : MarkCell) : SlotStore := { x with marks := x.marks.set place m }

/-- The slots of a block after an erase of it, by what each then reads; a slot with no entry reads neither erased nor as a record. -/
def eraseSlots (left : List Residue) (block : Nat) (storage : List SlotStore) : List SlotStore :=
  storage.mapIdx fun i x =>
    if blockOf i = block then x.erasedTo (left.getD (i % Config.blockSlots) .unreadable) else x

/-- The storage when power-off or the RESET pin cuts the operation short (R164). -/
def Archive.cutShort (a : Archive) (left : List Residue) : List SlotStore :=
  match a.op with
  | .idle => a.storage
  | .erasing block _ _ => eraseSlots left block a.storage
  | .programRecord slot c =>
    a.storage.set slot ((a.store slot).programmedTo c (left.headD .unreadable))
  | .programMark slot place requester =>
    a.storage.set slot ((a.store slot).setMark place (markResidue requester (left.headD .unreadable)))

/-! ### Record writes (R166 to R168) -/

/-- What the search of R166 comes to: the slot to write, a block to erase first, or no slot. -/
inductive Search where
  | write (slot : Nat)
  | erase (slot block : Nat) (entered : List Nat)
  | stop (slot : Nat)
  deriving DecidableEq, Repr

/-- Steps 1 to 3 of R166 from a write position. `fresh` is clear for the step 2 that follows an erase. The fuel exceeds the 32
slots there are. -/
def Archive.search (a : Archive) : Nat → Nat → List Nat → Bool → Search
  | 0, slot, _, _ => .stop slot
  | fuel + 1, slot, entered, fresh =>
    let enters := fresh && slot % Config.blockSlots == 0
    let block := blockOf slot
    if enters && entered.contains block then .stop slot
    else
      let entered' := if enters then block :: entered else entered
      if enters && (blockSlotsOf block).any (fun i => (a.row i).state ≠ .erased) then .erase slot block entered'
      else if (a.row slot).state = .erased then .write slot
      else a.search fuel (nextSlot slot) entered' true

/-- Carry a record write to its next operation, or to its FAIL report (R166, R167). -/
def Archive.carryRecord (a : Archive) (c : CertContent) (entered : List Nat) (fresh : Bool) : Archive × Option ArchiveReport :=
  match a.search 40 a.writePos entered fresh with
  | .write slot => ({ a with op := .programRecord slot c, writePos := nextSlot slot }, none)
  | .erase slot block entered' => ({ a with op := .erasing block c entered', writePos := slot }, none)
  | .stop slot => ({ a with op := .idle, writePos := slot }, some (.recordDone c.number false))

/-- A mark program begins (R170). -/
def Archive.beginMark (a : Archive) (n : CertNo) (requester : Nat) : Archive × Option ArchiveReport :=
  match a.lookup n with
  | none => (a, some .markSkipped)
  | some i =>
    if 3 ≤ (a.row i).used then (a, some (.markDone false))
    else ({ a with op := .programMark i ((a.store i).marks.findIdx (· == .unused)) requester }, none)

/-- A request begins while the archive is IDLE (R164). -/
def Archive.begin (a : Archive) : ArchiveRequest → Archive × Option ArchiveReport
  | .record c => a.carryRecord c [] true
  | .mark n requester => a.beginMark n requester

/-- Requests begun in order until one is under way (R164), with the reports of those that ended at once. -/
def Archive.beginNext (a : Archive) : List ArchiveRequest → Archive × List ArchiveReport
  | [] => ({ a with requests := [] }, [])
  | r :: rs =>
    let b := a.begin r
    if b.1.isIdle then
      let rest := b.1.beginNext rs
      (rest.1, b.2.toList ++ rest.2)
    else ({ b.1 with requests := rs }, b.2.toList)

/-- The archive becomes IDLE, or begins the next request in the same step (R164). -/
def Archive.goOn (a : Archive) : Archive × List ArchiveReport := ({ a with op := .idle } : Archive).beginNext a.requests

/-- A request of the certificate unit (R164). -/
def Archive.submit (a : Archive) (r : ArchiveRequest) : Archive × List ArchiveReport :=
  if a.isIdle then
    let b := a.begin r
    (b.1, b.2.toList)
  else if a.requests.length < Config.requestListSize then ({ a with requests := a.requests ++ [r] }, [])
  else
    match r with
    | .record c => (a, [.recordDone c.number false])
    | .mark _ _ => (a, [.markDone false])

/-! ### Completions -/

/-- The row of a slot read after an erase of its block (R168). A BAD row has marks and places used 0 (log entry 42). -/
def rowAfterErase (x : SlotStore) : SlotRow := if x = SlotStore.blank then SlotRow.blank else ⟨.bad, none, 0, 0⟩

/-- An erase completes (R168), and its record write goes on with step 2 of R166. -/
def Archive.eraseComplete (a : Archive) (left : List Residue) : Archive × List ArchiveReport :=
  match a.op with
  | .erasing block c entered =>
    let storage := eraseSlots left block a.storage
    let table := a.table.mapIdx fun i r => if blockOf i = block then rowAfterErase (storage.getD i SlotStore.blank) else r
    let b := ({ a with storage := storage, table := table, op := .idle } : Archive).carryRecord c entered false
    if b.1.isIdle then
      let rest := b.1.goOn
      (rest.1, b.2.toList ++ rest.2)
    else (b.1, b.2.toList)
  | _ => (a, [])

/-- A record's program completes (R167). A BAD row has marks and places used 0 (log entry 42). -/
def Archive.recordComplete (a : Archive) (pass : Bool) (left : Residue) : Archive × List ArchiveReport :=
  match a.op with
  | .programRecord slot c =>
    let stored := a.setStore slot ((a.store slot).programmedTo c left)
    let b := stored.setRow slot ⟨if pass then .record else .bad, some c.number, 0, 0⟩
    let rest := b.goOn
    (rest.1, .recordDone c.number pass :: rest.2)
  | _ => (a, [])

/-- A mark's program completes (R170). -/
def Archive.markComplete (a : Archive) (pass : Bool) : Archive × List ArchiveReport :=
  match a.op with
  | .programMark slot place requester =>
    let stored := a.setStore slot ((a.store slot).setMark place (if pass then .mark requester else .spoiled))
    let r := a.row slot
    let b := stored.setRow slot { r with marks := if pass then r.marks + 1 else r.marks, used := r.used + 1 }
    let rest := b.goOn
    (rest.1, .markDone pass :: rest.2)
  | _ => (a, [])

/-! ### The start-up scan (R171) -/

def MarkCell.holdsMark : MarkCell → Bool
  | .mark _ => true
  | _ => false

/-- The row a slot's storage gives. A BAD row has marks and places used 0 (log entry 42). -/
def scanRow (x : SlotStore) : SlotRow :=
  if x = SlotStore.blank then SlotRow.blank
  else match x.header, x.content with
    | .checks n, some _ => ⟨.record, some n, x.marks.countP MarkCell.holdsMark, x.marks.countP (· ≠ .unused)⟩
    | .checks n, none => ⟨.bad, some n, 0, 0⟩
    | _, _ => ⟨.bad, none, 0, 0⟩

/-- Of two sequences, the first is newer. -/
def seqNewer (a b : Nat) : Bool :=
  let d := (a + 65535 - b % 65535) % 65535
  decide (1 ≤ d) && decide (d ≤ 32767)

/-- The slots that hold a certificate number, with their sequences, in slot order. -/
def numberedSlots (table : List SlotRow) : List (Nat × Nat) :=
  (List.range table.length).filterMap fun i => ((table.getD i SlotRow.blank).number).map fun n => (i, n.seq)

/-- The newest of the numbered slots; where each has a newer one, the manual names none (log entry 18). -/
def newestSlot (slots : List (Nat × Nat)) : Option (Nat × Nat) :=
  match slots with
  | [] => none
  | _ :: _ =>
    match (slots.filter fun x => slots.all fun y => !seqNewer y.2 x.2).getLast? with
    | some x => some x
    | none => slots[Config.newestOfCycle (slots.map (·.2)) % slots.length]?

/-- The table, the write position and the next sequence set by the scan. -/
def Archive.scan (a : Archive) : Archive :=
  let table := a.storage.map scanRow
  match newestSlot (numberedSlots table) with
  | some x => { a with table := table, writePos := nextSlot x.1, nextSeq := nextSeqOf x.2 }
  | none => { a with table := table, writePos := 0, nextSeq := 1 }

end Sys2Proof.Machine
end

