-- ==== Sys2Proof/Machine/LaneView.lean ====
section
/-! DEFINITION. The vehicle table by itself: taking in a VEHICLE_ENTRY, cancels, axle events, results with the vehicle computation and
the completeness test, and closes (R1 to R20). What the table reports to other blocks is done in Vehicles.lean. -/

namespace Sys2Proof.Machine

/-! ### Taking in VEHICLE_ENTRY (R5 to R7) -/

/-- The registration fields of a checked VEHICLE_ENTRY, in range (R5). -/
structure Registration where
  ticket : Nat
  cls : VehicleClass
  brake : BrakeSystem
  axleCount : Nat
  parkingSet : List Nat
  steeredSet : List Nat
  pref : Option Nat
  weight : Option Nat
  time : EntryTime
  plate : List Byte
  deriving DecidableEq, Repr

/-- A present reference pressure in range (R5). -/
def rangedPref (p : Nat) : Nat := max 300 (min 1000 p)

/-- A design weight in range: 0 is absent (R5). -/
def rangedWeight : Option Nat → Option Nat
  | none => none
  | some w => if w = 0 then none else some (min 60000 w)

/-- The checks and ranges of R5; none refuses the frame. -/
def EntryFields.check (f : EntryFields) : Option Registration :=
  match f.cls, f.brake with
  | some cls, some brake =>
    if f.ticket = 0 || f.axleCount = 0 || 8 < f.axleCount || (brake = .air && f.pref.isNone) then none
    else some
      { ticket := f.ticket, cls := cls, brake := brake, axleCount := f.axleCount
        parkingSet := axlesOf f.parking f.axleCount, steeredSet := axlesOf f.steered f.axleCount
        pref := if brake = .air then f.pref.map rangedPref else none
        weight := rangedWeight f.weight, time := f.time, plate := f.plate.take 8 }
  | _, _ => none

/-- A new entry (R7). -/
def Registration.entry (r : Registration) (stamp : Nat) : Entry where
  ticket := r.ticket
  stamp := stamp
  state := .registered
  cls := r.cls
  brake := r.brake
  axleCount := r.axleCount
  parkingSet := r.parkingSet
  steeredSet := r.steeredSet
  pref := r.pref
  weight := r.weight
  time := r.time
  plate := r.plate
  platePassed := 0
  rollerPassed := 0
  axles := List.replicate r.axleCount AxleRecord.empty
  serviceRatio := none
  parkingRatio := none
  verdict := none
  certNo := none

/-- A record without its Fref pair (R6). -/
def AxleRecord.withoutFref (a : AxleRecord) : AxleRecord :=
  { a with service := a.service.map fun b => { b with figures := { b.figures with fref := none } } }

/-- The axle records of a rewrite: those above the new count discarded, added axles empty, Fref pairs absent for HYDRAULIC (R6). -/
def rewriteAxles (r : Registration) (axles : List AxleRecord) : List AxleRecord :=
  let kept := axles.take r.axleCount
  let kept := if r.brake = .hydraulic then kept.map AxleRecord.withoutFref else kept
  kept ++ List.replicate (r.axleCount - kept.length) AxleRecord.empty

/-- The rewrite of a REGISTERED entry (R6). -/
def Registration.rewrite (r : Registration) (e : Entry) : Entry :=
  { e with
    cls := r.cls, brake := r.brake, axleCount := r.axleCount, parkingSet := r.parkingSet, steeredSet := r.steeredSet
    pref := r.pref, weight := r.weight, time := r.time, plate := r.plate
    platePassed := min e.platePassed r.axleCount, rollerPassed := min e.rollerPassed r.axleCount
    axles := rewriteAxles r e.axles }

/-- The entry of lowest stamp in a state. -/
def LaneView.oldestIn (v : LaneView) (st : EntryState) : Option Entry := oldest (v.entries.filter fun e => e.state == st)

/-- The table without a ticket. -/
def LaneView.without (v : LaneView) (ticket : Nat) : LaneView :=
  { v with entries := v.entries.filter fun e => e.ticket ≠ ticket }

/-- The renumbering of R1, when the counter stands at 65535. -/
def LaneView.renumbered (v : LaneView) : LaneView :=
  if v.stampCounter < 65535 then v
  else ⟨(byStamp v.entries).mapIdx fun i e => { e with stamp := i }, v.entries.length⟩

/-- A new entry with the next order stamp (R1). -/
def LaneView.add (v : LaneView) (r : Registration) : LaneView :=
  let w := v.renumbered
  ⟨w.entries ++ [r.entry w.stampCounter], w.stampCounter + 1⟩

/-- The place of a new entry (R7): a place is free, an entry is discarded for it, or there is none. -/
inductive Place where
  | free
  | discard (ticket : Nat)
  | full
  deriving DecidableEq, Repr

def LaneView.place (v : LaneView) : Place :=
  if v.entries.length < Config.tableSize then .free
  else match v.oldestIn .closed with
    | some e => .discard e.ticket
    | none =>
      match v.oldestIn .abandoned with
      | some e => .discard e.ticket
      | none => .full

/-! ### Cancel, axle events, closes (R8, R9, R18) -/

/-- Entries on which axle events and results act: not CLOSED, not ABANDONED. -/
def LaneView.live (v : LaneView) (ticket axle : Nat) : Option Entry :=
  match v.find ticket with
  | some e => if e.takesResults && decide (1 ≤ axle) && decide (axle ≤ e.axleCount) then some e else none
  | none => none

/-- The effect of an axle event on its entry (R9). -/
def Entry.axleEvent (e : Entry) (axle : Nat) (ev : AxleEventKind) (role : MeasuringRole) : Entry :=
  let e := if e.state = .registered then { e with state := .inLane } else e
  match ev, role with
  | .arrived, _ => e
  | .left, .roller => { e with rollerPassed := max e.rollerPassed axle }
  | .left, .plate => { e with platePassed := max e.platePassed axle }

/-- An axle event, heard or local (R9, R11). -/
def LaneView.axleEvent (v : LaneView) (ticket axle : Nat) (ev : AxleEventKind) (role : MeasuringRole) : LaneView :=
  match v.live ticket axle with
  | some _ => v.update ticket fun e => e.axleEvent axle ev role
  | none => v

/-- A close, of a heard CERT_DONE (R18). -/
def LaneView.closeHeard (v : LaneView) (ticket : Nat) (n : CertNo) (verdict : Verdict) : LaneView :=
  match v.find ticket with
  | some e =>
    if e.takesResults then
      v.update ticket fun e => { e with state := .closed, certNo := some n, verdict := some verdict }
    else v
  | none => v

/-- The local close at the end of a CERTIFICATE job (R18). -/
def LaneView.closeLocal (v : LaneView) (ticket : Nat) (n : CertNo) (verdict : Verdict) : LaneView :=
  match v.find ticket with
  | some e =>
    if e.state = .abandoned then v
    else v.update ticket fun e => { e with state := .closed, certNo := some n, verdict := some verdict }
  | none => v

/-! ### Results (R13 to R16, R19) -/

/-- A result as it reaches the table, before it is brought into range. -/
inductive AxleResult where
  | load (w : Pair)
  | brake (kind : TestKind) (r : BrakeResult) (w : Pair)
  | slip (i : Int)
  deriving DecidableEq, Repr

/-- A pair with each value at most a limit. -/
def Pair.upTo (p : Pair) (limit : Nat) : Pair := ⟨min limit p.l, min limit p.r⟩

/-- The figures in the ranges of R13; the Fref pair only for SERVICE on an AIR entry. -/
def Figures.ranged (f : Figures) (kind : TestKind) (brake : BrakeSystem) : Figures where
  fmax := f.fmax.upTo 6000
  fref := if kind = .service && brake = .air then f.fref.map (·.upTo 9999) else none
  imbalance := f.imbalance.map (min 100)
  ovalL := f.ovalL.map (min 100)
  ovalR := f.ovalR.map (min 100)
  rr := f.rr.upTo 6000

/-- The parts a result writes (R14). -/
def AxleRecord.write (a : AxleRecord) (brake : BrakeSystem) : AxleResult → AxleRecord
  | .load w => { a with load := some (w.upTo 15000) }
  | .brake .service r w =>
    { a with service := some { r with figures := r.figures.ranged .service brake }, load := some (w.upTo 15000) }
  | .brake .parking r w =>
    { a with parking := some { r with figures := r.figures.ranged .parking brake }, load := some (w.upTo 15000) }
  | .slip i => { a with slip := some (max (-200) (min 200 i)) }

/-- A result written to an axle, 1 to the axle count. -/
def Entry.write (e : Entry) (axle : Nat) (r : AxleResult) : Entry :=
  { e with axles := e.axles.modify (axle - 1) fun a => a.write e.brake r }

/-- The verdict formed and written (R19). -/
def Entry.withVerdict (e : Entry) (slipRequired : Bool) : Entry := { e with verdict := some (e.formVerdict slipRequired) }

/-- The vehicle computation (R19): both ratios, and the verdict of a COMPLETE entry. -/
def Entry.computed (e : Entry) (slipRequired : Bool) : Entry :=
  let e := { e with serviceRatio := e.formServiceRatio, parkingRatio := e.formParkingRatio }
  if e.state = .complete then e.withVerdict slipRequired else e

/-- The completeness test of an open entry (R16): whether it becomes COMPLETE, with its verdict. -/
def Entry.becomesComplete (e : Entry) (slipRequired : Bool) : Bool := e.isOpen && e.isComplete slipRequired

def Entry.tested (e : Entry) (slipRequired : Bool) : Entry :=
  if e.becomesComplete slipRequired then ({ e with state := .complete } : Entry).withVerdict slipRequired else e

/-- Step 1 of R15: what is requested of the evaluation unit after a write. -/
def Entry.recomputed (e : Entry) (slipRequired : Bool) (r : AxleResult) : Entry :=
  match r with
  | .slip _ => if e.state = .complete then e.withVerdict slipRequired else e
  | _ => e.computed slipRequired

end Sys2Proof.Machine
end

