-- ==== Sys2Proof/Machine/Certificate.lean ====
section
/-! DEFINITION. The certificate unit: certificate content and its lines, pages and the print line, the print job queue, paper, the
designated-printer recheck, requests, and the archive's reports (R147 to R162). -/

namespace Sys2Proof.Machine

/-! ### The lines of a certificate (R154) -/

def VehicleClass.text : VehicleClass → List Byte
  | .light => padRight 7 (ascii "LIGHT")
  | .heavy => padRight 7 (ascii "HEAVY")
  | .trailer => ascii "TRAILER"

def BrakeSystem.text : BrakeSystem → List Byte
  | .hydraulic => ascii "HYDRAULIC"
  | .air => padRight 9 (ascii "AIR")

def Verdict.text : Verdict → List Byte
  | .pass => padRight 10 (ascii "PASS")
  | .fail => padRight 10 (ascii "FAIL")
  | .incomplete => ascii "INCOMPLETE"

/-- The lane name, approval number and station serial as printed, UNSET without an identity. -/
def identityText (w : Nat) (o : Option Identity) (f : Identity → List Byte) : List Byte :=
  match o with
  | some i => charField w (f i)
  | none => padRight w unsetText

/-- The header lines. -/
def headerLines (c : CertContent) : List (List Byte) :=
  [ identityText 16 c.identity Identity.laneName
  , ascii "APPROVAL " ++ identityText 12 c.identity Identity.approval
  , ascii "STATION SERIAL " ++ identityText 10 c.identity Identity.serial
  , ascii "CERTIFICATE " ++ numField 2 c.number.station ++ ascii "/" ++ numField 5 c.number.seq
  , twoDigits c.time.day ++ ascii "." ++ twoDigits c.time.month ++ ascii "." ++ numField 5 c.time.year ++ ascii " " ++
      twoDigits c.time.hour ++ ascii ":" ++ twoDigits c.time.minute
  , ascii "TICKET " ++ numField 5 c.ticket ++ ascii " PLATE " ++ charField 8 c.plate
  , c.cls.text ++ ascii " " ++ c.brake.text ++ ascii " AXLES " ++ numField 1 c.axleCount ]

/-- What an absent part reads after its label: NOT RECEIVED when it is required, NONE when it is not. -/
def absentText (required : Bool) : List Byte := if required then ascii " NOT RECEIVED" else ascii " NONE"

def loadLine (n : Nat) (o : Option Pair) (required : Bool) : List Byte :=
  let label := ascii "AXLE " ++ numField 1 n ++ ascii " LOAD"
  match o with
  | some w => label ++ ascii " L " ++ numField 5 w.l ++ ascii " R " ++ numField 5 w.r
  | none => label ++ absentText required

/-- The four service lines. The labels of absent lines: log entry 14. -/
def serviceLines (o : Option BrakeResult) (required : Bool) : List (List Byte) :=
  match o with
  | some b =>
    [ ascii "SERVICE L " ++ numField 4 b.figures.fmax.l ++ ascii " R " ++ numField 4 b.figures.fmax.r ++ ascii " " ++ b.endReason.text
    , ascii "REFERENCED L " ++ optNum 4 (b.figures.fref.map Pair.l) ++ ascii " R " ++ optNum 4 (b.figures.fref.map Pair.r)
    , ascii "IMB " ++ optNum 3 b.figures.imbalance ++ ascii "% OVAL L " ++ optNum 3 b.figures.ovalL ++ ascii " R " ++
        optNum 3 b.figures.ovalR
    , ascii "ROLLING RES L " ++ numField 4 b.figures.rr.l ++ ascii " R " ++ numField 4 b.figures.rr.r ]
  | none =>
    [ ascii "SERVICE" ++ absentText required, ascii "REFERENCED" ++ absentText required
    , ascii "IMB" ++ absentText required, ascii "ROLLING RES" ++ absentText required ]

def parkingLine (o : Option BrakeResult) (required : Bool) : List Byte :=
  match o with
  | some b =>
    ascii "PARKING L " ++ numField 4 b.figures.fmax.l ++ ascii " R " ++ numField 4 b.figures.fmax.r ++ ascii " " ++ b.endReason.text
  | none => ascii "PARKING" ++ absentText required

def slipLine (o : Option Int) (required : Bool) : List Byte :=
  match o with
  | some i => ascii "SLIP " ++ slipField i ++ ascii " MM/M"
  | none => ascii "SLIP" ++ absentText required

/-- The seven lines of an axle. -/
def axleLines (n : Nat) (a : AxleRecord) (r : Required) : List (List Byte) :=
  loadLine n a.load r.load :: serviceLines a.service r.service ++ [parkingLine a.parking r.parking, slipLine a.slip r.slip]

/-- The lines of every axle, from axle 1. -/
def CertContent.axleLines (c : CertContent) : List (List Byte) :=
  (c.axles.mapIdx fun i a => Machine.axleLines (i + 1) a (c.required.getD i ⟨true, true, false, false⟩)).flatten

def remarkLines (r : Remarks) : List (List Byte) :=
  (if r.ovality then [ascii "REMARK OVALITY"] else []) ++ (if r.brakeDrag then [ascii "REMARK BRAKE DRAG"] else []) ++
  (if r.notReferenced then [ascii "REMARK NOT REFERENCED"] else [])

/-- The total lines with the remark lines. -/
def totalLines (c : CertContent) : List (List Byte) :=
  [ dashes 32
  , match c.denominator with
    | some d => ascii "D " ++ numField 6 d ++ ascii " DAN"
    | none => ascii "D NOT FORMED"
  , ascii "SERVICE RATIO " ++ optField 5 c.serviceRatio ratioField ++ ascii " %"
  , if c.parkingSet.isEmpty then ascii "PARKING NOT REQUIRED"
    else ascii "PARKING RATIO " ++ optField 5 c.parkingRatio ratioField ++ ascii " %"
  , ascii "VERDICT " ++ c.verdict.text ] ++ remarkLines c.remarks

/-- The footer lines. -/
def footerLines (c : CertContent) (notArchived : Bool) : List (List Byte) :=
  (match c.duplicate with
    | some n => [ascii "DUPLICATE " ++ numField 1 n]
    | none => []) ++
  (if notArchived then [ascii "NOT ARCHIVED"] else []) ++
  (if c.identity.isNone then [ascii "NOT VALID FOR INSPECTION"] else []) ++ [ascii "-- END --"]

/-- The lines before the footer. -/
def CertContent.bodyLines (c : CertContent) : List (List Byte) := headerLines c ++ c.axleLines ++ totalLines c

/-- Every line, padded to 32 columns. -/
def CertContent.lines (c : CertContent) (notArchived : Bool) : List (List Byte) :=
  (c.bodyLines ++ footerLines c notArchived).map (fitLine 32)

/-- A line as the print line sends it: 32 columns, code 13, code 10 (R182). -/
def printBytes (line : List Byte) : List Byte := fitLine 32 line ++ [13#8, 10#8]

/-- The lead line of a resending (R157). -/
def leadLine : List Byte := ascii "-- CONTINUED --"

/-! ### Pages (R155) -/

/-- The page with the footer's first line is page `k` or an earlier one; pages count from 0. -/
def CertContent.footerBy (c : CertContent) (k : Nat) : Bool := decide (c.bodyLines.length < Config.pageLines * (k + 1))

/-- Compose the next page, if there is one. The footer is fixed by the archive outcome when its page is composed (R155, R161). -/
def Cert.composeNext (u : Cert) : Cert :=
  match u.source with
  | none => u
  | some c =>
    let fail :=
      match u.footerFail with
      | some b => some b
      | none => if c.footerBy u.composed then some (u.archiveOutcome == .fail) else none
    let page := ((c.lines (fail.getD false)).drop (Config.pageLines * u.composed)).take Config.pageLines
    if page.isEmpty then u else { u with compose := page, composed := u.composed + 1, footerFail := fail }

/-- The head job with a new state. -/
def Cert.setHeadState (u : Cert) (st : JobState) : Cert :=
  match u.jobs with
  | j :: js => { u with jobs := { j with state := st } :: js }
  | [] => u

/-- The head job is in a state. -/
def Cert.headIs (u : Cert) (st : JobState) : Bool :=
  match u.jobs with
  | j :: _ => j.state == st
  | [] => false

/-- A line of a page that leaves OUTPUT, or is to be sent again, is no longer the line of that place. -/
def staleItem : Option (PrintItem × List Byte) → Option (PrintItem × List Byte)
  | some (_, bytes) => some (.stale, bytes)
  | none => none

/-! ### Handing lines (R156) -/

/-- The first unsent line, the lead line first. -/
def Cert.nextItem (u : Cert) : Option (PrintItem × List Byte) :=
  if u.lead = some false then some (.lead, printBytes leadLine)
  else match u.output.findIdx? (fun l => !l.sent) with
    | some i => some (.line i, printBytes (u.output.getD i ⟨[], true⟩).text)
    | none => none

/-- An item is the last line of the OUTPUT page. -/
def Cert.isLast (u : Cert) : PrintItem → Bool
  | .line i => u.output.length == i + 1
  | _ => false

/-- Hand the next line when the print line is idle, the job is PRINTING and PRINTER_READY is active; with the last line of the page the
next page is composed (R155, R156). The printer lowers PRINTER_READY as it takes the line (log entry 20). -/
def tryHand (s : State) : State :=
  let u := s.cert
  if u.sending.isSome || !u.headIs .printing || !s.pins.printerReady then s
  else match u.nextItem with
    | none => s
    | some it =>
      let u' := if u.isLast it.1 && u.compose.isEmpty then u.composeNext else u
      (s.setCert { u' with sending := some it }).setPins { s.pins with printerReady := false }

/-! ### Page beginnings, paper (R157, R158) -/

/-- The page being sent fails: the job waits for paper (R158). -/
def failPage (s : State) : State :=
  startCertTimer Config.paperWaitWindows (s.setCert ({ s.cert with current := .fail }.setHeadState .paperWait))

/-- A page begins sending (R157); while paper is OUT it fails at its start (R158). -/
def beginPage (page : List (List Byte)) (s : State) : State :=
  let u := s.cert
  let t := s.setCert { u with
    output := page.map fun l => ⟨l, false⟩
    lead := if u.current = .fail then some false else none
    previous := u.current
    current := .noOutcome
    sending := staleItem u.sending }
  if u.paperOut then failPage t else tryHand t

/-! ### The queue, the recheck, and changes of printer state (R148, R149) -/

/-- A CERTIFICATE job for a ticket stands in the queue. -/
def Cert.names (u : Cert) (ticket : Nat) : Bool := u.jobs.any fun j => j.subject == .ticket ticket

/-- Whether an automatic job is added for a ticket of the completed list (R149). -/
def State.wantsJob (s : State) (ticket : Nat) : Bool :=
  s.bus.canQueue && s.designated && !s.cert.names ticket && decide (s.cert.jobs.length < Config.jobQueueSize)

def addJob (subject : Subject) (requester : Nat) (s : State) : State :=
  s.setCert { s.cert with jobs := s.cert.jobs ++ [⟨subject, requester, .queued⟩] }

/-- The recheck of one ticket (R149). -/
def recheckTicket (ticket : Nat) (s : State) : State :=
  match s.lane.find ticket with
  | some e =>
    if e.state = .complete then (if s.wantsJob ticket then addJob (.ticket ticket) 0 s else s)
    else s.setCert { s.cert with completed := s.cert.completed.filter fun t => t ≠ ticket }
  | none => s.setCert { s.cert with completed := s.cert.completed.filter fun t => t ≠ ticket }

/-- The recheck of the completed list, oldest first (R149). -/
def recheck (s : State) : State :=
  if s.printerActive then s.cert.completed.foldl (fun s t => recheckTicket t s) s else s

/-- A change of the unit: a change of printer state asks for a PRESENCE and a recheck (R148, R149). -/
def certChange (f : State → State) (s : State) : State :=
  let t := f s
  if t.printerState = s.printerState then t else recheck (requestPresence t)

/-- Answer a requester, if there is one (R150 to R162). -/
def answer (requester : Nat) (subject : Subject) (o : AnswerOutcome) (s : State) : State :=
  if requester = 0 then s else queueFrame (.printAnswer requester subject o) s

/-- Take the head job out of the queue, with the recheck at the end of each job (R149). -/
def dropHead (s : State) : State :=
  recheck (certChange (fun s => s.setCert { s.cert with jobs := s.cert.jobs.tail }) s)

/-- The unit's working items emptied at the end of a job. -/
def Cert.emptied (u : Cert) : Cert :=
  { u with source := none, compose := [], output := [], lead := none, composed := 0, footerFail := none, sending := staleItem u.sending }

/-! ### The ends of jobs (R158 to R160) -/

/-- A CERTIFICATE job ends (R159). -/
def endCertificate (ticket : Nat) (requester : Nat) (c : CertContent) (s : State) : State :=
  let s := queueFrame (.certDone ticket c.number c.verdict) s
  let s := s.setLane (s.lane.closeLocal ticket c.number c.verdict)
  let s := s.setCert { s.cert with completed := s.cert.completed.filter fun t => t ≠ ticket }
  let s := answer requester (.ticket ticket) .printed s
  let s := s.setCert { s.cert.emptied with archiveOutcome := .noOutcome }
  dropHead (lower .printing s)

/-- A REPRINT job ends at the report of its mark, whatever the outcome (R160). -/
def endReprint (n : CertNo) (requester : Nat) (s : State) : State :=
  let s := answer requester (.certificate n) .printed s
  dropHead (lower .printing (s.setCert s.cert.emptied))

/-- The head job ends FAILED (R158). Nothing is said of the prompt PRINTING there, and it is not lowered (log entry 21). -/
def failJob (s : State) : State :=
  match s.cert.jobs with
  | j :: _ => dropHead (answer j.requester j.subject .failedPaper (s.setCert s.cert.emptied))
  | [] => s

/-! ### The archive's reports (R160, R161) -/

/-- The head job is a REPRINT whose final page has passed and that waits for its mark (R160). -/
def Cert.awaitsMark (u : Cert) : Bool :=
  match u.jobs with
  | ⟨.certificate _, _, .printing⟩ :: _ => u.source.isSome && u.output.isEmpty
  | _ => false

/-- The record write belongs to the head CERTIFICATE job (R161). -/
def Cert.ownsRecord (u : Cert) (n : CertNo) : Bool :=
  match u.jobs, u.source with
  | ⟨.ticket _, _, _⟩ :: _, some c => c.number == n
  | _, _ => false

/-- One report of the archive. -/
def takeReport (s : State) : ArchiveReport → State
  | .recordDone n pass =>
    if s.cert.ownsRecord n then s.setCert { s.cert with archiveOutcome := if pass then .pass else .fail } else s
  | .markDone _ | .markSkipped =>
    match s.cert.jobs with
    | ⟨.certificate n, requester, _⟩ :: _ => if s.cert.awaitsMark then endReprint n requester s else s
    | _ => s

/-- The archive after an operation, with its reports taken in order. -/
def archiveStep (r : Archive × List ArchiveReport) (s : State) : State := r.2.foldl takeReport (s.setArchive r.1)

/-! ### Page ends (R155, R157) -/

/-- The final page has passed: the CERTIFICATE job ends, the REPRINT job asks for its mark (R159, R160). -/
def finalPassed (s : State) : State :=
  match s.cert.jobs, s.cert.source with
  | ⟨.ticket t, requester, _⟩ :: _, some c => endCertificate t requester c s
  | ⟨.certificate n, requester, _⟩ :: _, _ => archiveStep (s.archive.submit (.mark n requester)) s
  | _, _ => s

/-- The OUTPUT page has been sent and has passed (R155, R157). -/
def pagePassed (s : State) : State :=
  let s := s.setCert { s.cert with current := .pass, output := [], lead := none }
  if s.cert.compose.isEmpty then finalPassed s
  else
    let page := s.cert.compose
    certChange (beginPage page) (s.setCert { s.cert with compose := [] })

/-- A line marked sent. -/
def Cert.markSent (u : Cert) : PrintItem → Cert
  | .lead => { u with lead := some true }
  | .line i => { u with output := u.output.modify i fun l => { l with sent := true } }
  | .stale => u

/-- A line's sending completes (R156). -/
def lineSent (s : State) : State :=
  match s.cert.sending with
  | none => s
  | some (it, _) =>
    let t := s.setCert { s.cert.markSent it with sending := none }
    if s.cert.isLast it && s.cert.current ≠ .fail then pagePassed t else tryHand t

/-! ### Job starts (R152, R153) -/

/-- Page 1: outcomes cleared, composed, moved into OUTPUT, and its sending begun (R152). -/
def startPrinting (subject : Subject) (s : State) : State :=
  let s := s.setCert { s.cert with previous := .noOutcome, current := .noOutcome }
  let s := certChange (fun s => s.setCert (s.cert.setHeadState .composing)) s
  let s := raise .printing { subject := some subject } s
  let s := s.setCert ({ s.cert with composed := 0, footerFail := none } : Cert).composeNext
  let page := s.cert.compose
  certChange (fun s => beginPage page (s.setCert (({ s.cert with compose := [] } : Cert).setHeadState .printing))) s

/-- The flags of R153: which parts of an axle's record are required. -/
def requiredParts (e : Entry) (slipRequired : Bool) : List Required :=
  (List.range e.axleCount).map fun i => ⟨true, true, e.parkingSet.contains (i + 1), slipRequired⟩

/-- The certificate content of an entry (R153 step 4). -/
def State.content (s : State) (e : Entry) : CertContent where
  number := ⟨s.startUp.ownNumber, s.archive.nextSeq⟩
  ticket := e.ticket
  plate := e.plate
  cls := e.cls
  brake := e.brake
  axleCount := e.axleCount
  time := e.time
  parkingSet := e.parkingSet
  steeredSet := e.steeredSet
  axles := e.axles
  denominator := e.denominator
  serviceRatio := e.serviceRatio
  parkingRatio := e.parkingRatio
  verdict := e.formVerdict s.slipRequired
  remarks := e.formRemarks
  required := requiredParts e s.slipRequired
  identity := s.identity
  duplicate := none

/-- A job ends at once with an answer. -/
def refuseHead (requester : Nat) (subject : Subject) (o : AnswerOutcome) (s : State) : State :=
  dropHead (answer requester subject o s)

/-- The head CERTIFICATE job starts (R153). -/
def startCertificate (ticket requester : Nat) (s : State) : State :=
  match s.lane.find ticket with
  | none => refuseHead requester (.ticket ticket) .refusedUnknown s
  | some e =>
    if e.state = .abandoned then refuseHead requester (.ticket ticket) .refusedUnknown s
    else
      let c := s.content e
      let s := s.setArchive s.archive.takeSequence
      let s := s.setCert { s.cert with source := some c, archiveOutcome := .awaiting }
      let s := archiveStep (s.archive.submit (.record c)) s
      startPrinting (.ticket ticket) s

/-- What the first three cases of R151 answer, or the record found. -/
def Archive.judge (a : Archive) (n : CertNo) : AnswerOutcome ⊕ (Nat × CertContent) :=
  match a.ask n with
  | .notFound => .inl .refusedUnknown
  | .damaged => .inl .refusedDamaged
  | .found marks c => if 3 ≤ marks then .inl .refusedLimit else .inr (marks, c)

/-- The head REPRINT job starts (R152). -/
def startReprint (n : CertNo) (requester : Nat) (s : State) : State :=
  match s.archive.judge n with
  | .inl o => refuseHead requester (.certificate n) o s
  | .inr (marks, c) =>
    let s := s.setCert { s.cert with source := some { c with duplicate := some (marks + 1) }, archiveOutcome := .noOutcome }
    startPrinting (.certificate n) s

/-- The head job is a QUEUED CERTIFICATE job, due to start (R152). -/
def State.certificateDue (s : State) : Bool :=
  s.printerActive &&
  match s.cert.jobs with
  | ⟨.ticket _, _, .queued⟩ :: _ => true
  | _ => false

/-- The head job is a QUEUED REPRINT job and the archive has nothing in flight: it is due to start (R152). -/
def State.reprintDue (s : State) : Bool :=
  s.printerActive && s.archive.isIdle &&
  match s.cert.jobs with
  | ⟨.certificate _, _, .queued⟩ :: _ => true
  | _ => false

/-- The start of the head job. -/
def startHead (s : State) : State :=
  match s.cert.jobs with
  | ⟨.ticket t, requester, _⟩ :: _ => startCertificate t requester s
  | ⟨.certificate n, requester, _⟩ :: _ => startReprint n requester s
  | [] => s

/-! ### Paper (R147, R148, R158) -/

/-- The head job is PRINTING with its final page not yet passed. -/
def Cert.sendsPage (u : Cert) : Bool := u.headIs .printing && !u.output.isEmpty

/-- Paper becomes OUT: the prompt, then the page in hand fails (R148, R158; log entry 58 for this order). -/
def paperGone (s : State) : State :=
  certChange (fun s =>
    let s := raise .paperOut {} (s.setCert { s.cert with paperOut := true })
    if s.cert.sendsPage then failPage s else s) s

/-- Paper becomes PRESENT (R148, R158). -/
def paperBack (s : State) : State :=
  certChange (fun s =>
    let s := lower .paperOut (s.setCert { s.cert with paperOut := false })
    if s.cert.headIs .paperWait then
      let page := s.cert.output.map (·.text)
      beginPage page (cancelCertTimer (s.setCert (s.cert.setHeadState .printing)))
    else s) s

/-! ### Reports of the lane view, LANE_CLEAR (R149, R162) -/

/-- A ticket complete report (R149). -/
def certTicketComplete (ticket : Nat) (s : State) : State :=
  if s.printerActive then
    let list := if s.cert.completed.contains ticket then s.cert.completed else s.cert.completed ++ [ticket]
    recheck (s.setCert { s.cert with completed := list })
  else s

/-- Remove the QUEUED jobs that a test names, each answered REFUSED_UNKNOWN, in queue order (R162; log entry 51). -/
def removeQueued (p : Job → Bool) (s : State) : State :=
  let gone := s.cert.jobs.filter fun j => j.state == .queued && p j
  let t := s.setCert { s.cert with jobs := s.cert.jobs.filter fun j => !(j.state == .queued && p j) }
  gone.foldl (fun s j => answer j.requester j.subject .refusedUnknown s) t

/-- A ticket cancelled or ticket dropped report (R162). -/
def certTicketGone (ticket : Nat) (s : State) : State :=
  if s.printerActive then
    let t := removeQueued (fun j => j.subject == .ticket ticket) s
    t.setCert { t.cert with completed := t.cert.completed.filter fun n => n ≠ ticket }
  else s

/-- A heard LANE_CLEAR at the certificate unit (R162). -/
def certLaneClear (s : State) : State :=
  if s.printerActive then
    let t := removeQueued (fun _ => true) s
    t.setCert { t.cert with completed := [] }
  else s

/-! ### Requests (R150, R151) -/

/-- Whether requests are taken: bus mode READY or DEGRADED (R150, R151). -/
def State.takesRequests (s : State) : Bool := s.started && s.bus.canQueue

/-- The requester of the CERTIFICATE job for a ticket replaced (R150). -/
def Cert.setRequester (u : Cert) (ticket requester : Nat) : Cert :=
  { u with jobs := u.jobs.map fun j => if j.subject = .ticket ticket then { j with requester := requester } else j }

/-- A CERT_REQUEST for this station (R150). -/
def certRequest (requester ticket : Nat) (s : State) : State :=
  if !s.takesRequests then s
  else
    let sub := Subject.ticket ticket
    if !s.startUp.printer then answer requester sub .refusedNoPrinter s
    else if (s.lane.find ticket).all (fun e => e.state == .abandoned) then answer requester sub .refusedUnknown s
    else if s.cert.names ticket then s.setCert (s.cert.setRequester ticket requester)
    else if Config.jobQueueSize ≤ s.cert.jobs.length then answer requester sub .refusedQueueFull s
    else addJob sub requester s

/-- A REPRINT_REQUEST for this station, by the first case of R151 that applies. Without a printer it is refused in every case; where R173
reads otherwise on the reason, R151's order stands (log entry 43). -/
def reprintRequest (requester : Nat) (n : CertNo) (s : State) : State :=
  if !s.takesRequests then s
  else
    let sub := Subject.certificate n
    match s.archive.judge n with
    | .inl o => answer requester sub o s
    | .inr _ =>
      if !s.startUp.printer then answer requester sub .refusedNoPrinter s
      else if Config.jobQueueSize ≤ s.cert.jobs.length then answer requester sub .refusedQueueFull s
      else addJob sub requester s

end Sys2Proof.Machine
end

