-- ==== Sys2Proof/Machine/Vehicles.lean ====
section
/-! DEFINITION. The lane view at the state: what the vehicle table takes in and what it reports to the certificate unit and the
guidance unit (R5 to R21). -/

namespace Sys2Proof.Machine

/-! ### Reports (R21) -/

/-- A ticket dropped report: certificate unit, guidance unit, in the order in which R21 lists them (log entry 52). -/
def ticketDropped (ticket : Nat) (s : State) : State := guidanceTicketGone ticket (certTicketGone ticket s)

/-- An entry rewritten, with the ticket complete report when the test of R16 has made it COMPLETE. -/
def storeTested (ticket : Nat) (e : Entry) (s : State) : State :=
  let t := s.setLane (s.lane.update ticket fun _ => e.tested s.slipRequired)
  if e.becomesComplete s.slipRequired then certTicketComplete ticket t else t

/-! ### Results (R13 to R15) -/

/-- A result, heard or local: checked, ranged, written, computed and tested (R13, R14, R15). -/
def takeResult (ticket axle : Nat) (r : AxleResult) (s : State) : State :=
  match s.lane.live ticket axle with
  | some e => storeTested ticket ((e.write axle r).recomputed s.slipRequired r) s
  | none => s

/-! ### Completeness after a peer absent (R17) -/

/-- The completeness test of one entry. -/
def retestEntry (ticket : Nat) (s : State) : State :=
  match s.lane.find ticket with
  | some e => storeTested ticket e s
  | none => s

/-- Every open entry tested, oldest first (R17). -/
def retestAll (s : State) : State :=
  ((byStamp (s.lane.entries.filter Entry.isOpen)).map (·.ticket)).foldl (fun s t => retestEntry t s) s

/-! ### Registration (R5 to R7) -/

/-- A checked registration with no entry of its ticket (R7). The report on the entry whose place is taken goes out once the new entry stands
(log entry 32) and before LANE_FULL is lowered (log entry 50). -/
def makeEntry (r : Registration) (s : State) : State :=
  match s.lane.place with
  | .free => lowerIfRaised .laneFull (s.setLane (s.lane.add r))
  | .discard old => lowerIfRaised .laneFull (ticketDropped old (s.setLane ((s.lane.without old).add r)))
  | .full => raise .laneFull { ticket := some r.ticket } s

/-- A VEHICLE_ENTRY (R5, R6, R7). -/
def registerVehicle (f : EntryFields) (s : State) : State :=
  match f.check with
  | none => raiseWith .entryRejected { ticket := some f.ticket } Config.rejectedLife false s
  | some r =>
    match s.lane.find r.ticket with
    | some e => if e.state = .registered then storeTested r.ticket ((r.rewrite e).computed s.slipRequired) s else s
    | none => makeEntry r s

/-! ### Axle events, cancel, LANE_CLEAR -/

/-- An axle event of this station: queued, and reported locally in the same step (R11). -/
def localAxleEvent (a : FixedAxle) (ev : AxleEventKind) (role : MeasuringRole) (s : State) : State :=
  let t := queueFrame (.axleEvent a.ticket a.axle ev role) s
  t.setLane (t.lane.axleEvent a.ticket a.axle ev role)

/-- A VEHICLE_CANCEL acts on an open or COMPLETE entry (R8). -/
def LaneView.cancels (v : LaneView) (ticket : Nat) : Bool :=
  match v.find ticket with
  | some e => e.takesResults
  | none => false

def LaneView.cancel (v : LaneView) (ticket : Nat) : LaneView := v.update ticket fun e => { e with state := .abandoned }

/-- LANE_CLEAR at the lane view: every ticket dropped, oldest first (R20); the table is empty before the first report goes out (log
entry 46). -/
def clearLane (s : State) : State :=
  ((byStamp s.lane.entries).map (·.ticket)).foldl (fun s t => ticketDropped t s) (s.setLane LaneView.reset)

end Sys2Proof.Machine
end

