-- ==== Sys2Proof/Machine/Plate.lean ====
section
/-! DEFINITION. The plate sequence: crossings from entry to exit, wheels that go back, faults, the lane stop, cancels and LANE_CLEAR
(R119 to R129). -/

namespace Sys2Proof.Machine

/-- A change of the crossing record; a change of activity asks for a PRESENCE, where it comes among the frames of the same step (R33, R120;
log entry 58). -/
def changePlate (f : Plate → Plate) (s : State) : State := presenceIfChanged s (s.setPlate (f s.plate))

/-- The gate closed and S0 written OFF. -/
def closePlateStream (s : State) : State := writeStream .s0 offConfig (setGate false s)

/-- The measurement of a crossing given up: gate closed, S0 OFF, discard crossing. -/
def dropMeasurement (s : State) : State := evalDiscardCrossing (closePlateStream s)

/-- S0 during a crossing (R74, R121). -/
def crossingConfig : StreamConfig := ⟨[0], .gate, .page, 0, false⟩

/-- The fixed axle of the crossing. -/
def Plate.axle (p : Plate) : FixedAxle := p.fixed.getD ⟨0, 1⟩

/-- The streams of a crossing that is measured (R121 step 3). -/
def openMeasurement (s : State) : State :=
  setGate true (evalBeginCrossing (writeStream .s0 crossingConfig s))

/-- A plate entry event in CLEAR (R121). -/
def beginCrossing (s : State) : State :=
  let a := s.lane.expected .plate
  let s := s.setPlate { s.plate with fixed := some a }
  let s := localAxleEvent a .arrived .plate s
  let measured := s.measures && !s.plate.faultHold
  let s := if measured then openMeasurement s else s
  let s := startSeqTimer Config.crossingWindows s
  let s := changePlate (fun p =>
    { p with measure := if measured then .measuring else .unmeasured, reportExit := true, crossing := .onPlate }) s
  if a.ticket = 0 then raise .vehicleNotRegistered { axle := some a.axle } s else s

/-- A return to CLEAR: the fixed axle, the measure and report exit cleared, the timer cancelled, VEHICLE_NOT_REGISTERED lowered. -/
def plateToClear (s : State) : State :=
  let s := cancelSeqTimer s
  let s := changePlate (fun p => { p with fixed := none, measure := .unmeasured, reportExit := false, crossing := .clear }) s
  lower .vehicleNotRegistered s

/-- The end of a crossing (R123). -/
def endCrossing (slip : Option Int) (s : State) : State :=
  let a := s.plate.axle
  let s :=
    match slip with
    | some i => queueFrame (.slipResult a.ticket a.axle i) (takeResult a.ticket a.axle (.slip i) s)
    | none => s
  let s := if s.plate.reportExit then localAxleEvent a .left .plate s else s
  let s := plateToClear s
  if s.plate.pendingEntry then beginCrossing (s.setPlate { s.plate with pendingEntry := false }) else s

/-- The evaluation unit's report of a crossing (R123). -/
def plateReport (r : EvalReport) (s : State) : State :=
  if s.plate.crossing = .onPlate && s.plate.measure = .draining then
    match r with
    | .slipFormed i => endCrossing (some i) s
    | .noRows => endCrossing none s
    | _ => s
  else s

/-- The exit of a measured crossing (R122): gate closed, S0 OFF, timer cancelled, end crossing, with what drains at once. -/
def drainCrossing (s : State) : State :=
  let s := cancelSeqTimer (closePlateStream s)
  let s := s.setPlate { s.plate with measure := .draining }
  let d := evalEndCrossing s
  match d.2 with
  | some r => plateReport r d.1
  | none => d.1

/-- The plate exit switch becomes active (R122, R124, R125). -/
def plateExit (s : State) : State :=
  match s.plate.crossing, s.plate.measure with
  | .clear, _ => changePlate (fun p => { p with crossing := .reversing }) s
  | .reversing, _ => plateToClear s
  | .onPlate, .measuring => drainCrossing s
  | .onPlate, .unmeasured => endCrossing none (cancelSeqTimer s)
  | .onPlate, .draining => s

/-- The plate entry switch becomes active (R121, R124, R125). -/
def plateEntry (s : State) : State :=
  match s.plate.crossing, s.plate.measure with
  | .clear, _ => beginCrossing s
  | .reversing, _ => plateToClear s
  | .onPlate, .measuring => plateToClear (dropMeasurement s)
  | .onPlate, .unmeasured => plateToClear s
  | .onPlate, .draining => s.setPlate { s.plate with pendingEntry := true }

/-- The expiry of the sequence phase timer (R126). -/
def crossingExpired (s : State) : State :=
  match s.plate.crossing, s.plate.measure with
  | .onPlate, .measuring => plateToClear (dropMeasurement s)
  | .onPlate, .unmeasured => plateToClear s
  | _, _ => s

/-- A measured crossing goes on unmeasured (R127, R128). -/
def unmeasure (s : State) : State := changePlate (fun p => { p with measure := .unmeasured }) (dropMeasurement s)

/-- Input faulted, or still faulted, for AN0 (R127). -/
def plateFault (s : State) : State :=
  if s.plate.faultHold then s
  else
    let s := changePlate (fun p => { p with faultHold := true }) s
    match s.plate.crossing, s.plate.measure with
    | .onPlate, .measuring => unmeasure s
    | .onPlate, .draining => endCrossing none (evalDiscardCrossing s)
    | _, _ => s

/-- The ABORT key (R127). -/
def plateAbort (s : State) : State :=
  if s.plate.faultHold then changePlate (fun p => { p with faultHold := false }) s else s

/-- A crossing in ON_PLATE with measure MEASURING. -/
def Plate.isMeasuring (p : Plate) : Bool := p.crossing == .onPlate && p.measure == .measuring

/-- The latch reports stopped set (R128). -/
def plateStopped (s : State) : State := if s.plate.isMeasuring then unmeasure s else s

/-- A ticket cancelled report (R128). -/
def plateCancelled (ticket : Nat) (s : State) : State :=
  if s.plate.isMeasuring && s.plate.axle.ticket = ticket then unmeasure s else s

/-- A heard LANE_CLEAR (R129). -/
def plateLaneClear (s : State) : State :=
  match s.plate.crossing, s.plate.measure with
  | .onPlate, .measuring =>
    changePlate (fun p => { p with measure := .unmeasured, reportExit := false }) (dropMeasurement s)
  | .onPlate, .draining =>
    plateToClear ((evalDiscardCrossing s).setPlate { s.plate with pendingEntry := false })
  | .onPlate, .unmeasured => s.setPlate { s.plate with reportExit := false }
  | _, _ => s

end Sys2Proof.Machine
end

