-- ==== Sys2Proof/Machine/Roller.lean ====
section
/-! DEFINITION. The roller sequence: entries to its phases, the motors, the keys, faults, wheels leaving, role clash, the lane stop,
cancels and LANE_CLEAR, and the evaluation unit's reports (R96 to R118, R73). -/

namespace Sys2Proof.Machine

/-- A change of the sequence's items; a change of activity asks for a PRESENCE, where it comes among the frames of the same step (R33, R100;
log entry 58). -/
def changeRoller (f : Roller → Roller) (s : State) : State := presenceIfChanged s (s.setRoller (f s.roller))

/-- The fixed axle. -/
def Roller.axle (r : Roller) : FixedAxle := r.fixed.getD ⟨0, 1⟩

/-! ### Streams and PT0 by phase (R73) -/

/-- S1 as the live load cell (R73); R73 gives a LATEST write no page length, and the model's is 0, stored as 1024 (log entry 35). -/
def loadCell : StreamConfig := ⟨[2, 3], .pt1, .latest, 0, false⟩

/-- S0 and S1 by phase; `pressure`: TEST carries AN4. -/
def phaseStreams (p : Phase) (pressure : Bool) : StreamConfig × StreamConfig :=
  match p with
  | .weigh => (⟨[0, 1], .pt1, .page, 64, false⟩, ⟨[2, 3], .pt1, .page, 64, false⟩)
  | .zero => (⟨[0, 1], .pt0, .page, 64, true⟩, loadCell)
  | .test => (⟨if pressure then [0, 1, 4] else [0, 1], .pt0, .page, 40, false⟩, loadCell)
  | _ => (offConfig, loadCell)

/-- PT0 runs in the phases that record with it. -/
def pt0Phase (p : Phase) : Bool := p == .zero || p == .test

/-- PT0 as the phase has it: started with its reload at the entry to ZERO, running on in TEST, stopped in the others. -/
def pacePhase (p : Phase) (s : State) : State :=
  match p with
  | .zero => s.setTimers { s.timers with pt0 := s.timers.pt0.startWith Config.pt0Reload }
  | .test => s
  | _ => s.setTimers { s.timers with pt0 := s.timers.pt0.stop }

/-- The streams written at the entry to a phase (R73), S1 before S0, so that no request of S1 is withdrawn once the exclusive hold of ZERO has
begun (log entry 55); nothing is written while measuring is disabled. -/
def writePhaseStreams (p : Phase) (pressure : Bool) (s : State) : State :=
  if s.measures then
    let k := phaseStreams p pressure
    pacePhase p (writeStream .s0 k.1 (writeStream .s1 k.2 s))
  else s

/-! ### Motors (R97) -/

/-- A motor stop, when the outputs are ON (R97). -/
def motorStop (s : State) : State :=
  if s.roller.motors then
    let a := s.roller.axle
    queueFrame (.rollersStopped a.ticket a.axle)
      (s.setRoller { s.roller with motors := false, fbL := false, fbR := false, weldedCount := 0 })
  else s

/-! ### IDLE and its holds (R101, R102, R114) -/

/-- The prompts that the entry to IDLE lowers (R101). -/
def idleLowers : List Prompt :=
  [.vehicleNotRegistered, .applyBrake, .applyParking, .motorsStarting, .panelNotResponding, .releaseBrake, .axleResult, .driveOff]

/-- The items of the sequence at the entry to IDLE; under a fault the fixed axle and weighed stay (R102, R114). -/
def Roller.idled (r : Roller) (keepAxle : Bool) : Roller :=
  { r with
    phase := .idle
    fixed := if keepAxle then r.fixed else none
    weighed := keepAxle && r.weighed
    endReason := none
    held := none
    resultWritten := false
    awaited := []
    warnWait := none
    wheelCount := 0
    releaseOwed := keepAxle && r.releaseOwed }

/-- DRIVE_ON as the holds of IDLE have it: raised when none applies, lowered otherwise (R101, R102). -/
def showDriveOn (s : State) : State := if s.idleHeld then lower .driveOn s else raise .driveOn {} s

/-- Entry to IDLE; `keepAxle` under a fault (R102, R114). -/
def enterIdle (keepAxle : Bool) (s : State) : State :=
  let s := cancelSeqTimer (writePhaseStreams .idle false s)
  let s := changeRoller (·.idled keepAxle) s
  let s := if keepAxle then s else evalDiscardAxle s
  let s := lowerAll idleLowers s
  let s := if s.measures then s else raise .calibrationMissing {} s
  showDriveOn s

/-- A hold of IDLE has begun or the last one has ended: the wheel count is set to 0 and DRIVE_ON follows (R101, R102). -/
def holdChanged (wasHeld : Bool) (s : State) : State :=
  if s.roller.phase = .idle && s.idleHeld ≠ wasHeld then
    showDriveOn (s.setRoller { s.roller with wheelCount := 0 })
  else s

/-! ### Faults (R114) -/

/-- MOTOR_FAULT with its cause, except for SENSOR (R114). -/
def raiseMotorFault (cause : FaultCause) (s : State) : State :=
  if cause = .sensor then s else raise .motorFault { cause := some cause } s

/-- A fault (R114), in the order of its steps: discard test comes before IDLE's streams are written (log entry 39). -/
def rollerFault (cause : FaultCause) (s : State) : State :=
  if s.roller.faultHold.isSome then
    if cause = .welded then raiseMotorFault .welded (s.setRoller { s.roller with faultHold := some .welded }) else s
  else
    let s := evalDiscardTest (motorStop s)
    let s := changeRoller (fun r => { r with faultHold := some cause }) s
    enterIdle true (raiseMotorFault cause s)

/-! ### The further phases -/

/-- The prompt of the pending test kind (R101). -/
def applyPrompt : TestKind → Prompt
  | .service => .applyBrake
  | .parking => .applyParking

/-- Raise APPLY_BRAKE or APPLY_PARKING with a stage (R101). -/
def raiseApply (stageApply : Bool) (s : State) : State :=
  let a := s.roller.axle
  raise (applyPrompt s.roller.kind) { ticket := some a.ticket, axle := some a.axle, apply := stageApply } s

/-- Entry to WEIGH (R103). ARRIVED is queued before the PRESENCE of the new activity, as the worked sequence of section 6.11 lists them (log
entry 58). -/
def enterWeigh (s : State) : State :=
  let a := s.lane.expected .roller
  let s := s.setRoller { s.roller with fixed := some a, kind := .service }
  let s := localAxleEvent a .arrived .roller s
  let s := changeRoller (fun r => { r with phase := .weigh }) s
  let s := evalBeginWeigh (writePhaseStreams .weigh false s)
  let s := lower .driveOn s
  if a.ticket = 0 then raise .vehicleNotRegistered { axle := some a.axle } s else s

/-- Entry to POSITIONED (R104). -/
def enterPositioned (s : State) : State :=
  let s := cancelSeqTimer (writePhaseStreams .positioned false s)
  let s := changeRoller (fun r => { r with phase := .positioned, awaited := [], warnWait := none }) s
  raiseApply false (lowerAll [.motorsStarting, .releaseBrake, .axleResult] s)

/-- The wait of WARN that an awaited set calls for, with its limit (R105). -/
def warnWaitOf (awaited : List Nat) : WarnWait × Nat :=
  if awaited.isEmpty then (.hornAlone, Config.hornAloneWindows) else (.confirming, Config.confirmWindows)

/-- Entry to WARN (R105). A record, end reason and result written of an earlier test are cleared there (log entry 12). -/
def enterWarn (s : State) : State :=
  let a := s.roller.axle
  let s := cancelSeqTimer (writePhaseStreams .warn false s)
  let s := queueFrame (.motorWarning a.ticket a.axle s.roller.kind) s
  let s := lowerAll [.applyBrake, .applyParking, .axleResult] s
  let s := raise .motorsStarting { ticket := some a.ticket, axle := some a.axle, kind := some s.roller.kind } s
  let awaited := s.panelPeers
  let w := warnWaitOf awaited
  let s := changeRoller (fun r =>
    { r with phase := .warn, awaited := awaited, warnWait := some w.1, endReason := none, held := none, resultWritten := false }) s
  startSeqTimer w.2 s

/-- Entry to SPIN_UP (R98, R107). -/
def enterSpinUp (s : State) : State :=
  let s := writePhaseStreams .spinUp false s
  let s := changeRoller (fun r =>
    { r with phase := .spinUp, motors := true, feedbackCount := 0, awaited := [], warnWait := none
             fbL := s.filter.accepted.fbL, fbR := s.filter.accepted.fbR }) s
  startSeqTimer Config.spinUpWindows s

/-- Entry to ZERO (R108). -/
def enterZero (s : State) : State :=
  let s := writePhaseStreams .zero false (cancelSeqTimer s)
  let s := changeRoller (fun r => { r with phase := .zero }) s
  evalBeginZero (lower .motorsStarting s)

/-- How the test of the fixed axle runs: with the pressure column and the reference pressure of an AIR entry (R109). -/
def State.testSetup (s : State) : TestSetup :=
  match s.lane.find s.roller.axle.ticket with
  | some e => if e.brake = .air then ⟨s.roller.kind, true, e.pref⟩ else ⟨s.roller.kind, false, none⟩
  | none => ⟨s.roller.kind, false, none⟩

/-- Entry to TEST (R109). -/
def enterTest (s : State) : State :=
  let t := s.testSetup
  let s := evalBeginTest t (writePhaseStreams .test t.pressure s)
  let s := changeRoller (fun r => { r with phase := .test }) s
  raiseApply true (startSeqTimer Config.testWindows s)

/-- The held record as a result of the lane view (R111). -/
def resultOf (rec : FormedRecord) (reason : EndReason) : AxleResult := .brake rec.kind ⟨rec.figures, reason⟩ rec.load

/-- The result is written (R111). -/
def writeResult (s : State) : State :=
  match s.roller.held with
  | none => s
  | some rec =>
    let a := s.roller.axle
    let reason := s.roller.endReason.getD .time
    let s := takeResult a.ticket a.axle (resultOf rec reason) s
    let s := queueFrame (.brakeResult a.ticket a.axle rec.kind reason rec.load rec.figures) s
    let s := lower .releaseBrake (s.setRoller { s.roller with resultWritten := true })
    raise .axleResult
      { ticket := some a.ticket, axle := some a.axle, kind := some rec.kind, fmax := some rec.figures.fmax, fref := rec.figures.fref
        imbalance := rec.figures.imbalance, endReason := some reason } s

/-- The evaluation unit's report on the record, in STOPPING or RESULT (R110). -/
def recordReport (r : EvalReport) (s : State) : State :=
  match r with
  | .recordFormed rec =>
    let t := s.setRoller { s.roller with held := some rec }
    if s.roller.phase = .result then writeResult t else t
  | .noRows => rollerFault .noRows s
  | _ => s

/-- Entry to STOPPING (R110). The prompts change before request record is given, so that a report which comes at once finds the rest of
the entry done (log entry 56). -/
def enterStopping (reason : EndReason) (s : State) : State :=
  let s := motorStop (s.setRoller { s.roller with endReason := some reason })
  let s := cancelSeqTimer (writePhaseStreams .stopping false s)
  let s := evalEndTest (changeRoller (fun r => { r with phase := .stopping, rollDown := 0 }) s)
  let a := s.roller.axle
  let s := raise .releaseBrake { ticket := some a.ticket, axle := some a.axle } (lowerAll [.applyBrake, .applyParking] s)
  let d := evalRequestRecord s
  match d.2 with
  | some r => recordReport r d.1
  | none => d.1

/-- Entry to RESULT (R110, R111). -/
def enterResult (s : State) : State :=
  writeResult (changeRoller (fun r => { r with phase := .result, wheelCount := 0 }) (writePhaseStreams .result false s))

/-- Entry to EXIT (R112). -/
def enterExit (s : State) : State :=
  let a := s.roller.axle
  let s := cancelSeqTimer (writePhaseStreams .exit false s)
  let s := changeRoller (fun r => { r with phase := .exit, wheelCount := 0, awaited := [], warnWait := none }) s
  let s := lowerAll [.applyBrake, .applyParking, .motorsStarting, .axleResult] s
  raise .driveOff { ticket := some a.ticket, axle := some a.axle } s

/-- The axle leaves: LEFT queued and reported, then IDLE (R112). -/
def axleLeft (s : State) : State := enterIdle false (localAxleEvent s.roller.axle .left .roller s)

/-! ### Reports of the evaluation unit (R103, R108, R110) -/

def rollerReport (r : EvalReport) (s : State) : State :=
  match s.roller.phase, r with
  | .weigh, .weighFormed w =>
    let a := s.roller.axle
    let s := queueFrame (.axleLoad a.ticket a.axle w) (takeResult a.ticket a.axle (.load w) s)
    enterPositioned (s.setRoller { s.roller with weighed := true })
  | .zero, .zeroFormed => enterTest s
  | .stopping, r => recordReport r s
  | .result, r => recordReport r s
  | _, _ => s

/-! ### Window samples (R107, R110) -/

/-- A window sample in SPIN_UP succeeds (R107). An expiry taken before it leaves it nothing to end. -/
def State.spinUpSucceeds (s : State) (w : WindowSample) : Bool :=
  match s.eval.calib with
  | some k =>
    s.roller.fbL && s.roller.fbR && decide (k.threshold ≤ w.ndL) && decide (k.threshold ≤ w.ndR) && !s.timers.seqTimer.expired
  | none => false

/-- A window sample at the roller sequence. -/
def rollerWindow (w : WindowSample) (s : State) : State :=
  match s.roller.phase with
  | .spinUp => if s.spinUpSucceeds w then enterZero s else s
  | .stopping =>
    let n := if w.ndL = 0 && w.ndR = 0 then min 2 (s.roller.rollDown + 1) else 0
    s.setRoller { s.roller with rollDown := n }
  | _ => s

/-! ### The window counts of an 8 Hz tick (R98, R99, R102, R111, R112) -/

/-- A window count up to a limit, set to 0 where its condition fails. -/
def countWhile (cond : Bool) (limit n : Nat) : Nat := if cond then min limit (n + 1) else 0

/-- The wheel count: both switches active in an unheld IDLE (R102), both inactive in EXIT and in RESULT with the result written (R111, R112).
The presence of a vehicle is judged by the switches alone; the S1 cell of R65 is not read for it (log entry 38). -/
def State.nextWheelCount (s : State) : Nat :=
  let x := s.filter.accepted
  match s.roller.phase with
  | .idle => if s.idleHeld then 0 else countWhile (x.wheelL && x.wheelR) 8 s.roller.wheelCount
  | .exit => countWhile (!x.wheelL && !x.wheelR) 8 s.roller.wheelCount
  | .result => if s.roller.resultWritten then countWhile (!x.wheelL && !x.wheelR) 8 s.roller.wheelCount else s.roller.wheelCount
  | _ => s.roller.wheelCount

/-- The feedback count of SPIN_UP (R98). -/
def Roller.nextFeedbackCount (r : Roller) : Nat := if r.phase = .spinUp then min 4 (r.feedbackCount + 1) else r.feedbackCount

/-- The welded count, with the outputs OFF and welded clear (R99). -/
def State.nextWeldedCount (s : State) : Nat :=
  if s.roller.motors || s.roller.welded then s.roller.weldedCount
  else countWhile (s.filter.accepted.fbL || s.filter.accepted.fbR) 8 s.roller.weldedCount

/-- The counts of one tick. -/
def rollerTick8 (s : State) : State :=
  s.setRoller { s.roller with
    wheelCount := s.nextWheelCount
    feedbackCount := s.roller.nextFeedbackCount
    weldedCount := s.nextWeldedCount }

/-! ### Keys (R104, R111, R113, R114) -/

/-- The START key: PANEL_NOT_RESPONDING lowered (R101), then the entry to WARN (R104; log entry 58 for this order). -/
def keyStart (s : State) : State :=
  if s.roller.phase = .positioned then enterWarn (lower .panelNotResponding s) else s

/-- The fixed axle is owed a parking test (R111). -/
def State.owesParking (s : State) : Bool :=
  match s.lane.find s.roller.axle.ticket with
  | some e => e.parkingSet.contains s.roller.axle.axle && !e.hasParking s.roller.axle.axle
  | none => false

def keyNext (s : State) : State :=
  match s.roller.phase with
  | .positioned => enterExit s
  | .result =>
    if !s.roller.resultWritten then s
    else if s.owesParking then enterWarn (s.setRoller { s.roller with kind := .parking })
    else enterExit s
  | _ => s

def keyRepeat (s : State) : State :=
  if s.roller.phase = .result && s.roller.resultWritten then enterWarn s else s

/-- The phases a running test is aborted in (R113). -/
def Phase.inTest : Phase → Bool
  | .warn | .spinUp | .zero | .test | .stopping => true
  | _ => false

/-- ABORT with the fault hold set (R114). After a cancel of the fixed ticket under the hold the fixed axle is released, wherever the wheels
stand (R118; log entry 40). -/
def releaseHold (cause : FaultCause) (s : State) : State :=
  if cause = .welded && s.roller.welded then s
  else
    let s := lower .motorFault (changeRoller (fun r => { r with faultHold := none }) s)
    if s.roller.weighed && !s.roller.releaseOwed && s.filter.accepted.wheelL && s.filter.accepted.wheelR && !s.bus.latch.stopped then enterPositioned s
    else enterIdle false s

/-- The ABORT key (R113, R114). Discard test is given before POSITIONED's streams are written (log entry 39). -/
def rollerAbort (s : State) : State :=
  match s.roller.faultHold with
  | some cause => releaseHold cause s
  | none =>
    if s.roller.phase.inTest then
      let s := evalDiscardTest (motorStop s)
      enterPositioned (s.setRoller { s.roller with held := none, endReason := none, resultWritten := false })
    else s

/-! ### Wheels, feedback lines (R98, R99, R115) -/

/-- The phases in which a leaving wheel ends the axle (R115). -/
def Phase.needsWheels : Phase → Bool
  | .weigh | .positioned | .warn | .spinUp | .zero | .test => true
  | _ => false

def wheelsLeaving (s : State) : State :=
  if s.roller.phase.needsWheels then enterIdle false (motorStop s) else s

/-- A feedback line becomes active: its side is confirmed while the outputs are ON (R98). -/
def feedbackActive (left : Bool) (s : State) : State :=
  if s.roller.motors then
    s.setRoller (if left then { s.roller with fbL := true } else { s.roller with fbR := true })
  else s

/-- Welded cleared, both feedback lines being inactive (R99). -/
def clearWelded (s : State) : State :=
  if s.roller.welded && !s.filter.accepted.fbL && !s.filter.accepted.fbR then
    s.setRoller { s.roller with welded := false, weldedCount := 0 }
  else s

/-- A feedback line becomes inactive: DROPOUT on a confirmed side (R98), and the clearing of welded (R99). -/
def feedbackInactive (left : Bool) (s : State) : State :=
  let confirmed := if left then s.roller.fbL else s.roller.fbR
  clearWelded (if s.roller.motors && confirmed then rollerFault .dropout s else s)

/-! ### Peers: awaited set and role clash (R106, R116) -/

/-- A station leaves the awaited set; a confirming set left empty starts the run-out (R106). -/
def removeAwaited (station : Nat) (s : State) : State :=
  if s.roller.phase = .warn && s.roller.awaited.contains station then
    let rest := s.roller.awaited.filter fun n => n ≠ station
    if rest.isEmpty && s.roller.warnWait = some .confirming then
      startSeqTimer Config.runOutWindows (s.setRoller { s.roller with awaited := rest, warnWait := some .runOut })
    else s.setRoller { s.roller with awaited := rest }
  else s

/-- A WARNING_SHOWN for this station (R106). -/
def warningShownHeard (source : Nat) (a : FixedAxle) (s : State) : State :=
  if s.roller.fixed = some a then removeAwaited source s else s

/-- The role clash judged (R116). -/
def judgeRoleClash (s : State) : State :=
  let wasHeld := s.idleHeld
  match s.lowerRollers with
  | n :: _ =>
    if s.roller.roleClash then s
    else holdChanged wasHeld (raise .roleClash { station := some n } (s.setRoller { s.roller with roleClash := true }))
  | [] =>
    if s.roller.roleClash then holdChanged wasHeld (lower .roleClash (s.setRoller { s.roller with roleClash := false }))
    else s

/-! ### Lane stop, cancel, LANE_CLEAR (R117, R118) -/

/-- A motor stop, discard axle and IDLE with its full entry actions, in that order (R117, R118; log entry 39). -/
def abandonAxle (s : State) : State := enterIdle false (evalDiscardAxle (motorStop s))

/-- The latch reports stopped set (R117). -/
def rollerStopped (s : State) : State :=
  match s.roller.phase with
  | .idle => showDriveOn (s.setRoller { s.roller with wheelCount := 0 })
  | .exit => axleLeft s
  | .result => if s.roller.resultWritten then axleLeft s else abandonAxle s
  | _ => abandonAxle s

/-- A ticket cancelled report (R118): for the fixed ticket alone. Under the fault hold the fixed axle is due for release at the next ABORT
(log entry 40); else the axle is sent off. Discard axle is given before EXIT's streams are written (log entry 39). -/
def rollerCancelled (ticket : Nat) (s : State) : State :=
  if (s.roller.fixed.map (·.ticket)) ≠ some ticket then s
  else if s.roller.faultHold.isSome then s.setRoller { s.roller with releaseOwed := true }
  else if s.roller.phase ≠ .idle && s.roller.phase ≠ .exit then enterExit (evalDiscardAxle (motorStop s))
  else s

/-- A heard LANE_CLEAR (R118). Under the fault hold too IDLE is entered with its full entry actions, as R118 says, so the fixed axle is
cleared there although the hold stays (the model's reading of R118 against R96: log entry 59). -/
def rollerLaneClear (s : State) : State := abandonAxle s

end Sys2Proof.Machine
end

