-- ==== Sys2Proof/Machine/Latch.lean ====
section
/-! DEFINITION. The lane stop latch with its reports to the sequences, the guidance unit and PRESENCE (R41 to R43), and the welded
contactor that sets it (R99). -/

namespace Sys2Proof.Machine

/-- An operation of the roller sequence, on a station where it takes events. -/
def onRoller (f : State → State) (s : State) : State := if s.rollerActive then f s else s

/-- An operation of the plate sequence, on a station where it takes events. -/
def onPlate (f : State → State) (s : State) : State := if s.plateActive then f s else s

/-- The latch taking a stop (R41). -/
def Latch.stop (l : Latch) (cause : StopCause) (station : Nat) : Latch :=
  { l with stopped := true, cause := some cause, station := some station }

/-- The fields of LANE_STOPPED (R43). -/
def stopFields (cause : StopCause) (station : Nat) : PromptFields := { stopCause := some cause, station := some station }

/-- A stop sets the latch; a change of its stopped field is reported to the sequences, to the guidance unit and to PRESENCE, in the order
of R43's table and of the worked stop of section 2.10 (log entry 45). -/
def setLatch (cause : StopCause) (station : Nat) (s : State) : State :=
  let t := s.setBus { s.bus with latch := s.bus.latch.stop cause station }
  if s.bus.latch.stopped then updateFields .laneStopped (stopFields cause station) t
  else presenceIfChanged s (raise .laneStopped (stopFields cause station) (onPlate plateStopped (onRoller rollerStopped t)))

/-- The latch cleared: stopped and local cause; the change is reported in the order of R43's table (R42, R43; log entry 45). -/
def clearLatch (s : State) : State :=
  let t := s.setBus { s.bus with latch := { s.bus.latch with stopped := false, localCause := false } }
  if s.bus.latch.stopped then
    presenceIfChanged s (lower .laneStopped (onRoller (holdChanged s.idleHeld) t))
  else t

/-- A LANE_STOP of this station: queued, the latch set in the same step (R41). -/
def stopLane (cause : StopCause) (s : State) : State := setLatch cause s.startUp.ownNumber (queueFrame (.laneStop cause) s)

/-- The stop input becomes active, outside STARTING (R41). -/
def stopInputActive (s : State) : State :=
  if s.bus.mode = .starting then s
  else
    let t := stopLane .stopInput s
    t.setBus { t.bus with latch := { t.bus.latch with localCause := true } }

/-- The stop input becomes inactive (R42). -/
def stopInputInactive (s : State) : State :=
  if s.bus.latch.localCause then clearLatch (queueFrame .laneResume s) else s

/-- The roller sequence reports a welded contactor (R99). -/
def State.reportsWelded (s : State) : Bool := s.rollerActive && s.roller.welded

/-- A heard LANE_RESUME (R42). -/
def resumeHeard (s : State) : State :=
  if s.bus.mode = .starting then clearLatch s
  else if s.filter.accepted.stopIn then stopLane .stopInput s
  else if s.reportsWelded then stopLane .contactor s
  else clearLatch s

/-- The welded count has reached 8 (R99). -/
def weldedFound (s : State) : State :=
  rollerFault .welded (stopLane .contactor (s.setRoller { s.roller with welded := true }))

end Sys2Proof.Machine
end

