-- ==== Sys2Proof/Machine/Peers.lean ====
section
/-! DEFINITION. Frames on the lane bus as the controller takes and sends them: link transitions, the clash, the peer list with its
reports, and what the blocks do with each frame kind (R22 to R40, section 2.9). -/

namespace Sys2Proof.Machine

/-! ### The link (R22, R27 to R29) -/

def Bus.setLink (b : Bus) (l : Link) (recessive : Nat) : Bus := { b with link := l, recessive := recessive }

/-- The bus has become idle. -/
def Bus.isIdle (b : Bus) : Bool := b.link == .quiet && b.recessive == Config.idleBits

/-- The station drives a start bit for the head of its queue (R22, R27). -/
def Bus.begins (b : Bus) : Bus :=
  match b.queue with
  | q :: _ => if b.isIdle && b.canQueue then b.setLink (.transmitting q) 0 else b
  | [] => b

/-- The queue in its order again, after the head's transmission has ended by loss of arbitration (R30). -/
def reorder : List QueuedFrame → List QueuedFrame
  | [] => []
  | q :: qs => insertQueued q qs

/-- Arbitration lost: receiver of the frame on the bus; the frame stays in the queue (R27). -/
def Bus.loses (b : Bus) : Bus :=
  match b.link with
  | .transmitting _ => { b with link := .receiving, queue := reorder b.queue }
  | _ => b

/-- A bit error: the frame leaves the queue, and the station receives on (R28). -/
def Bus.errs (b : Bus) : Bus :=
  match b.link with
  | .transmitting q => { b with link := .receiving, queue := b.queue.erase q }
  | _ => b

/-- The frame is sent: it leaves the queue (R29). The recessive bits of its end open the count of R22. -/
def Bus.sent (b : Bus) (own : Nat) : Bus :=
  match b.link with
  | .transmitting q =>
    { b with link := .quiet, recessive := trailingRecessive (q.frame.wire own).bits, queue := b.queue.erase q }
  | _ => b

/-- The station is transmitting. -/
def Bus.isSending (b : Bus) : Bool :=
  match b.link with
  | .transmitting _ => true
  | _ => false

/-! ### The clash (R39, R40) -/

def Bus.listenOnly (b : Bus) : Bus := { b with mode := .listenOnly, queue := [] }

def clash (s : State) : State :=
  if s.bus.mode = .listenOnly then s else raise .stationClash {} (s.setBus s.bus.listenOnly)

/-! ### The peer list (R34 to R37) -/

/-- A new entry, UNKNOWN in every field. -/
def Peer.unknown (station : Nat) : Peer := ⟨station, none, none, none, none, 0⟩

/-- The fields of a PRESENCE; none leaves them as they were. -/
def Peer.fill (p : Peer) : Option (PeerRole × Activity × Nat × PrinterState) → Peer
  | some (r, a, t, q) => { p with role := some r, activity := some a, ticket := some t, printer := some q }
  | none => p

/-- A heard frame at an entry: age 0, and the fields of a PRESENCE. -/
def Peer.refresh (p : Peer) (fields : Option (PeerRole × Activity × Nat × PrinterState)) : Peer := { p.fill fields with age := 0 }

/-- Put a peer at its place in order of station number. -/
def insertPeer (p : Peer) : List Peer → List Peer
  | [] => [p]
  | x :: xs => if p.station < x.station then p :: x :: xs else x :: insertPeer p xs

def Bus.hasPeer (b : Bus) (station : Nat) : Bool := b.peers.any fun p => p.station == station

/-- A frame of a station at the peer list (R34, R36). -/
def Bus.hearPeer (b : Bus) (station : Nat) (fields : Option (PeerRole × Activity × Nat × PrinterState)) : Bus :=
  if b.hasPeer station then
    { b with peers := b.peers.map fun p => if p.station = station then p.refresh fields else p }
  else if b.peers.length < Config.peerListSize then { b with peers := insertPeer ((Peer.unknown station).refresh fields) b.peers }
  else b

/-- The entry's role is known and is not PANEL. -/
def Bus.notPanel (b : Bus) (station : Nat) : Bool :=
  b.peers.any fun p => p.station == station && p.role.isSome && p.role != some .panel

/-- A peer heard report (R37): roller sequence, guidance unit, certificate unit, in the order in which R37 lists them (log entry 53). -/
def peerHeard (station : Nat) (isPresence : Bool) (s : State) : State :=
  let s := onRoller (fun s =>
    judgeRoleClash (if isPresence && s.bus.notPanel station then removeAwaited station s else s)) s
  recheck (judgeEntry s)

/-- A peer absent report (R37): roller sequence (awaited set, then role clash), lane view, guidance unit (the warning, then the lane entry),
certificate unit, in the order in which R37 lists them (log entry 53). -/
def peerGone (station : Nat) (s : State) : State :=
  let s := onRoller (fun s => judgeRoleClash (removeAwaited station s)) s
  recheck (judgeEntry (lowerWarningOf station (retestAll s)))

/-- The lowest station whose age has reached 5 (R35); peers stand in order of station number. -/
def Bus.absent (b : Bus) : Option Nat := (b.peers.find? fun p => decide (Config.absentAge ≤ p.age)).map (·.station)

/-- The removal of one peer (R35). -/
def removePeer (station : Nat) (s : State) : State :=
  peerGone station (s.setBus { s.bus with peers := s.bus.peers.filter fun p => p.station ≠ station })

/-- One second more for every peer (R35). -/
def Bus.aged (b : Bus) : Bus := { b with peers := b.peers.map fun p => { p with age := p.age + 1 } }

/-! ### A heard frame (R25, R26) -/

/-- A frame takes the station off the bus: its bits end in recessive ones (R22). -/
def frameEnds (f : WireFrame) (s : State) : State := s.setBus (s.bus.setLink .quiet (trailingRecessive f.bits))

/-- The peer list and its report for a heard frame of another station (R26, R34, R37). -/
def enterPeer (source : Nat) (isPresence : Bool) (fields : Option (PeerRole × Activity × Nat × PrinterState)) (s : State) : State :=
  let created := !s.bus.hasPeer source
  let t := s.setBus (s.bus.hearPeer source fields)
  if t.bus.hasPeer source && (created || isPresence) then peerHeard source isPresence t else t

/-- A heard frame through the cases of R26: the clash check, the peer list, then the blocks when the frame makes sense. A PRESENCE whose
length is outside its range refreshes a listed station's entry and is no PRESENCE heard for R37's report (log entry 54). -/
def hearFrame (f : WireFrame) (deliver : State → State) (s : State) : State :=
  if s.bus.isSending then s
  else
    let s := frameEnds f s
    if f.source = 0 then s
    else
      let isPresence := decide (f.cls = 3 ∧ f.kind = 1) && f.sensible
      let s :=
        if f.source = s.startUp.ownNumber then clash s
        else enterPeer f.source isPresence (if isPresence then readPresence f.payload else none) s
      if f.sensible then deliver s else s

/-! ### What the blocks do with each kind (section 2.9) -/

def onLaneStop (source : Nat) (p : List Byte) (s : State) : State :=
  match readStopCause (byteAt p 0) with
  | some c => setLatch c source s
  | none => s

def onMotorWarning (source : Nat) (p : List Byte) (s : State) : State :=
  match readTestKind (byteAt p 3) with
  | some k => if s.isPanel then warningFrom source (wordAt p 0) (byteAt p 2) k s else s
  | none => s

def onWarningShown (source : Nat) (p : List Byte) (s : State) : State :=
  if byteAt p 0 = s.startUp.ownNumber then onRoller (warningShownHeard source ⟨wordAt p 1, byteAt p 3⟩) s else s

def onRollersStopped (source : Nat) (s : State) : State := lowerWarningOf source s

/-- A VEHICLE_CANCEL (R8), with the ticket cancelled report to the roller sequence, the plate sequence, the certificate unit and the guidance
unit, in the order in which R21 lists them (log entry 52). -/
def onVehicleCancel (p : List Byte) (s : State) : State :=
  let t := wordAt p 0
  if s.lane.cancels t then
    let s := s.setLane (s.lane.cancel t)
    guidanceTicketGone t (certTicketGone t (onPlate (plateCancelled t) (onRoller (rollerCancelled t) s)))
  else s

def onAxleEvent (p : List Byte) (s : State) : State :=
  match readAxleEvent (byteAt p 3), readMeasuringRole (byteAt p 4) with
  | some ev, some role => s.setLane (s.lane.axleEvent (wordAt p 0) (byteAt p 2) ev role)
  | _, _ => s

def onAxleLoad (p : List Byte) (s : State) : State :=
  takeResult (wordAt p 0) (byteAt p 2) (.load ⟨wordAt p 3, wordAt p 5⟩) s

/-- A pair of optional values, present when both are (R13). -/
def bothPresent : Option Nat → Option Nat → Option Pair
  | some l, some r => some ⟨l, r⟩
  | _, _ => none

def BrakeFields.figures (f : BrakeFields) : Figures :=
  ⟨f.fmax, bothPresent f.frefL f.frefR, f.imbalance, f.ovalL, f.ovalR, f.rr⟩

def onBrakeResult (p : List Byte) (s : State) : State :=
  let f := readBrakeResult p
  match f.kind, f.reason with
  | some k, some e => takeResult f.ticket f.axle (.brake k ⟨f.figures, e⟩ f.load) s
  | _, _ => s

def onSlipResult (p : List Byte) (s : State) : State := takeResult (wordAt p 0) (byteAt p 2) (.slip (signedAt p 3)) s

def onCertRequest (source : Nat) (p : List Byte) (s : State) : State :=
  if byteAt p 0 = s.startUp.ownNumber then certRequest source (wordAt p 1) s else s

def onReprintRequest (source : Nat) (p : List Byte) (s : State) : State :=
  if byteAt p 0 = s.startUp.ownNumber then reprintRequest source (certAt p 1) s else s

def onCertDone (p : List Byte) (s : State) : State :=
  match readVerdict (byteAt p 5) with
  | some v => s.setLane (s.lane.closeHeard (wordAt p 0) (certAt p 2) v)
  | none => s

/-- A LANE_CLEAR (R20, R118, R129, R136, R162) at the lane view with its ticket dropped reports, the roller sequence, the plate sequence, the
certificate unit and the guidance unit, in the order in which section 2.9 lists them (log entry 51). -/
def onLaneClear (s : State) : State :=
  guidanceLaneClear (certLaneClear (onPlate plateLaneClear (onRoller rollerLaneClear (clearLane s))))

end Sys2Proof.Machine
end

