-- ==== Sys2Proof/Machine/StartUp.lean ====
section
/-! DEFINITION. Power, reset, the straps, the memory read, and the end of start-up with each block's action there (R172 to R178, R183). -/

namespace Sys2Proof.Machine

/-! ### Power and reset (R164, R172) -/

/-- Held in reset: every volatile item at its value, an archive operation in flight ended (R164, R172). -/
def holdReset (left : List Residue) (s : State) : State :=
  State.fresh .held (s.archive.cutShort left) s.pins s.pending

/-- Power removed: the volatile state is lost; the archive and the outside lines stand (R163, R164). -/
def losePower (left : List Residue) (s : State) : State :=
  State.fresh .off (s.archive.cutShort left) s.pins s.pending

/-- The role of a strap code (R173). -/
def roleOfStraps (code : Nat) : Role :=
  if code = 0 then .roller else if code = 1 then .plate else .panel

/-- The release of reset: the straps are read (R172, R173). -/
def releaseReset (station role : Nat) (printer : Bool) (s : State) : State :=
  (s.setPower .running).setStartUp
    { s.startUp with ownNumber := station, role := roleOfStraps role, printer := printer }

/-! ### The start-up block (R174, R175, R183) -/

/-- A two-byte value of a copy, most significant byte first (R183). -/
def copyWord (bytes : List Byte) (i : Nat) : Nat := wordAt bytes i

/-- The fields of a copy (R183). -/
def blockOfCopy (b : List Byte) : StartUpBlock where
  serial := b.take 10
  laneName := (b.drop 10).take 16
  approval := (b.drop 26).take 12
  gfL := copyWord b 38
  gfR := copyWord b 40
  gwL := copyWord b 42
  gwR := copyWord b 44
  zwL := copyWord b 46
  zwR := copyWord b 48
  gp := copyWord b 50
  zp := copyWord b 52
  gs := copyWord b 54
  zs := copyWord b 56
  nnom := copyWord b 58
  pprL := copyWord b 60
  pprR := copyWord b 62
  lampPeriod := byteAt b 64
  dayDuty := byteAt b 65
  nightDuty := byteAt b 66

/-- A value from 1 to a limit. -/
def within1 (n limit : Nat) : Bool := decide (1 ≤ n) && decide (n ≤ limit)

/-- The validity check (R175). -/
def StartUpBlock.valid (b : StartUpBlock) : Bool :=
  [b.gfL, b.gfR, b.gwL, b.gwR, b.gp, b.gs].all (within1 · 8000) &&
  [b.zwL, b.zwR, b.zp, b.zs].all (fun n => decide (n ≤ 4095)) &&
  within1 b.nnom 1000 && within1 b.pprL 4095 && within1 b.pprR 4095

/-- The CRC-16 of a copy checks (R183). -/
def copyChecks (b : List Byte) : Bool := (crcBytes (b.take 126)).toNat == wordAt b 126

/-- A copy judged good gives its fields (R174). -/
def goodCopy (b : List Byte) : Option StartUpBlock :=
  if b.length = 128 && copyChecks b && (blockOfCopy b).valid then some (blockOfCopy b) else none

/-- The first good copy, in order (R174). -/
def blockInUse (c1 c2 c3 : List Byte) : Option (Nat × StartUpBlock) :=
  match goodCopy c1 with
  | some b => some (1, b)
  | none =>
    match goodCopy c2 with
    | some b => some (2, b)
    | none => (goodCopy c3).map fun b => (3, b)

/-- The memory read completes (R174). -/
def memoryRead (c1 c2 c3 : List Byte) (s : State) : State :=
  if s.startUp.memoryDone then s
  else s.setStartUp { s.startUp with memoryDone := true, block := blockInUse c1 c2 c3 }

/-- The archive scan completes (R171). -/
def scanDone (s : State) : State :=
  if s.startUp.scanDone then s
  else (s.setArchive s.archive.scan).setStartUp { s.startUp with scanDone := true }

/-! ### The end of start-up (R178) -/

/-- The bus mode at the end of start-up (R178). -/
def State.settledMode (s : State) : BusMode :=
  if s.bus.mode = .listenOnly then .listenOnly
  else if s.startUp.ownNumber = 0 then .listenOnly
  else if s.startUp.block.isSome then .ready
  else .degraded

/-- The calibration of a block (R79, R176). -/
def StartUpBlock.calibration (b : StartUpBlock) : Calibration :=
  ⟨b.gfL, b.gfR, b.gwL, b.gwR, b.zwL, b.zwR, b.gp, b.zp, b.gs, b.zs, b.nnom⟩

/-- A revolution counter takes its compare and starts (R55). -/
def RevCounter.begin (c : RevCounter) (compare : Nat) : RevCounter := { c with compare := compare, running := true }

/-- The revolution counters at the end of start-up (R55). -/
def Counters.begin (c : Counters) (role : Role) (block : Option (Nat × StartUpBlock)) : Counters :=
  match role, block with
  | .roller, some b => { c with revL := c.revL.begin b.2.pprL, revR := c.revR.begin b.2.pprR }
  | _, _ => c

/-- The dimmer at the end of start-up: settings of the block, or the fallback; Q by the DIM input's accepted level (R51). -/
def startDimmer (block : Option (Nat × StartUpBlock)) (dim : Bool) : Dimmer :=
  let k : Nat × Nat × Nat :=
    match block with
    | some b => (b.2.lampPeriod, b.2.dayDuty, b.2.nightDuty)
    | none => (255, 255, 127)
  { counter := k.1, p := k.1, q := if dim then k.2.2 else k.2.1, running := true, pendingCompare := none
    dayDuty := k.2.1, nightDuty := k.2.2 }

/-- PT1 on a ROLLER station, PT0 on a PLATE station, where the station measures (R73, R74). -/
def Timers.begin (t : Timers) (role : Role) (measures : Bool) : Timers :=
  match role, measures with
  | .roller, true => { t with pt1 := t.pt1.startWith Config.pt1Reload }
  | .plate, true => { t with pt0 := t.pt0.startWith Config.pt0Reload }
  | _, _ => t

/-- The blocks of R176 and the timers take their settings. -/
def takeSettings (s : State) : State :=
  let calib := s.startUp.block.map fun b => b.2.calibration
  let s := s.setEval { s.eval with calib := calib }
  let s := s.setCounters (s.counters.begin s.startUp.role s.startUp.block)
  s.setTimers ({ s.timers with dimmer := startDimmer s.startUp.block s.filter.accepted.dim }.begin s.startUp.role calib.isSome)

/-- The sequences at the end of start-up (R96, R119). -/
def startSequence (s : State) : State :=
  match s.startUp.role with
  | .roller => enterIdle false (judgeRoleClash s)
  | .plate => if s.measures then s else raise .calibrationMissing {} s
  | .panel => s

/-- The certificate unit at the end of start-up: the paper-out line read, and a recheck (R147). -/
def startCertUnit (s : State) : State :=
  if s.startUp.printer then recheck (if s.pins.paperOut then paperGone s else s) else s

/-- The stop latch at the end of start-up takes an active stop input (R41). -/
def startStopInput (s : State) : State := if s.filter.accepted.stopIn then stopInputActive s else s

/-- The end of start-up (R178). The blocks act in the order of this text; the outcome does not depend on it. -/
def endStartUp (s : State) : State :=
  let s := (s.setBus { s.bus with mode := s.settledMode }).setStartUp { s.startUp with ended := true, endDue := false }
  let s := startSequence (firstDisplay (takeSettings s))
  requestPresence (startStopInput (judgeEntry (startCertUnit s)))

end Sys2Proof.Machine
end

