-- ==== Sys2Proof/Machine/Ticks.lean ====
section
/-! DEFINITION. What a tick of the lane clock brings to the blocks: the filter's events at the lines' owners, the 8 Hz takers, the 1 Hz
takers, and the period of the base between ticks (R44, R46, R47, R54, R56). -/

namespace Sys2Proof.Machine

/-! ### 32 Hz (R47) -/

/-- The DIM input's event: the pending compare, once the duties are known, and a change of brightness (R52, R138). -/
def dimEvent (active : Bool) (s : State) : State :=
  let d := s.timers.dimmer
  let t :=
    if s.startUp.ended then
      s.setTimers { s.timers with dimmer := { d with pendingCompare := some (if active then d.nightDuty else d.dayDuty) } }
    else s
  composePanel t

/-- The ABORT key: the owning sequence takes it, then the capture block its one-off requests (R72, R113, R127). -/
def abortKey (s : State) : State :=
  let t := onPlate plateAbort (onRoller rollerAbort s)
  t.setCapture t.capture.abortKey

/-- A line's event at its owner (R47). -/
def lineEvent (l : Line) (active : Bool) (s : State) : State :=
  match l, active with
  | .wheelL, false | .wheelR, false => onRoller wheelsLeaving s
  | .plateEntry, true => onPlate plateEntry s
  | .plateExit, true => onPlate plateExit s
  | .fbL, true => onRoller (feedbackActive true) s
  | .fbR, true => onRoller (feedbackActive false) s
  | .fbL, false => onRoller (feedbackInactive true) s
  | .fbR, false => onRoller (feedbackInactive false) s
  | .keyStart, true => onRoller keyStart s
  | .keyNext, true => onRoller keyNext s
  | .keyRepeat, true => onRoller keyRepeat s
  | .keyAbort, true => abortKey s
  | .stopIn, true => stopInputActive s
  | .stopIn, false => stopInputInactive s
  | .dim, b => dimEvent b s
  | _, _ => s

/-- One line's sample, with its event delivered at once (R47). -/
def sampleLine (x : Samples) (s : State) (l : Line) : State :=
  let v := lineLevel x l
  let t := s.setFilter (s.filter.sample l v)
  if s.filter.changes l v then lineEvent l v t else t

/-- The 32 Hz tick. -/
def tick32 (x : Samples) (first : List Line) (s : State) : State :=
  (lineOrder first).foldl (sampleLine x) (s.setClock s.clock.tick32)

/-! ### 8 Hz (R46) -/

/-- The window sample taken, the counters cleared, and on a ROLLER station the sample delivered (R54). -/
def closeWindow (s : State) : State :=
  let w := s.counters.sample
  let t := s.setCounters s.counters.cleared
  onRoller (fun s => evalWindow w (rollerWindow w s)) t

/-- The phase timers (R56). -/
def tickTimers (s : State) : State :=
  s.setTimers { s.timers with seqTimer := s.timers.seqTimer.tick, certTimer := s.timers.certTimer.tick }

/-- One block takes the 8 Hz tick. -/
def takeTick8 (s : State) : TickTaker → State
  | .pulseCounters => closeWindow s
  | .phaseTimers => tickTimers s
  | .sequence => onRoller rollerTick8 s
  | .guidance => guidanceTick8 s

/-- The blocks in the order they take the tick: those named first, then the rest in the order of R46's table (log entry 8). -/
def takerOrder (first : List TickTaker) : List TickTaker :=
  onceEach first ++ [.pulseCounters, .phaseTimers, .sequence, .guidance].filter fun t => !first.contains t

/-- The 8 Hz tick. -/
def tick8 (first : List TickTaker) (s : State) : State :=
  (takerOrder first).foldl takeTick8 (s.setClock s.clock.tick8)

/-! ### 1 Hz (R46) -/

/-- Start-up's 1 Hz tick: its end is due once both reads are done (R172). -/
def tickStartUp (s : State) : State :=
  s.setStartUp { s.startUp with
    endDue := s.startUp.endDue || (s.startUp.memoryDone && s.startUp.scanDone && !s.startUp.ended) }

/-- The 1 Hz tick: peer ages, PRESENCE, the guidance unit, start-up, in the order of R46's table, which no rule fixes (log entry 34). -/
def tick1 (s : State) : State :=
  let s := s.setClock s.clock.tick1
  let s := requestPresence (s.setBus s.bus.aged)
  tickStartUp (guidanceTick1 s)

/-! ### Between the ticks (R44) -/

/-- A period of the 256 Hz base passes, from the release of reset on (R44; log entries 6 and 16). -/
def idlePeriod (s : State) : State := if s.isRunning then s.setClock s.clock.period else s

end Sys2Proof.Machine
end

