-- ==== Sys2Proof/Machine/Due.lean ====
section
/-! DEFINITION. The events the part comes to by itself: when each is due, what it does, and the taking of what is due before the next
outside event (log entries 1 and 2). -/

namespace Sys2Proof.Machine

/-- The events that follow from the state alone. -/
inductive Due where
  | certificateStart | reprintStart
  | inputFaulted (n : Nat)
  | release | slipStop
  | warnHorn | warnTimeout | runOut | spinUpTimeout | testLimit | crossingTimeout | paperWait
  | feedbackCount | welded | axleOn | axleLeaves | rollDown
  | minimumShow | rejectedLife | warningLife | singleEnd
  | peerAbsent | startUpEnd | converterStart
  deriving DecidableEq, Repr

/-- The sequence phase timer's expiry is due in a phase of the roller sequence. -/
def State.rollerExpiry (s : State) (p : Phase) : Bool := s.rollerActive && s.timers.seqTimer.expired && s.roller.phase == p

/-- The sequence phase timer's expiry is due in a wait of WARN. -/
def State.warnExpiry (s : State) (w : WarnWait) : Bool := s.rollerExpiry .warn && s.roller.warnWait == some w

/-- The welded count has reached 8 with the outputs OFF, and welded is clear (R99). -/
def State.weldedDue (s : State) : Bool := s.rollerActive && !s.roller.motors && s.roller.weldedCount == 8 && !s.roller.welded

/-- The expiry of a wait of WARN that switches the motors on. A welded contactor found at the same tick is taken before it (R99; log
entry 44). -/
def State.spinUpExpiry (s : State) (w : WarnWait) : Bool := s.warnExpiry w && !s.weldedDue

/-- When an event is due, its own rule's condition holding in the state. -/
def State.isDue (s : State) : Due → Bool
  | .certificateStart => s.certificateDue
  | .reprintStart => s.reprintDue
  | .inputFaulted n => s.isRunning && s.capture.faultDue.contains n
  | .release => s.rollerActive && s.eval.acc.releaseDue
  | .slipStop => s.rollerActive && s.eval.acc.slipDue
  | .warnHorn => s.spinUpExpiry .hornAlone
  | .warnTimeout => s.warnExpiry .confirming
  | .runOut => s.spinUpExpiry .runOut
  | .spinUpTimeout => s.rollerExpiry .spinUp
  | .testLimit => s.rollerExpiry .test
  | .crossingTimeout =>
    s.plateActive && s.timers.seqTimer.expired && s.plate.crossing == .onPlate && s.plate.measure != .draining
  | .paperWait => s.printerActive && s.timers.certTimer.expired && s.cert.headIs .paperWait
  | .feedbackCount =>
    s.rollerActive && s.roller.phase == .spinUp && s.roller.feedbackCount == 4 && !(s.roller.fbL && s.roller.fbR)
  | .welded => s.weldedDue
  | .axleOn => s.rollerActive && s.roller.phase == .idle && !s.idleHeld && s.roller.wheelCount == 8
  | .axleLeaves =>
    s.rollerActive && (s.roller.phase == .exit || (s.roller.phase == .result && s.roller.resultWritten)) &&
      s.roller.wheelCount == 8
  | .rollDown => s.rollerActive && s.roller.phase == .stopping && s.roller.rollDown == 2
  | .minimumShow => s.isRunning && s.guidance.showDue
  | .rejectedLife => s.isRunning && lifeEnded .entryRejected s
  | .warningLife => s.isRunning && lifeEnded .warningFromPeer s
  | .singleEnd => s.isRunning && s.guidance.horn.inForce == .single && s.guidance.horn.singleCount == 0
  | .peerAbsent => s.isRunning && s.bus.absent.isSome && !s.certificateDue && !s.reprintDue
  | .startUpEnd => s.isRunning && s.startUp.endDue
  | .converterStart => s.isRunning && s.capture.workWaiting

/-- A release or slip stop report: it ends the test, taken in TEST (R109). -/
def testReport (reason : EndReason) (s : State) : State := if s.roller.phase = .test then enterStopping reason s else s

/-- An input becomes FAULTED, is reported to the owning sequence, and is shown (R71, R114, R127). -/
def faultInput (n : Nat) (s : State) : State :=
  let s := s.setCapture (s.capture.fault n)
  let s := if n ≤ 4 then onRoller (rollerFault .sensor) s else s
  let s := if n = 0 then onPlate plateFault s else s
  raiseSensorFault s

/-- The warning fails (R106). -/
def failWarning (s : State) : State := enterPositioned (raise .panelNotResponding { stations := s.roller.awaited } s)

/-- The effect of a due event. -/
def takeDue (s : State) : Due → State
  | .certificateStart => startHead s
  | .reprintStart => startHead s
  | .inputFaulted n => faultInput n s
  | .release => testReport .release (s.setEval { s.eval with acc := { s.eval.acc with releaseDue := false } })
  | .slipStop => testReport .slip (s.setEval { s.eval with acc := { s.eval.acc with slipDue := false } })
  | .warnHorn => enterSpinUp s
  | .warnTimeout => failWarning s
  | .runOut => enterSpinUp s
  | .spinUpTimeout => rollerFault .noSpinUp s
  | .testLimit => enterStopping .time s
  | .crossingTimeout => crossingExpired s
  | .paperWait => failJob (cancelCertTimer s)
  | .feedbackCount => rollerFault .noFeedback s
  | .welded => weldedFound s
  | .axleOn => enterWeigh s
  | .axleLeaves => axleLeft s
  | .rollDown => enterResult s
  | .minimumShow => showTimeMet s
  | .rejectedLife => lower .entryRejected s
  | .warningLife => lower .warningFromPeer s
  | .singleEnd => singleEnd s
  | .peerAbsent =>
    match s.bus.absent with
    | some n => removePeer n s
    | none => s
  | .startUpEnd => endStartUp s
  | .converterStart => s.setCapture (s.capture.start s.counters.revL.number s.counters.revR.number)

/-- The due events in the order in which they are taken when several are due (log entry 2). -/
def dueOrder : List Due :=
  [.certificateStart, .reprintStart] ++ (List.range 8).map .inputFaulted ++
  [.release, .slipStop, .warnHorn, .warnTimeout, .runOut, .spinUpTimeout, .testLimit, .crossingTimeout, .paperWait] ++
  [.feedbackCount, .axleOn, .axleLeaves, .rollDown, .welded] ++
  [.minimumShow, .rejectedLife, .warningLife, .singleEnd, .peerAbsent, .startUpEnd, .converterStart]

/-- Everything due taken, each event before the next is looked for. The fuel exceeds what one outside event can make due. -/
def settleFor : Nat → State → State
  | 0, s => s
  | fuel + 1, s =>
    match dueOrder.find? s.isDue with
    | some d => settleFor fuel (takeDue s d)
    | none => s

def settle (s : State) : State := settleFor 64 s

/-- An event of the outside: what is due is taken first; nothing happens unless the part runs (R172; log entry 2). -/
def outside (f : State → State) (s : State) : State := if s.isRunning then f (settle s) else s

/-- A command that names a due event takes it; where it is not due, what is due is taken. -/
def named (d : Due) (s : State) : State := if s.isDue d then takeDue s d else settle s

end Sys2Proof.Machine
end

