-- ==== Sys2Proof/Machine/BusCommands.lean ====
section
/-! DEFINITION. Meanings of the lane bus commands at bit and queue level (R22 to R35). -/

namespace Sys2Proof.Machine

/-- FRAME_START (R22). -/
def execFrameStart (s : State) : Host.Outcome State Fault Refusal := .next (outside (fun s => s.setBus s.bus.begins) s)

/-- LOST_ARBITRATION (R27). -/
def execLostArbitration (s : State) : Host.Outcome State Fault Refusal := .next (outside (fun s => s.setBus s.bus.loses) s)

/-- BIT_ERROR (R28). -/
def execBitError (s : State) : Host.Outcome State Fault Refusal := .next (outside (fun s => s.setBus s.bus.errs) s)

/-- FRAME_SENT (R29). -/
def execFrameSent (s : State) : Host.Outcome State Fault Refusal :=
  .next (outside (fun s => s.setBus (s.bus.sent s.startUp.ownNumber)) s)

/-- A frame whose bits a receiver discards leaves the bus to the next idle (R25). -/
def discardFrame (bits : List Bool) (s : State) : State :=
  if !s.bus.isSending && receive bits = .discarded then s.setBus (s.bus.setLink .quiet (trailingRecessive bits)) else s

/-- FRAME_DISCARDED (R25). -/
def execFrameDiscarded (bits : List Bool) (s : State) : Host.Outcome State Fault Refusal := .next (outside (discardFrame bits) s)

/-- BUS_IDLE: 12 recessive bit times have been read (R22). -/
def execBusIdle (s : State) : Host.Outcome State Fault Refusal :=
  .next (outside (fun s => if s.bus.link = .quiet then s.setBus (s.bus.setLink .quiet Config.idleBits) else s) s)

/-- BECOMES_RECEIVER: a start bit of another station read on an idle bus (R22). -/
def execBecomesReceiver (s : State) : Host.Outcome State Fault Refusal :=
  .next (outside (fun s => if s.bus.isIdle then s.setBus (s.bus.setLink .receiving 0) else s) s)

/-- PEER_ABSENT (R35). -/
def execPeerAbsent (s : State) : Host.Outcome State Fault Refusal := .next (named .peerAbsent s)

end Sys2Proof.Machine
end

