-- ==== Sys2Proof/Machine/CaptureCommands.lean ====
section
/-! DEFINITION. Meanings of the converter, capture and evaluation commands (R63, R64, R71, R72, R76). -/

namespace Sys2Proof.Machine

/-- CONVERTER_START (R63). -/
def execConverterStart (s : State) : Host.Outcome State Fault Refusal := .next (named .converterStart s)

/-- The last conversion of a row completes (R64). -/
def takeRow (raws : List Raw) (s : State) : State := s.setChain (completeRow (raws.map (·.toNat)) (s.capture, s.eval))

/-- ROW_COMPLETE (R64). -/
def execRowComplete (raws : List Raw) (s : State) : Host.Outcome State Fault Refusal := .next (outside (takeRow raws) s)

/-- INPUT_FAULTED (R71). -/
def execInputFaulted (input : Fin 8) (s : State) : Host.Outcome State Fault Refusal := .next (named (.inputFaulted input.val) s)

/-- A still faulted report at the owning sequence (R72, R114, R127). -/
def stillFaulted (n : Nat) (s : State) : State :=
  let s := if n ≤ 4 then onRoller (rollerFault .sensor) s else s
  if n = 0 then onPlate plateFault s else s

/-- A one-off conversion completes: the input is SOUND again, or still faulted (R72). -/
def takeOneOff (raw : Nat) (s : State) : State :=
  match s.capture.converter with
  | .oneOff n =>
    let t := s.setCapture { s.capture with converter := .idle }
    if isRail raw then stillFaulted n t
    else settleSensorFault (t.setCapture { t.capture with faulted := t.capture.faulted.filter fun m => m ≠ n })
  | _ => s

/-- ONE_OFF_CONVERSION_COMPLETE (R72). -/
def execOneOffConversionComplete (raw : Raw) (s : State) : Host.Outcome State Fault Refusal :=
  .next (outside (takeOneOff raw.toNat) s)

/-- The evaluation of the page in the slot ends, and its report goes to the owning sequence (R76, R81, R82, R88, R95). -/
def finishEvaluation (s : State) : State :=
  let r := completeEvaluation (s.capture, s.eval)
  let t := s.setChain r.1
  match r.2 with
  | some report => onPlate (plateReport report) (onRoller (rollerReport report) t)
  | none => t

/-- EVALUATION_COMPLETE (R76). -/
def execEvaluationComplete (s : State) : Host.Outcome State Fault Refusal := .next (outside finishEvaluation s)

end Sys2Proof.Machine
end

