-- ==== Sys2Proof/Machine/CertificateCommands.lean ====
section
/-! DEFINITION. Meanings of the certificate unit's and the archive's commands (R152 to R161, R167 to R170). -/

namespace Sys2Proof.Machine

/-- CERTIFICATE_JOB_START (R153). -/
def execCertificateJobStart (s : State) : Host.Outcome State Fault Refusal := .next (named .certificateStart s)

/-- REPRINT_JOB_START (R152). -/
def execReprintJobStart (s : State) : Host.Outcome State Fault Refusal := .next (named .reprintStart s)

/-- An operation of the certificate unit, where it takes events (R147). -/
def onPrinter (f : State → State) (s : State) : State := if s.printerActive then f s else s

/-- PRINTER_READY becomes active (R156). -/
def readyRises (s : State) : State := s.setPins { s.pins with printerReady := true }

/-- PRINTER_READY_RISE (R156). The line lies outside the part and moves whether the part runs or not (log entry 4). -/
def execPrinterReadyRise (s : State) : Host.Outcome State Fault Refusal :=
  .next (if s.isRunning then onPrinter tryHand (readyRises (settle s)) else readyRises s)

/-- LINE_SENT (R156). -/
def execLineSent (s : State) : Host.Outcome State Fault Refusal := .next (outside (onPrinter lineSent) s)

/-- The paper-out line takes a level. -/
def paperLine (level : Bool) (s : State) : State := s.setPins { s.pins with paperOut := level }

/-- The paper-out line becomes active (R158). -/
def paperOutRises (s : State) : State :=
  let t := paperLine true s
  if s.cert.paperOut then t else onPrinter paperGone t

/-- PAPER_OUT_ACTIVE (R158). -/
def execPaperOutActive (s : State) : Host.Outcome State Fault Refusal :=
  .next (if s.isRunning then paperOutRises (settle s) else paperLine true s)

/-- The paper-out line becomes inactive (R158). -/
def paperOutFalls (s : State) : State :=
  let t := paperLine false s
  if s.cert.paperOut then onPrinter paperBack t else t

/-- PAPER_OUT_INACTIVE (R158). -/
def execPaperOutInactive (s : State) : Host.Outcome State Fault Refusal :=
  .next (if s.isRunning then paperOutFalls (settle s) else paperLine false s)

/-- PAPER_WAIT_EXPIRY (R158). -/
def execPaperWaitExpiry (s : State) : Host.Outcome State Fault Refusal := .next (named .paperWait s)

/-- ERASE_COMPLETE (R168). -/
def execEraseComplete (left : List Residue) (s : State) : Host.Outcome State Fault Refusal :=
  .next (outside (fun s => archiveStep (s.archive.eraseComplete left) s) s)

/-- RECORD_PROGRAM_COMPLETE (R167). -/
def execRecordProgramComplete (pass : Bool) (left : Residue) (s : State) : Host.Outcome State Fault Refusal :=
  .next (outside (fun s => archiveStep (s.archive.recordComplete pass left) s) s)

/-- MARK_PROGRAM_COMPLETE (R170). -/
def execMarkProgramComplete (pass : Bool) (s : State) : Host.Outcome State Fault Refusal :=
  .next (outside (fun s => archiveStep (s.archive.markComplete pass) s) s)

end Sys2Proof.Machine
end

