-- ==== Sys2Proof/Machine/ClockCommands.lean ====
section
/-! DEFINITION. Meanings of the lane clock, counter and pacing timer commands (R45 to R55). -/

namespace Sys2Proof.Machine

/-- TICK_32HZ (R47). -/
def execTick32Hz (samples : Samples) (first : List Line) (s : State) : Host.Outcome State Fault Refusal :=
  .next (outside (tick32 samples first) s)

/-- TICK_8HZ (R46). -/
def execTick8Hz (first : List TickTaker) (s : State) : Host.Outcome State Fault Refusal := .next (outside (tick8 first) s)

/-- TICK_1HZ (R46). -/
def execTick1Hz (s : State) : Host.Outcome State Fault Refusal := .next (outside tick1 s)

/-- A rising edge of a pulse input (R53, R55). -/
def countPulse (input : PulseInput) (s : State) : State := s.setCounters (s.counters.edge input)

/-- PULSE_EDGE (R53). -/
def execPulseEdge (input : PulseInput) (s : State) : Host.Outcome State Fault Refusal := .next (outside (countPulse input) s)

/-- The underflow of a joined pacing timer: the reload taken, and row requests made (R48, R49, R61). -/
def pacingUnderflow (timer : PacingTimer) (s : State) : State :=
  match timer with
  | .pt0 =>
    if s.timers.pt0.running then
      (s.setTimers { s.timers with pt0 := s.timers.pt0.underflow }).setCapture (s.capture.pace .pt0)
    else s
  | .pt1 =>
    if s.timers.pt1.running then
      (s.setTimers { s.timers with pt1 := s.timers.pt1.underflow }).setCapture (s.capture.pace .pt1)
    else s

/-- PACING_EVENT (R48). -/
def execPacingEvent (timer : PacingTimer) (s : State) : Host.Outcome State Fault Refusal :=
  .next (outside (pacingUnderflow timer) s)

/-- PT2-low's underflow toggles the tone output (R50). -/
def ToneTimer.underflow (t : ToneTimer) : ToneTimer :=
  if t.running then { t with counter := t.reload, output := !t.output } else t

/-- TONE_UNDERFLOW (R50). -/
def execToneUnderflow (s : State) : Host.Outcome State Fault Refusal :=
  .next (outside (fun s => s.setTimers { s.timers with tone := s.timers.tone.underflow }) s)

/-- PT2-high's underflow: P taken again, and the pending compare taken into Q (R51, R52). -/
def Dimmer.underflow (d : Dimmer) : Dimmer :=
  if d.running then { d with counter := d.p, q := d.pendingCompare.getD d.q, pendingCompare := none } else d

/-- DIMMER_UNDERFLOW (R52). -/
def execDimmerUnderflow (s : State) : Host.Outcome State Fault Refusal :=
  .next (outside (fun s => s.setTimers { s.timers with dimmer := s.timers.dimmer.underflow }) s)

/-- The counter comes down to the compare: the line goes to the lit level (R51). -/
def Dimmer.reachCompare (d : Dimmer) : Dimmer :=
  if d.running && decide (d.q ≤ d.p) && decide (d.q < d.counter) then { d with counter := d.q } else d

/-- DIMMER_COMPARE_REACHED (R51). -/
def execDimmerCompareReached (s : State) : Host.Outcome State Fault Refusal :=
  .next (outside (fun s => s.setTimers { s.timers with dimmer := s.timers.dimmer.reachCompare }) s)

end Sys2Proof.Machine
end

