-- ==== Sys2Proof/Machine/FrameCommands.lean ====
section
/-! DEFINITION. Meanings of the heard frames: each goes through the cases of R26 and then to the blocks of section 2.9. -/

namespace Sys2Proof.Machine

/-- A heard frame of a class and kind. -/
def heard (cls kind : Nat) (source : BitVec 4) (payload : List Byte) (deliver : State → State) (s : State) :
    Host.Outcome State Fault Refusal :=
  .next (outside (hearFrame ⟨cls, kind, source.toNat, payload⟩ deliver) s)

/-- A heard frame that does not make sense: peer list and clash check alone (R26). -/
def hearSenseless (f : WireFrame) (s : State) : State := if f.sensible then s else hearFrame f id s

/-- UNKNOWN_KIND_FRAME (R26). -/
def execUnknownKindFrame (cls : BitVec 2) (kind : BitVec 5) (source : BitVec 4) (payload : List Byte) (s : State) :
    Host.Outcome State Fault Refusal :=
  .next (outside (hearSenseless ⟨cls.toNat, kind.toNat, source.toNat, payload⟩) s)

/-- PRESENCE (R34). -/
def execPresence (source : BitVec 4) (payload : List Byte) (s : State) : Host.Outcome State Fault Refusal :=
  heard 3 1 source payload id s

/-- LANE_STOP (R41). -/
def execLaneStop (source : BitVec 4) (payload : List Byte) (s : State) : Host.Outcome State Fault Refusal :=
  heard 0 1 source payload (onLaneStop source.toNat payload) s

/-- LANE_RESUME (R42). -/
def execLaneResume (source : BitVec 4) (payload : List Byte) (s : State) : Host.Outcome State Fault Refusal :=
  heard 0 2 source payload resumeHeard s

/-- MOTOR_WARNING (R143). -/
def execMotorWarning (source : BitVec 4) (payload : List Byte) (s : State) : Host.Outcome State Fault Refusal :=
  heard 1 1 source payload (onMotorWarning source.toNat payload) s

/-- WARNING_SHOWN (R106). -/
def execWarningShown (source : BitVec 4) (payload : List Byte) (s : State) : Host.Outcome State Fault Refusal :=
  heard 1 2 source payload (onWarningShown source.toNat payload) s

/-- ROLLERS_STOPPED (R145). -/
def execRollersStopped (source : BitVec 4) (payload : List Byte) (s : State) : Host.Outcome State Fault Refusal :=
  heard 1 3 source payload (onRollersStopped source.toNat) s

/-- VEHICLE_ENTRY (R5, R6, R7). -/
def execVehicleEntry (source : BitVec 4) (payload : List Byte) (s : State) : Host.Outcome State Fault Refusal :=
  heard 2 3 source payload (registerVehicle (readEntry payload)) s

/-- VEHICLE_CANCEL (R8). -/
def execVehicleCancel (source : BitVec 4) (payload : List Byte) (s : State) : Host.Outcome State Fault Refusal :=
  heard 2 2 source payload (onVehicleCancel payload) s

/-- AXLE_EVENT (R9). -/
def execAxleEvent (source : BitVec 4) (payload : List Byte) (s : State) : Host.Outcome State Fault Refusal :=
  heard 2 4 source payload (onAxleEvent payload) s

/-- AXLE_LOAD (R13, R14). -/
def execAxleLoad (source : BitVec 4) (payload : List Byte) (s : State) : Host.Outcome State Fault Refusal :=
  heard 2 5 source payload (onAxleLoad payload) s

/-- BRAKE_RESULT (R13, R14). -/
def execBrakeResult (source : BitVec 4) (payload : List Byte) (s : State) : Host.Outcome State Fault Refusal :=
  heard 2 6 source payload (onBrakeResult payload) s

/-- SLIP_RESULT (R13, R14). -/
def execSlipResult (source : BitVec 4) (payload : List Byte) (s : State) : Host.Outcome State Fault Refusal :=
  heard 2 7 source payload (onSlipResult payload) s

/-- CERT_REQUEST (R150). -/
def execCertRequest (source : BitVec 4) (payload : List Byte) (s : State) : Host.Outcome State Fault Refusal :=
  heard 2 8 source payload (onCertRequest source.toNat payload) s

/-- REPRINT_REQUEST (R151). -/
def execReprintRequest (source : BitVec 4) (payload : List Byte) (s : State) : Host.Outcome State Fault Refusal :=
  heard 2 9 source payload (onReprintRequest source.toNat payload) s

/-- CERT_DONE (R18). -/
def execCertDone (source : BitVec 4) (payload : List Byte) (s : State) : Host.Outcome State Fault Refusal :=
  heard 2 10 source payload (onCertDone payload) s

/-- PRINT_ANSWER (R34, section 2.9: the peer list only). -/
def execPrintAnswer (source : BitVec 4) (payload : List Byte) (s : State) : Host.Outcome State Fault Refusal :=
  heard 2 11 source payload id s

/-- LANE_CLEAR (R20, R118, R129, R136, R162). -/
def execLaneClear (source : BitVec 4) (payload : List Byte) (s : State) : Host.Outcome State Fault Refusal :=
  heard 2 1 source payload onLaneClear s

end Sys2Proof.Machine
end

