-- ==== Sys2Proof/Machine/GuidanceCommands.lean ====
section
/-! DEFINITION. Meanings of the guidance unit's own commands (R133, R136, R139, R141, R145). -/

namespace Sys2Proof.Machine

/-- MINIMUM_SHOW_TIME_MET (R133). -/
def execMinimumShowTimeMet (s : State) : Host.Outcome State Fault Refusal := .next (named .minimumShow s)

/-- ENTRY_REJECTED_LIFE_END (R136). -/
def execEntryRejectedLifeEnd (s : State) : Host.Outcome State Fault Refusal := .next (named .rejectedLife s)

/-- WARNING_LIFE_END (R145). -/
def execWarningLifeEnd (s : State) : Host.Outcome State Fault Refusal := .next (named .warningLife s)

/-- SINGLE_COUNT_END (R141). -/
def execSingleCountEnd (s : State) : Host.Outcome State Fault Refusal := .next (named .singleEnd s)

/-- PANEL_FRAME_SENT (R139). -/
def execPanelFrameSent (s : State) : Host.Outcome State Fault Refusal := .next (outside panelSent s)

end Sys2Proof.Machine
end

