-- ==== Sys2Proof/Machine/PowerCommands.lean ====
section
/-! DEFINITION. Meanings of the power and start-up commands (R164, R171 to R174, R178). -/

namespace Sys2Proof.Machine

/-- POWER_ON: held in reset, every block at its power-on state (R172). -/
def execPowerOn (s : State) : Host.Outcome State Fault Refusal :=
  .next (if s.power = .off then holdReset [] s else s)

/-- POWER_OFF: an archive operation in flight ends wherever it stands, the volatile state is lost (R164). -/
def execPowerOff (left : List Residue) (s : State) : Host.Outcome State Fault Refusal :=
  .next (if s.power = .off then s else losePower left s)

/-- RESET_PIN: held in reset from any moment on (R172). -/
def execResetPin (left : List Residue) (s : State) : Host.Outcome State Fault Refusal :=
  .next (if s.power = .off then s else holdReset left s)

/-- RESET_RELEASE: the straps are read and the part runs (R172, R173). -/
def execResetRelease (station : BitVec 4) (role : BitVec 2) (printer : Bool) (s : State) : Host.Outcome State Fault Refusal :=
  .next (if s.power = .held then releaseReset station.toNat role.toNat printer s else s)

/-- MEMORY_READ_COMPLETE (R174). -/
def execMemoryReadComplete (c1 c2 c3 : List Byte) (s : State) : Host.Outcome State Fault Refusal :=
  .next (outside (memoryRead c1 c2 c3) s)

/-- ARCHIVE_SCAN_COMPLETE (R171). -/
def execArchiveScanComplete (s : State) : Host.Outcome State Fault Refusal := .next (outside scanDone s)

/-- START_UP_END (R178). -/
def execStartUpEnd (s : State) : Host.Outcome State Fault Refusal := .next (named .startUpEnd s)

end Sys2Proof.Machine
end

