-- ==== Sys2Proof/Machine/SequenceCommands.lean ====
section
/-! DEFINITION. Meanings of the roller and plate sequences' own commands (R83, R87, R98 to R126). -/

namespace Sys2Proof.Machine

/-- AXLE_ON_ROLLERS (R102). -/
def execAxleOnRollers (s : State) : Host.Outcome State Fault Refusal := .next (named .axleOn s)

/-- AXLE_LEAVES (R112). -/
def execAxleLeaves (s : State) : Host.Outcome State Fault Refusal := .next (named .axleLeaves s)

/-- FEEDBACK_COUNT_EXPIRY (R98). -/
def execFeedbackCountExpiry (s : State) : Host.Outcome State Fault Refusal := .next (named .feedbackCount s)

/-- WELDED_CONTACTOR (R99). -/
def execWeldedContactor (s : State) : Host.Outcome State Fault Refusal := .next (named .welded s)

/-- ROLL_DOWN_COMPLETE (R110). -/
def execRollDownComplete (s : State) : Host.Outcome State Fault Refusal := .next (named .rollDown s)

/-- WARN_HORN_EXPIRY (R105). -/
def execWarnHornExpiry (s : State) : Host.Outcome State Fault Refusal := .next (named .warnHorn s)

/-- WARNING_TIMEOUT (R106). -/
def execWarningTimeout (s : State) : Host.Outcome State Fault Refusal := .next (named .warnTimeout s)

/-- RUN_OUT_EXPIRY (R106). -/
def execRunOutExpiry (s : State) : Host.Outcome State Fault Refusal := .next (named .runOut s)

/-- SPIN_UP_TIMEOUT (R107). -/
def execSpinUpTimeout (s : State) : Host.Outcome State Fault Refusal := .next (named .spinUpTimeout s)

/-- TEST_TIME_LIMIT (R109). -/
def execTestTimeLimit (s : State) : Host.Outcome State Fault Refusal := .next (named .testLimit s)

/-- RELEASE (R87). -/
def execRelease (s : State) : Host.Outcome State Fault Refusal := .next (named .release s)

/-- SLIP_STOP (R83). -/
def execSlipStop (s : State) : Host.Outcome State Fault Refusal := .next (named .slipStop s)

/-- CROSSING_EXPIRY (R126). -/
def execCrossingExpiry (s : State) : Host.Outcome State Fault Refusal := .next (named .crossingTimeout s)

end Sys2Proof.Machine
end

