-- ==== Sys2Proof/Machine/Dispatch.lean ====
section
/-! DEFINITION. Every command to its meaning: one arm per constructor of Instr. -/

namespace Sys2Proof.Machine

def exec (i : Instr) (s : State) : Host.Outcome State Fault Refusal :=
  match i with
  | .powerOn => Sys2Proof.Machine.execPowerOn s
  | .powerOff left => Sys2Proof.Machine.execPowerOff left s
  | .resetPin left => Sys2Proof.Machine.execResetPin left s
  | .resetRelease station role printer => Sys2Proof.Machine.execResetRelease station role printer s
  | .memoryReadComplete copy1 copy2 copy3 => Sys2Proof.Machine.execMemoryReadComplete copy1 copy2 copy3 s
  | .archiveScanComplete => Sys2Proof.Machine.execArchiveScanComplete s
  | .startUpEnd => Sys2Proof.Machine.execStartUpEnd s
  | .tick32Hz samples first => Sys2Proof.Machine.execTick32Hz samples first s
  | .tick8Hz first => Sys2Proof.Machine.execTick8Hz first s
  | .tick1Hz => Sys2Proof.Machine.execTick1Hz s
  | .peerAbsent => Sys2Proof.Machine.execPeerAbsent s
  | .pulseEdge input => Sys2Proof.Machine.execPulseEdge input s
  | .pacingEvent timer => Sys2Proof.Machine.execPacingEvent timer s
  | .toneUnderflow => Sys2Proof.Machine.execToneUnderflow s
  | .dimmerUnderflow => Sys2Proof.Machine.execDimmerUnderflow s
  | .axleOnRollers => Sys2Proof.Machine.execAxleOnRollers s
  | .axleLeaves => Sys2Proof.Machine.execAxleLeaves s
  | .feedbackCountExpiry => Sys2Proof.Machine.execFeedbackCountExpiry s
  | .weldedContactor => Sys2Proof.Machine.execWeldedContactor s
  | .rollDownComplete => Sys2Proof.Machine.execRollDownComplete s
  | .warnHornExpiry => Sys2Proof.Machine.execWarnHornExpiry s
  | .warningTimeout => Sys2Proof.Machine.execWarningTimeout s
  | .runOutExpiry => Sys2Proof.Machine.execRunOutExpiry s
  | .spinUpTimeout => Sys2Proof.Machine.execSpinUpTimeout s
  | .testTimeLimit => Sys2Proof.Machine.execTestTimeLimit s
  | .crossingExpiry => Sys2Proof.Machine.execCrossingExpiry s
  | .paperWaitExpiry => Sys2Proof.Machine.execPaperWaitExpiry s
  | .converterStart => Sys2Proof.Machine.execConverterStart s
  | .rowComplete raws => Sys2Proof.Machine.execRowComplete raws s
  | .inputFaulted input => Sys2Proof.Machine.execInputFaulted input s
  | .oneOffConversionComplete raw => Sys2Proof.Machine.execOneOffConversionComplete raw s
  | .evaluationComplete => Sys2Proof.Machine.execEvaluationComplete s
  | .release => Sys2Proof.Machine.execRelease s
  | .slipStop => Sys2Proof.Machine.execSlipStop s
  | .frameStart => Sys2Proof.Machine.execFrameStart s
  | .lostArbitration => Sys2Proof.Machine.execLostArbitration s
  | .bitError => Sys2Proof.Machine.execBitError s
  | .frameSent => Sys2Proof.Machine.execFrameSent s
  | .frameDiscarded bits => Sys2Proof.Machine.execFrameDiscarded bits s
  | .unknownKindFrame cls kind source payload => Sys2Proof.Machine.execUnknownKindFrame cls kind source payload s
  | .presence source payload => Sys2Proof.Machine.execPresence source payload s
  | .laneStop source payload => Sys2Proof.Machine.execLaneStop source payload s
  | .laneResume source payload => Sys2Proof.Machine.execLaneResume source payload s
  | .motorWarning source payload => Sys2Proof.Machine.execMotorWarning source payload s
  | .warningShown source payload => Sys2Proof.Machine.execWarningShown source payload s
  | .rollersStopped source payload => Sys2Proof.Machine.execRollersStopped source payload s
  | .vehicleEntry source payload => Sys2Proof.Machine.execVehicleEntry source payload s
  | .vehicleCancel source payload => Sys2Proof.Machine.execVehicleCancel source payload s
  | .axleEvent source payload => Sys2Proof.Machine.execAxleEvent source payload s
  | .axleLoad source payload => Sys2Proof.Machine.execAxleLoad source payload s
  | .brakeResult source payload => Sys2Proof.Machine.execBrakeResult source payload s
  | .slipResult source payload => Sys2Proof.Machine.execSlipResult source payload s
  | .certRequest source payload => Sys2Proof.Machine.execCertRequest source payload s
  | .reprintRequest source payload => Sys2Proof.Machine.execReprintRequest source payload s
  | .certDone source payload => Sys2Proof.Machine.execCertDone source payload s
  | .printAnswer source payload => Sys2Proof.Machine.execPrintAnswer source payload s
  | .laneClear source payload => Sys2Proof.Machine.execLaneClear source payload s
  | .minimumShowTimeMet => Sys2Proof.Machine.execMinimumShowTimeMet s
  | .entryRejectedLifeEnd => Sys2Proof.Machine.execEntryRejectedLifeEnd s
  | .warningLifeEnd => Sys2Proof.Machine.execWarningLifeEnd s
  | .singleCountEnd => Sys2Proof.Machine.execSingleCountEnd s
  | .panelFrameSent => Sys2Proof.Machine.execPanelFrameSent s
  | .certificateJobStart => Sys2Proof.Machine.execCertificateJobStart s
  | .reprintJobStart => Sys2Proof.Machine.execReprintJobStart s
  | .printerReadyRise => Sys2Proof.Machine.execPrinterReadyRise s
  | .lineSent => Sys2Proof.Machine.execLineSent s
  | .paperOutActive => Sys2Proof.Machine.execPaperOutActive s
  | .paperOutInactive => Sys2Proof.Machine.execPaperOutInactive s
  | .eraseComplete left => Sys2Proof.Machine.execEraseComplete left s
  | .recordProgramComplete pass left => Sys2Proof.Machine.execRecordProgramComplete pass left s
  | .markProgramComplete pass => Sys2Proof.Machine.execMarkProgramComplete pass s
  | .busIdle => Sys2Proof.Machine.execBusIdle s
  | .becomesReceiver => Sys2Proof.Machine.execBecomesReceiver s
  | .dimmerCompareReached => Sys2Proof.Machine.execDimmerCompareReached s

end Sys2Proof.Machine
end

