-- ==== Sys2Proof/Machine/Outputs.lean ====
section
/-! DEFINITION. The output lines as functions of the state: motors, horn, lamp dimmer, blink, lamps, lane bus, panel and print lines
(section 12.4, R50, R51, R140, R142, R181, R182). -/

namespace Sys2Proof.Machine

/-- MOTOR_L and MOTOR_R, switched together (R97). -/
def State.motorLines (s : State) : Bool := s.roller.motors

/-- The horn gate (R142). -/
def State.hornGate (s : State) : Bool :=
  match s.guidance.horn.inForce with
  | .off => false
  | .continuous => true
  | .single => true
  | .slow => s.clock.level1
  | .fast => s.clock.level8 && s.clock.level1

/-- HORN: the tone output while the gate is on (R50, R142). -/
def State.hornLine (s : State) : Bool := s.hornGate && s.timers.tone.output

/-- LAMP_DIM, true at the lit level (R51). -/
def State.lampDimLine (s : State) : Bool := s.timers.dimmer.lit

/-- BLINK: the 2 Hz level from the end of start-up (R140). -/
def State.blinkLine (s : State) : Bool := s.started && s.clock.level2

/-- The lamp's place in the lamp byte (R182). -/
def Lamp.shift : Lamp → Nat
  | .red => 0 | .amber => 2 | .green => 4

/-- A lamp's code in the last frame sent: 0 OFF, 1 ON, 2 BLINK; OFF before the first frame (R137, R140). A frame counts as the last one
from the start of its sending (log entry 57). -/
def State.lampCode (s : State) (l : Lamp) : Nat :=
  match s.guidance.lastFrame with
  | some f => byteAt f 41 / 2 ^ l.shift % 4
  | none => 0

/-- A lamp is lit at the display module (R140). -/
def State.lampLit (s : State) (l : Lamp) : Bool :=
  s.lampDimLine && (s.lampCode l == 1 || (s.lampCode l == 2 && s.blinkLine))

/-- The bits of the frame being transmitted, start bit to end field; true is recessive (R24, R27). -/
def State.laneBits (s : State) : List Bool :=
  match s.bus.link with
  | .transmitting q => (q.frame.wire s.startUp.ownNumber).bits
  | _ => []

/-- A byte on a serial line: start bit, eight data bits least significant first, stop bit (R181). That the start bit is low, the stop bit
high and a data bit at its value's level is the usual line's (log entry 48). -/
def serialBits (b : Byte) : List Bool := false :: (byteBits b).reverse ++ [true]

/-- The bytes being sent on the panel line (R182). -/
def State.panelBytes (s : State) : List Byte := if s.guidance.sending then s.guidance.lastFrame.getD [] else []

/-- The bytes being sent on the print line (R156, R182). -/
def State.printLineBytes (s : State) : List Byte := (s.cert.sending.map (·.2)).getD []

/-- The bits on the panel line, frame byte by frame byte; the line idles at the level of the stop bit (R181, R182; log
entry 48). -/
def State.panelBits (s : State) : List Bool := s.panelBytes.flatMap serialBits

/-- The bits on the print line (R181, R182). -/
def State.printBits (s : State) : List Bool := s.printLineBytes.flatMap serialBits

end Sys2Proof.Machine
end

