-- ==== Sys2Proof/Safety.lean ====
section
/-! DEFINITION. What the statements speak of: when nothing is due, the frame a command stands for, what the accumulators and the two
sequences are said to do, and the laws of the manual that every step keeps. -/

namespace Sys2Proof.Machine

/-! ### Standing of a state -/

/-- The part runs and no event of its own is due. -/
def State.quiet (s : State) : Bool := s.isRunning && dueOrder.all fun d => !s.isDue d

/-- The part runs and an event is due, so that a command naming it takes it. -/
def State.ready (s : State) (d : Due) : Bool := s.isRunning && s.isDue d

/-- Nothing is due, the station is not sending, and the source is a station: a frame from it is taken in (R26). -/
def State.listens (s : State) (src : BitVec 4) : Bool := s.quiet && !s.bus.isSending && decide (src ≠ 0#4)

/-- The peer list's entry of a station. -/
def Bus.peer (b : Bus) (station : Nat) : Option Peer := b.peers.find? fun p => p.station == station

/-- The frame that a heard-frame command brings; UNKNOWN_KIND_FRAME brings one that does not make sense (R26). -/
def heardOf : Instr → Option WireFrame
  | .unknownKindFrame c k src p =>
    let f : WireFrame := ⟨c.toNat, k.toNat, src.toNat, p⟩
    if f.sensible then none else some f
  | .presence src p => some ⟨3, 1, src.toNat, p⟩
  | .laneStop src p => some ⟨0, 1, src.toNat, p⟩
  | .laneResume src p => some ⟨0, 2, src.toNat, p⟩
  | .motorWarning src p => some ⟨1, 1, src.toNat, p⟩
  | .warningShown src p => some ⟨1, 2, src.toNat, p⟩
  | .rollersStopped src p => some ⟨1, 3, src.toNat, p⟩
  | .vehicleEntry src p => some ⟨2, 3, src.toNat, p⟩
  | .vehicleCancel src p => some ⟨2, 2, src.toNat, p⟩
  | .axleEvent src p => some ⟨2, 4, src.toNat, p⟩
  | .axleLoad src p => some ⟨2, 5, src.toNat, p⟩
  | .brakeResult src p => some ⟨2, 6, src.toNat, p⟩
  | .slipResult src p => some ⟨2, 7, src.toNat, p⟩
  | .certRequest src p => some ⟨2, 8, src.toNat, p⟩
  | .reprintRequest src p => some ⟨2, 9, src.toNat, p⟩
  | .certDone src p => some ⟨2, 10, src.toNat, p⟩
  | .printAnswer src p => some ⟨2, 11, src.toNat, p⟩
  | .laneClear src p => some ⟨2, 1, src.toNat, p⟩
  | _ => none

/-! ### Frames -/

/-- The blocks of the state, one per field. -/
inductive Block where
  | power | startUp | pins | lane | bus | clock | filter | timers | counters | capture | eval | roller | plate | guidance | cert
  | archive | pending
  deriving DecidableEq, Repr

/-- A block stands in `t` as in `s`. -/
def State.sameIn (s t : State) : Block → Prop
  | .power => t.power = s.power
  | .startUp => t.startUp = s.startUp
  | .pins => t.pins = s.pins
  | .lane => t.lane = s.lane
  | .bus => t.bus = s.bus
  | .clock => t.clock = s.clock
  | .filter => t.filter = s.filter
  | .timers => t.timers = s.timers
  | .counters => t.counters = s.counters
  | .capture => t.capture = s.capture
  | .eval => t.eval = s.eval
  | .roller => t.roller = s.roller
  | .plate => t.plate = s.plate
  | .guidance => t.guidance = s.guidance
  | .cert => t.cert = s.cert
  | .archive => t.archive = s.archive
  | .pending => t.pending = s.pending

/-- From `s` to `t` nothing changes but in the blocks named. -/
def State.onlyChanges (bs : List Block) (s t : State) : Prop := ∀ b : Block, b ∉ bs → s.sameIn t b

/-- From `b` to `c` the lane bus controller changes in its transmit queue at most. -/
def Bus.onlyQueues (b c : Bus) : Prop := c = { b with queue := c.queue, nextStamp := c.nextStamp }

/-- A command completes: it answers a next state, and that state is as said. -/
def Completes (i : Instr) (s : State) (post : State → Prop) : Prop := ∃ t, exec i s = .next t ∧ post t

/-- A frame asked for between `s` and `t` stands in the queue of `t`, unless the queue refuses or is full (R30, R31). -/
def State.queues (s t : State) (f : LaneFrame) : Prop :=
  s.bus.canQueue = true → t.bus.queue.length < 8 → ∃ q ∈ t.bus.queue, q.frame = f

/-- The slots that an archive operation does not touch. -/
def ArchiveOp.spares (op : ArchiveOp) (i : Nat) : Bool :=
  match op with
  | .idle => true
  | .programRecord slot _ => decide (i ≠ slot)
  | .programMark slot _ _ => decide (i ≠ slot)
  | .erasing block _ _ => decide (i / Config.blockSlots ≠ block)

/-- A slot can answer for a certificate number: its row is RECORD with the number, and its block is not under erase (R169). -/
def Archive.offers (a : Archive) (n : CertNo) (slot : Nat) : Prop :=
  slot < Config.slotCount ∧ (a.row slot).state = .record ∧ (a.row slot).number = some n ∧
  ∀ block c entered, a.op = .erasing block c entered → slot / 8 ≠ block

/-- The samples change the accepted level of one line and of no other (R47). -/
def State.onlyLine (s : State) (x : Samples) (l : Line) : Prop :=
  (∀ m : Line, m ≠ l → lineLevel x m = lineLevel s.filter.accepted m) ∧ lineLevel x l = lineLevel s.filter.last l ∧
  lineLevel x l ≠ lineLevel s.filter.accepted l

/-- A stream's number. -/
def StreamId.num : StreamId → Nat
  | .s0 => 0 | .s1 => 1 | .s2 => 2 | .s3 => 3

/-- Every result that R16 asks for stands in an entry; `slip`: slip is required. -/
def Entry.resultsAllIn (e : Entry) (slip : Prop) : Prop :=
  (∀ a ∈ e.axles, a.load.isSome = true ∧ a.service.isSome = true) ∧
  (∀ k ∈ e.parkingSet, ((e.axle? k).bind (·.parking)).isSome = true) ∧
  (slip → ∀ a ∈ e.axles, a.slip.isSome = true)

/-- The own role is PLATE, or a PLATE stands in the peer list (R16). -/
def State.asksForSlip (s : State) : Prop := s.startUp.role = .plate ∨ ∃ q ∈ s.bus.peers, q.role = some .plate

/-- The frames by which a crossing reports its axle: AXLE_EVENT and SLIP_RESULT. -/
def LaneFrame.reportsAxle : LaneFrame → Bool
  | .axleEvent _ _ _ _ | .slipResult _ _ _ => true
  | _ => false

/-- Between `s` and `t` no axle report is put into the transmit queue. -/
def State.reportsNoAxle (s t : State) : Prop :=
  ∀ q ∈ t.bus.queue, q.frame.reportsAxle = true → q ∈ s.bus.queue

/-! ### What the sequences and the accumulators are said to do -/

/-- The roller sequence enters WARN for a test kind, with all that its entry does (R105); the held record and result written are cleared
there (log entry 12). -/
def State.entersWarn (s t : State) (kind : TestKind) : Prop :=
  t.roller.phase = .warn ∧ t.roller.kind = kind ∧ t.roller.fixed = s.roller.fixed ∧ t.roller.motors = s.roller.motors ∧ t.lane = s.lane ∧
  t.roller.awaited = (s.bus.peers.filter fun p => p.role = some .panel).map (·.station) ∧
  t.timers.seqTimer = ⟨true, if t.roller.awaited = [] then 24 else 16, false⟩ ∧
  s.queues t (.motorWarning s.roller.axle.ticket s.roller.axle.axle kind) ∧
  t.guidance.isRaised .motorsStarting = true ∧ t.guidance.isRaised .applyBrake = false ∧
  t.guidance.isRaised .applyParking = false ∧ t.guidance.isRaised .axleResult = false ∧
  t.roller.held = none ∧ t.roller.resultWritten = false

/-- The roller sequence enters EXIT, the axle still fixed (R112). -/
def State.entersExit (s t : State) : Prop :=
  t.roller.phase = .exit ∧ t.roller.fixed = s.roller.fixed ∧ t.roller.wheelCount = 0 ∧ t.guidance.isRaised .driveOff = true ∧
  t.guidance.isRaised .axleResult = false ∧ t.guidance.isRaised .applyBrake = false ∧ t.guidance.isRaised .applyParking = false

/-- The fixed axle is in the parking set of its entry and holds no parking result yet (R111). -/
def State.parkingTestOwed (s : State) : Prop :=
  ∃ e, s.lane.find s.roller.axle.ticket = some e ∧ s.roller.axle.axle ∈ e.parkingSet ∧
    (e.axle? s.roller.axle.axle).bind (·.parking) = none

/-- The measurement of a crossing is given up: gate closed, S0 OFF, the crossing's context ended with its peak cleared. -/
def State.givesUpMeasuring (s t : State) : Prop :=
  t.capture.gateOpen = false ∧ t.capture.s0.running = false ∧ t.capture.s0.config.trigger = .off ∧
  (s.eval.context = .crossing → t.eval.context = .noContext ∧ t.eval.peak = none)

/-- A measuring crossing goes on unmeasured, its axle, report exit and phase timer standing (R128). -/
def State.goesOnUnmeasured (s t : State) : Prop :=
  t.plate = { s.plate with measure := .unmeasured } ∧ s.givesUpMeasuring t ∧ t.timers.seqTimer = s.timers.seqTimer ∧ s.reportsNoAxle t

/-- No FULL page of a run of S0 stands in a buffer other than the one whose page the slot holds, and S0 does not run: the run is drained
once that page is evaluated (R88). -/
def State.lastPageInSlot (s : State) (p : Page) (run : Nat) : Prop :=
  s.capture.s0.running = false ∧
  ∀ inB : Bool, ¬(p.stream = .s0 ∧ p.inB = inB) → (s.capture.s0.buffer inB).state = .full → (s.capture.s0.buffer inB).run ≠ run

/-- A row of a test page in engineering units (R80). -/
def Calibration.units (k : Calibration) (e : Eval) (r : Row) : LiveRow where
  fL := min 6000 ((r.value 0 - (e.zt.getD ⟨0, 0⟩).l) * k.gfL / 1024 - (e.rr.getD ⟨0, 0⟩).l)
  fR := min 6000 ((r.value 1 - (e.zt.getD ⟨0, 0⟩).r) * k.gfR / 1024 - (e.rr.getD ⟨0, 0⟩).r)
  p := if e.test.pressure then some (min 1500 ((r.value 2 - k.zp) * k.gp / 1024)) else none

/-- The accumulators after the rows of a page, taken in page order (R84). -/
def Page.feeds (p : Page) (k : Calibration) (e : Eval) (testing : Bool) : TestAcc :=
  p.rows.zipIdx.foldl (fun a x => a.takeRow (k.units e x.1) x.1.stampL x.1.stampR testing p.gap (x.2 == 0)) e.acc

/-- What a row of force `f` does to one side: Fmax and p@max (R84), the imbalance at the last rise (R85), the revolution in progress and
the greatest ovality (R86). `gapStart`: the row is the first of a page marked GAP. -/
def SideAcc.takesRow (a b : SideAcc) (stamp f : Nat) (p runImb : Option Nat) (rowNo : Nat) (gap gapStart : Bool) : Prop :=
  b.fmax = max a.fmax f ∧
  (a.fmax < f → b.pAtMax = p ∧ b.imbAtRise = runImb ∧ b.riseRow = rowNo) ∧
  (f ≤ a.fmax → b.pAtMax = a.pAtMax ∧ b.imbAtRise = a.imbAtRise ∧ b.riseRow = a.riseRow) ∧
  (a.rev = none → b.rev = some ⟨stamp, false, !gap, f, f⟩ ∧ b.oval = a.oval) ∧
  ∀ r, a.rev = some r →
    (stamp = r.number → b.oval = a.oval ∧
      b.rev = some { r with clean := r.clean && !gapStart, low := min r.low f, high := max r.high f }) ∧
    (stamp ≠ r.number → stamp = (r.number + 1) % 256 → b.rev = some ⟨stamp, true, !gap, f, f⟩ ∧
      (r.opened = true ∧ r.clean = true ∧ gapStart = false ∧ 100 ≤ r.low →
        b.oval = some (max (a.oval.getD 0) (100 * (r.high - r.low) / r.high))) ∧
      (r.opened = false ∨ r.clean = false ∨ gapStart = true ∨ r.low < 100 → b.oval = a.oval)) ∧
    (stamp ≠ r.number → stamp ≠ (r.number + 1) % 256 → b.rev = some ⟨stamp, false, !gap, f, f⟩ ∧ b.oval = a.oval)

/-- A release row, with the running Fmax of each side, this row included (R87). -/
def LiveRow.isRelease (v : LiveRow) (fmaxL fmaxR : Nat) : Prop :=
  (v.fR < v.fL ∧ v.fL < fmaxL / 2) ∨ (v.fL < v.fR ∧ v.fR < fmaxR / 2) ∨
  (v.fL = v.fR ∧ fmaxL < fmaxR ∧ v.fR < fmaxR / 2) ∨ (v.fL = v.fR ∧ fmaxR ≤ fmaxL ∧ v.fL < fmaxL / 2)

/-- A side's p@max lets its Fmax be referenced to a reference pressure (R90). -/
def referable (p pref : Nat) : Prop := 60 ≤ p ∧ pref - 40 ≤ 4 * (p - 40)

/-- A peak with one more displacement: the greater magnitude, the first of equals (R95). -/
def peakWith (peak : Option Int) (x : Int) : Option Int :=
  match peak with
  | none => some x
  | some y => if y.natAbs < x.natAbs then some x else some y

/-- The displacement of a row in hundredths of a mm (R95). -/
def Calibration.moved (k : Calibration) (r : Row) : Int :=
  max (-2000) (min 2000 (Int.tdiv (((r.value 0 : Int) - k.zs) * k.gs) 1024))

/-- The head REPRINT job ends: answered PRINTED, PRINTING lowered, the job out of the queue, nothing closed and no CERT_DONE queued (R160). -/
def State.endsReprint (s t : State) (j : Job) (n : CertNo) : Prop :=
  (j.requester ≠ 0 → s.queues t (.printAnswer j.requester (.certificate n) .printed)) ∧ t.lane = s.lane ∧
  (∀ q ∈ t.bus.queue, (q.frame.cls, q.frame.kind) = (2, 10) → q ∈ s.bus.queue) ∧
  t.cert.source = none ∧ t.cert.output = [] ∧ t.guidance.isRaised .printing = false ∧
  ∃ more, t.cert.jobs = s.cert.jobs.tail ++ more ∧ ∀ x ∈ more, x.requester = 0 ∧ x.state = .queued

/-- The head REPRINT job, its final page passed, stays at the head until its mark is reported (R160). -/
def State.awaitsItsMark (s t : State) : Prop :=
  t.cert.jobs = s.cert.jobs ∧ t.cert.output = [] ∧ t.cert.source = s.cert.source ∧ t.guidance = s.guidance ∧ t.lane = s.lane ∧
  t.bus = s.bus

/-! ### Commands by kind -/

/-- The commands that name an event the part comes to by itself, with that event (log entry 1). -/
def namedEvents : List (Instr × Due) :=
  [(.startUpEnd, .startUpEnd), (.peerAbsent, .peerAbsent), (.axleOnRollers, .axleOn), (.axleLeaves, .axleLeaves),
   (.feedbackCountExpiry, .feedbackCount), (.weldedContactor, .welded), (.rollDownComplete, .rollDown),
   (.warnHornExpiry, .warnHorn), (.warningTimeout, .warnTimeout), (.runOutExpiry, .runOut), (.spinUpTimeout, .spinUpTimeout),
   (.testTimeLimit, .testLimit), (.crossingExpiry, .crossingTimeout), (.paperWaitExpiry, .paperWait),
   (.converterStart, .converterStart), (.release, .release), (.slipStop, .slipStop), (.minimumShowTimeMet, .minimumShow),
   (.entryRejectedLifeEnd, .rejectedLife), (.warningLifeEnd, .warningLife), (.singleCountEnd, .singleEnd),
   (.certificateJobStart, .certificateStart), (.reprintJobStart, .reprintStart)] ++
  (List.finRange 8).map fun n => (.inputFaulted n, .inputFaulted n.val)

/-- The commands that act while the part is unpowered or held in reset. -/
def actsUnpowered : Instr → Bool
  | .powerOn | .powerOff _ | .resetPin _ | .resetRelease _ _ _ => true
  | .printerReadyRise | .paperOutActive | .paperOutInactive => true
  | _ => false

/-! ### Laws (each an invariant of every step) -/

/-- The phases in which the motors run (R97). -/
def Phase.turns : Phase → Bool
  | .spinUp | .zero | .test => true
  | _ => false

/-- The motor law of R97, with what makes it last: the sequence is in IDLE while the lane is stopped (R117), under a fault hold (R114),
and where it takes no event (R96); start-up ends once (R172). -/
def State.motorLaw (s : State) : Bool :=
  (!s.roller.motors || (s.roller.phase.turns && !s.bus.latch.stopped && s.rollerActive)) &&
  (!(s.bus.latch.stopped || s.roller.faultHold.isSome || !s.rollerActive) || s.roller.phase == .idle) &&
  (!s.startUp.endDue || !s.startUp.ended)

/-- The transmit queue's laws: at most 8 frames (R31), empty in STARTING and LISTEN_ONLY (R30, R40); with what makes them last: no
READY or DEGRADED before start-up has ended, and start-up ends once (R172). -/
def State.queueLaw (s : State) : Bool :=
  decide (s.bus.queue.length ≤ Config.queueSize) && (s.bus.canQueue || s.bus.queue.isEmpty) &&
  (s.startUp.ended || !s.bus.canQueue) && (!s.startUp.endDue || !s.startUp.ended)

/-- The peer list's laws: stations in rising order, at most 14 of the numbers 1 to 15, the own number never among them (R34, R36); with what
makes them last: no station is listed before the straps are read (R172, R173). -/
def State.peerLaw (s : State) : Bool :=
  decide ((s.bus.peers.map (·.station)).Pairwise (· < ·)) && decide (s.bus.peers.length ≤ Config.peerListSize) &&
  (s.bus.peers.all fun p => decide (1 ≤ p.station) && decide (p.station ≤ 15) && decide (p.station ≠ s.startUp.ownNumber)) &&
  (s.isRunning || s.bus.peers.isEmpty)

/-- The vehicle table's laws: at most 4 entries, no ticket twice, none with ticket 0 (R1). -/
def State.tableLaw (s : State) : Bool :=
  decide (s.lane.entries.length ≤ Config.tableSize) && decide (s.lane.entries.map (·.ticket)).Nodup &&
  s.lane.entries.all fun e => e.ticket ≠ 0

/-- The print job queue's laws: at most 4 jobs, those behind the head QUEUED (R147). -/
def State.jobLaw (s : State) : Bool :=
  decide (s.cert.jobs.length ≤ Config.jobQueueSize) && s.cert.jobs.tail.all fun j => j.state == .queued

/-- The prompt set's laws: no prompt twice, LANE_READY always there and RAISED (R130, R133). -/
def State.promptLaw (s : State) : Bool :=
  decide (s.guidance.prompts.map (·.prompt)).Nodup && s.guidance.isRaised .laneReady

/-- The archive's laws: 32 slots, a row for each, the write position one of them, at most 4 requests waiting (R163, R164, R166). -/
def State.archiveLaw (s : State) : Bool :=
  decide (s.archive.storage.length = Config.slotCount) && decide (s.archive.table.length = Config.slotCount) &&
  decide (s.archive.writePos < Config.slotCount) && decide (s.archive.requests.length ≤ Config.requestListSize)

/-- A stream's buffer laws: at most one buffer is FILLING, and only while the stream runs in PAGE mode and waits for none; only such a
stream waits (R59, R60, R67, R69). -/
def Stream.bufferLaw (x : Stream) : Bool :=
  let pages := x.running && x.config.mode == .page
  let fillsA := x.bufA.state == .filling
  let fillsB := x.bufB.state == .filling
  !(fillsA && fillsB) && (!(fillsA || fillsB) || (pages && !x.waiting)) && (!x.waiting || pages)

/-- The capture chain's laws: while the evaluation unit holds no page no buffer is FULL (R69), the FAULTED inputs and the one-off requests
stand in rising order, and the streams keep their buffer laws. -/
def State.captureLaw (s : State) : Bool :=
  (s.eval.slot.isSome || s.capture.nextFull.isNone) && decide (s.capture.faulted.Pairwise (· < ·)) &&
  decide (s.capture.oneOffs.Pairwise (· < ·)) && allStreams.all fun i => (s.capture.stream i).bufferLaw

/-- The counts' laws: the lane clock's 8 bits (R44), the pulse counters' saturation (R53). -/
def State.countLaw (s : State) : Bool :=
  decide (s.clock.count < 256) && decide (s.counters.dl ≤ 4095) && decide (s.counters.dr ≤ 4095) &&
  decide (s.counters.sl ≤ 4095) && decide (s.counters.sr ≤ 4095)

end Sys2Proof.Machine
end

