-- ==== Sys2Proof/Certificates/Slice0/Obligations.lean ====
section
/-! DEFINITION. The statements for the provers. A frame named as queued stands in the queue unless the queue refuses it or is full
(`State.queues`); `Completes i s post` says that the command answers a next state, and that it is as said. -/

open Sys2Proof Sys2Proof.Machine

/-! ### The step, power and start-up -/

/-- tier 1. The command at the front is run by exec on the state with the queue's rest; on an empty queue a period of the 256 Hz base
passes while the part runs, and one at whose end a tick falls is left to the tick's command (the model's choice: log entries 6 and 16). -/
def Obligations.StepRunsTheQueue : Prop :=
  (∀ (s : State) (c : Instr) (rest : List Instr), step (s.setPending (c :: rest)) = exec c (s.setPending rest)) ∧
  ∀ s : State, s.pending = [] →
    (s.power = .running → (s.clock.count + 1) % 8 ≠ 0 → step s = .next (s.setClock ⟨s.clock.count + 1, true, true, true⟩)) ∧
    (s.power ≠ .running ∨ (s.clock.count + 1) % 8 = 0 → step s = .next s)

/-- tier 2. The model's choices (log entries 1, 4 and 9): a command that names an event the part comes to by itself changes nothing in a
state where no event is due; while the part is off or held in reset nothing acts but the power, the RESET pin and the printer's lines. -/
def Obligations.EventsWaitForTheirCause : Prop :=
  (∀ (s : State) (c : Instr) (d : Due), (c, d) ∈ namedEvents → s.quiet = true → exec c s = .next s) ∧
  ∀ (s : State) (c : Instr), (s.power = .off ∨ s.power = .held) → actsUnpowered c = false → exec c s = .next s

/-- tier 1. Reset leaves what the rules' reset values say, block by block: R1, R30, R34, R38, R41, R44, R47, R48, R50, R51, R53, R55,
R56, R58, R63, R76, R77, R96, R119, R130, R147, R164, R172; and the laws of the last section hold there. -/
def Obligations.ResetLeavesTheStatedValues : Prop :=
  State.reset.power = .held ∧ State.reset.lane = ⟨[], 0⟩ ∧ State.reset.bus.mode = .starting ∧ State.reset.bus.queue = [] ∧
  State.reset.bus.peers = [] ∧ State.reset.bus.latch = ⟨false, none, none, false⟩ ∧ State.reset.clock.count = 0 ∧
  State.reset.filter = ⟨Samples.inactive, Samples.inactive⟩ ∧ State.reset.timers.pt0 = ⟨0, 0, false⟩ ∧
  State.reset.timers.pt1 = ⟨0, 0, false⟩ ∧ State.reset.timers.tone = ⟨0, 0, false, false⟩ ∧
  State.reset.timers.dimmer.running = false ∧ State.reset.timers.dimmer.counter = 0 ∧ State.reset.timers.dimmer.p = 0 ∧
  State.reset.timers.dimmer.q = 0 ∧ State.reset.timers.seqTimer = ⟨false, 0, false⟩ ∧
  State.reset.timers.certTimer = ⟨false, 0, false⟩ ∧ State.reset.counters.sample = ⟨0, 0, 0, 0⟩ ∧
  State.reset.capture.gateOpen = false ∧ State.reset.capture.faulted = [] ∧ State.reset.capture.converter = .idle ∧
  State.reset.capture.s0.running = false ∧ State.reset.capture.s0.config.trigger = .off ∧ State.reset.eval.slot = none ∧
  State.reset.eval.context = .noContext ∧ State.reset.eval.calib = none ∧ State.reset.roller.phase = .idle ∧
  State.reset.roller.motors = false ∧ State.reset.roller.faultHold = none ∧ State.reset.plate.crossing = .clear ∧
  State.reset.plate.measure = .unmeasured ∧ State.reset.guidance.prompts.map (·.prompt) = [.laneReady] ∧
  State.reset.guidance.displayed = none ∧ State.reset.guidance.horn.inForce = .off ∧ State.reset.cert.jobs = [] ∧
  State.reset.cert.completed = [] ∧ State.reset.cert.source = none ∧ State.reset.cert.paperOut = false ∧
  State.reset.archive.op = .idle ∧ State.reset.archive.requests = [] ∧ State.reset.startUp.memoryDone = false ∧
  State.reset.startUp.scanDone = false ∧ State.reset.startUp.block = none ∧ State.reset.startUp.ended = false ∧
  State.reset.pending = [] ∧
  State.reset.motorLaw = true ∧ State.reset.queueLaw = true ∧ State.reset.tableLaw = true ∧ State.reset.jobLaw = true ∧
  State.reset.promptLaw = true ∧ State.reset.archiveLaw = true ∧ State.reset.captureLaw = true ∧ State.reset.countLaw = true ∧
  State.reset.peerLaw = true

/-- tier 2. R164, R172, R173: power-on, power-off, the RESET pin and its release. The archive's storage outlasts the first three, but for
the slots of an operation that they cut short; the release reads the straps and changes nothing else. The outside lines, which keep their
levels, and a POWER_ON of a powered part, which changes nothing, are the model's choices (log entries 4 and 9). -/
def Obligations.PowerAndResetKeepTheArchive : Prop :=
  ∀ s : State,
    (s.power = .off → s.archive.op = .idle →
      exec .powerOn s = .next (State.fresh .held s.archive.storage s.pins s.pending)) ∧
    (s.power ≠ .off → exec .powerOn s = .next s) ∧
    (∀ left : List Residue, s.power ≠ .off →
      Completes (.powerOff left) s (fun t => t = State.fresh .off t.archive.storage s.pins s.pending ∧
        (s.archive.op = .idle → t.archive.storage = s.archive.storage) ∧
        ∀ i, s.archive.op.spares i = true → t.archive.store i = s.archive.store i) ∧
      Completes (.resetPin left) s (fun t => t = State.fresh .held t.archive.storage s.pins s.pending ∧
        (s.archive.op = .idle → t.archive.storage = s.archive.storage) ∧
        ∀ i, s.archive.op.spares i = true → t.archive.store i = s.archive.store i)) ∧
    (∀ (station : BitVec 4) (role : BitVec 2) (printer : Bool), s.power = .held →
      Completes (.resetRelease station role printer) s (fun t => s.onlyChanges [.power, .startUp] t ∧ t.power = .running ∧
        t.startUp = { s.startUp with ownNumber := station.toNat, printer := printer, role := t.startUp.role } ∧
        (role = 0 → t.startUp.role = .roller) ∧ (role = 1 → t.startUp.role = .plate) ∧
        (role = 2 ∨ role = 3 → t.startUp.role = .panel)))

/-- tier 2. R163, R169, R171, R174, R175, R179, R183: the two reads of start-up. A copy is good when it has 128 bytes, its CRC-16 checks and
every field is in its range, and gives the fields that stand at its bytes; the first good copy becomes the block in use. The scan classifies
every slot, a record being read where its header checks and the CRC-16 over its header and body is the one that stands there, counts a
record's marks and places used, and the write position and the next sequence follow the newest number. The bytes under the CRC and a BAD row's marks and places are the model's (log
entries 13 and 42). -/
def Obligations.StartUpReadsTheMemoryAndTheArchive : Prop :=
  (∀ (c : List Byte) (b : StartUpBlock), goodCopy c = some b ↔
    c.length = 128 ∧ (crcBytes (c.take 126)).toNat = wordAt c 126 ∧
    (∀ g ∈ [b.gfL, b.gfR, b.gwL, b.gwR, b.gp, b.gs], 1 ≤ g ∧ g ≤ 8000) ∧ (∀ z ∈ [b.zwL, b.zwR, b.zp, b.zs], z ≤ 4095) ∧
    1 ≤ b.nnom ∧ b.nnom ≤ 1000 ∧ (∀ n ∈ [b.pprL, b.pprR], 1 ≤ n ∧ n ≤ 4095) ∧
    b.serial = c.take 10 ∧ b.laneName = (c.drop 10).take 16 ∧ b.approval = (c.drop 26).take 12 ∧
    b.gfL = wordAt c 38 ∧ b.gfR = wordAt c 40 ∧ b.gwL = wordAt c 42 ∧ b.gwR = wordAt c 44 ∧ b.zwL = wordAt c 46 ∧
    b.zwR = wordAt c 48 ∧ b.gp = wordAt c 50 ∧ b.zp = wordAt c 52 ∧ b.gs = wordAt c 54 ∧ b.zs = wordAt c 56 ∧
    b.nnom = wordAt c 58 ∧ b.pprL = wordAt c 60 ∧ b.pprR = wordAt c 62 ∧
    b.lampPeriod = byteAt c 64 ∧ b.dayDuty = byteAt c 65 ∧ b.nightDuty = byteAt c 66) ∧
  ∀ s : State, s.quiet = true →
    (∀ c1 c2 c3 : List Byte, s.startUp.memoryDone = false →
      Completes (.memoryReadComplete c1 c2 c3) s (fun t => s.onlyChanges [.startUp] t ∧ t.startUp.memoryDone = true ∧
        (∀ b, goodCopy c1 = some b → t.startUp.block = some (1, b)) ∧
        (∀ b, goodCopy c2 = some b → goodCopy c1 = none → t.startUp.block = some (2, b)) ∧
        (∀ b, goodCopy c3 = some b → goodCopy c1 = none → goodCopy c2 = none → t.startUp.block = some (3, b)) ∧
        (goodCopy c1 = none → goodCopy c2 = none → goodCopy c3 = none → t.startUp.block = none))) ∧
    (s.startUp.scanDone = false →
      Completes .archiveScanComplete s (fun t => s.onlyChanges [.startUp, .archive] t ∧ t.startUp.scanDone = true ∧
        t.archive.storage = s.archive.storage ∧ t.archive.table.length = s.archive.storage.length ∧
        (∀ i, i < s.archive.storage.length →
          (s.archive.store i = SlotStore.blank → t.archive.row i = ⟨.erased, none, 0, 0⟩) ∧
          (∀ n, (s.archive.store i).header = .checks n → ∀ c crc, (s.archive.store i).body = .written c crc →
            crc = crcBytes (certBytes n ++ c.body) → (s.archive.store i).content = some { c with number := n } ∧
            (t.archive.row i).state = .record ∧ (t.archive.row i).number = some n ∧
            (t.archive.row i).marks = ((s.archive.store i).marks.filter fun m => m ≠ .unused ∧ m ≠ .spoiled).length ∧
            (t.archive.row i).used = ((s.archive.store i).marks.filter fun m => m ≠ .unused).length) ∧
          (∀ n, (s.archive.store i).header = .checks n →
            (∀ c crc, (s.archive.store i).body = .written c crc → crc ≠ crcBytes (certBytes n ++ c.body)) →
            (s.archive.store i).content = none ∧ t.archive.row i = ⟨.bad, some n, 0, 0⟩) ∧
          ((∀ n, (s.archive.store i).header ≠ .checks n) → s.archive.store i ≠ SlotStore.blank →
            t.archive.row i = ⟨.bad, none, 0, 0⟩)) ∧
        ((∀ i, i < s.archive.storage.length → (t.archive.row i).number = none) →
          t.archive.writePos = 0 ∧ t.archive.nextSeq = 1) ∧
        (∀ i, i < s.archive.storage.length → ∀ n, (t.archive.row i).number = some n →
          (∀ k, k < s.archive.storage.length → ∀ m, (t.archive.row k).number = some m →
            ¬(1 ≤ (m.seq + 65535 - n.seq % 65535) % 65535 ∧ (m.seq + 65535 - n.seq % 65535) % 65535 ≤ 32767)) →
          (∀ k, k < s.archive.storage.length → i < k → ∀ m, (t.archive.row k).number = some m →
            ∃ j, j < s.archive.storage.length ∧ ∃ p, (t.archive.row j).number = some p ∧
              1 ≤ (p.seq + 65535 - m.seq % 65535) % 65535 ∧ (p.seq + 65535 - m.seq % 65535) % 65535 ≤ 32767) →
          t.archive.writePos = (i + 1) % 32 ∧ t.archive.nextSeq = (if 65535 ≤ n.seq then 1 else n.seq + 1))))

/-- tier 2. R176, R178: the end of start-up settles the bus mode by its table, hands the calibration out, and gives the panel its first
prompt; READY and DEGRADED queue a PRESENCE. -/
def Obligations.StartUpEndSettlesTheStation : Prop :=
  ∀ s : State, s.ready .startUpEnd = true →
    Completes .startUpEnd s (fun t => t.startUp = { s.startUp with ended := true, endDue := false } ∧
      (s.bus.mode = .listenOnly ∨ s.startUp.ownNumber = 0 → t.bus.mode = .listenOnly) ∧
      (s.bus.mode ≠ .listenOnly → s.startUp.ownNumber ≠ 0 → s.startUp.block.isSome = true → t.bus.mode = .ready) ∧
      (s.bus.mode ≠ .listenOnly → s.startUp.ownNumber ≠ 0 → s.startUp.block = none → t.bus.mode = .degraded) ∧
      (t.bus.canQueue = true → t.bus.queue.length < 8 → ∃ q ∈ t.bus.queue, q.frame = t.presenceFrame) ∧
      t.eval.calib = s.startUp.block.map (·.2.calibration) ∧ t.timers.dimmer.running = true ∧
      (s.promptLaw = true → t.guidance.displayed.isSome = true) ∧
      (s.startUp.block = none → t.timers.dimmer.p = 255 ∧ t.timers.dimmer.dayDuty = 255 ∧ t.timers.dimmer.nightDuty = 127) ∧
      (s.startUp.role = .roller → t.roller.phase = .idle ∧ (s.startUp.block.isSome = true →
        t.counters.revL.running = true ∧ t.counters.revR.running = true ∧ t.timers.pt1 = ⟨1999, 1999, true⟩)) ∧
      (s.startUp.role = .plate → s.startUp.block.isSome = true → t.timers.pt0 = ⟨499, 499, true⟩) ∧
      (s.startUp.role ≠ .panel → s.startUp.block = none → t.guidance.isRaised .calibrationMissing = true) ∧
      t.bus.peers = s.bus.peers ∧ t.archive = s.archive ∧ t.filter = s.filter ∧ t.clock = s.clock)

/-! ### The transmit queue and the link (chapter 2) -/

/-- tier 2. R30, R31, R32: a frame queued where there is room, and one that finds the queue full; the queue stands in order of class, then
queue stamp, behind a head that is being transmitted; a PRESENCE that is due replaces a waiting one in place and leaves the rest of
the queue (where two wait both take it: log entry 33), and one that finds none waiting is queued as any frame; in STARTING and LISTEN_ONLY
every request to queue is discarded. -/
def Obligations.QueueRequestsFollowTheirRules : Prop :=
  (∀ (s : State) (f : LaneFrame), s.bus.canQueue = true → s.bus.queue.length = 8 →
    (queueFrame f s).bus.link = s.bus.link ∧
    ((∀ x ∈ s.bus.queue, x.frame.cls ≤ f.cls) → (queueFrame f s).bus = s.bus) ∧
    ((∃ x ∈ s.bus.queue, f.cls < x.frame.cls) → ∃ v ∈ s.bus.queue, f.cls < v.frame.cls ∧
      (∀ x ∈ s.bus.queue, f.cls < x.frame.cls → x.stamp ≤ v.stamp) ∧
      (queueFrame f s).bus.queue.Perm (⟨f, s.bus.nextStamp⟩ :: s.bus.queue.erase v))) ∧
  (∀ (s : State) (f : LaneFrame), s.bus.canQueue = true → s.bus.queue.length < 8 →
    queueFrame f s = s.setBus { s.bus with queue := (queueFrame f s).bus.queue, nextStamp := s.bus.nextStamp + 1 } ∧
    (queueFrame f s).bus.queue.Perm (⟨f, s.bus.nextStamp⟩ :: s.bus.queue) ∧
    (∀ q, s.bus.queue.head? = some q → s.bus.sendingStamp = some q.stamp → (queueFrame f s).bus.queue.head? = some q ∧
      (s.bus.queue.tail.Pairwise (fun a b => b.before a = false) →
        (queueFrame f s).bus.queue.tail.Pairwise fun a b => b.before a = false))) ∧
  (∀ (s : State) (f : LaneFrame), s.bus.sendingStamp = none → s.bus.queue.Pairwise (fun a b => b.before a = false) →
    (queueFrame f s).bus.queue.Pairwise fun a b => b.before a = false) ∧
  ∀ s : State,
    (s.bus.mode = .starting ∨ s.bus.mode = .listenOnly → requestPresence s = s ∧ ∀ f, queueFrame f s = s) ∧
    (s.bus.canQueue = true → (∀ q ∈ s.bus.queue, q.frame.isPresence = true → s.bus.sendingStamp = some q.stamp) →
      requestPresence s = queueFrame s.presenceFrame s) ∧
    (s.bus.canQueue = true → (∃ q ∈ s.bus.queue, s.bus.replaceable q = true) →
      (requestPresence s).bus.queue.length = s.bus.queue.length ∧
      ∀ (k : Nat), k < s.bus.queue.length → ∀ q, s.bus.queue[k]? = some q →
        (requestPresence s).bus.queue[k]? =
          some (if q.frame.isPresence = true ∧ s.bus.sendingStamp ≠ some q.stamp then ⟨s.presenceFrame, q.stamp⟩ else q))

/-- tier 2. R22, R25, R27, R28, R29: the beginning and the three ends of a transmission, each with all that it changes; a discarded frame
is reported to no block; the bus becomes idle at 12 recessive bits; a start bit read on an idle bus makes the station a receiver. A
FRAME_START with nothing queued, and a FRAME_DISCARDED with bits that no receiver discards, change nothing (the model's choice: log
entry 9). -/
def Obligations.LinkEventsActOnTheControllerAlone : Prop :=
  ∀ s : State, s.quiet = true →
    (∀ q, s.bus.queue.head? = some q → s.bus.link = .quiet → s.bus.recessive = 12 →
      (s.bus.mode = .ready ∨ s.bus.mode = .degraded) →
      exec .frameStart s = .next (s.setBus { s.bus with link := .transmitting q, recessive := 0 })) ∧
    (s.bus.queue = [] → exec .frameStart s = .next s) ∧
    (∀ q, s.bus.link = .transmitting q →
      Completes .lostArbitration s (fun t => t = s.setBus { s.bus with link := .receiving, queue := t.bus.queue } ∧
        t.bus.queue.Perm s.bus.queue ∧
        (s.bus.queue.tail.Pairwise (fun a b => b.before a = false) → t.bus.queue.Pairwise fun a b => b.before a = false)) ∧
      exec .bitError s = .next (s.setBus { s.bus with link := .receiving, queue := s.bus.queue.erase q }) ∧
      Completes .frameSent s (fun t => 8 ≤ t.bus.recessive ∧ t.bus.recessive ≤ 12 ∧ t = s.setBus
        { s.bus with link := .quiet, recessive := t.bus.recessive, queue := s.bus.queue.erase q })) ∧
    (∀ bits, s.bus.isSending = false → receive bits = .discarded → Completes (.frameDiscarded bits) s (fun t =>
      t = s.setBus { s.bus with link := .quiet, recessive := t.bus.recessive } ∧ t.bus.recessive ≤ 12)) ∧
    (∀ bits, receive bits ≠ .discarded → exec (.frameDiscarded bits) s = .next s) ∧
    (s.bus.link = .quiet → exec .busIdle s = .next (s.setBus { s.bus with recessive := 12 })) ∧
    (s.bus.link = .quiet → s.bus.recessive = 12 →
      exec .becomesReceiver s = .next (s.setBus { s.bus with link := .receiving, recessive := 0 }))

/-! ### Heard frames (chapter 2) -/

/-- tier 2. R26, R34, R39: what every heard frame does to the link, the peer list and the bus mode, by its source. -/
def Obligations.HeardFramesKeepThePeerList : Prop :=
  ∀ (s : State) (i : Instr), s.quiet = true → s.bus.isSending = false → ∀ f, heardOf i = some f →
    Completes i s (fun t => t.bus.link = .quiet ∧
      (f.source = 0 → t = s.setBus { s.bus with link := .quiet, recessive := t.bus.recessive }) ∧
      (f.source ≠ 0 → f.source = s.startUp.ownNumber → t.bus.peers = s.bus.peers ∧ t.bus.mode = .listenOnly) ∧
      (f.source ≠ 0 → f.source ≠ s.startUp.ownNumber → t.bus.mode = s.bus.mode ∧
        (∀ n, n < 16 → n ≠ f.source → t.bus.peer n = s.bus.peer n) ∧
        (f.sensible = false ∨ (f.cls, f.kind) ≠ (3, 1) ∨ readPresence f.payload = none →
          (∀ p, s.bus.peer f.source = some p → t.bus.peer f.source = some { p with age := 0 }) ∧
          (s.bus.peer f.source = none → s.bus.peers.length < 14 →
            t.bus.peer f.source = some ⟨f.source, none, none, none, none, 0⟩)) ∧
        (s.bus.peer f.source = none → 14 ≤ s.bus.peers.length → t.bus.peers = s.bus.peers)))

/-- tier 2. R34, R116: a PRESENCE with values of the tables fills the sender's entry, and on a ROLLER station the role clash stands exactly
when the list then holds a ROLLER of lower number. -/
def Obligations.PresenceFillsThePeerEntry : Prop :=
  ∀ (s : State) (src : BitVec 4) (p : List Byte), s.listens src = true → src.toNat ≠ s.startUp.ownNumber → p.length = 6 →
    ((s.bus.peer src.toNat).isSome = true ∨ s.bus.peers.length < 14) →
    ∀ (role : PeerRole) (m : PresenceMode) (a : Activity) (q : PrinterState),
    byteAt p 0 = role.code → byteAt p 1 = m.code → byteAt p 2 = a.code → byteAt p 5 = q.code →
    Completes (.presence src p) s (fun t =>
      t.bus.peer src.toNat = some ⟨src.toNat, some role, some a, some (wordAt p 3), some q, 0⟩ ∧
      (s.rollerActive = true → (t.roller.roleClash = true ↔
        ∃ x ∈ t.bus.peers, x.role = some .roller ∧ x.station < s.startUp.ownNumber)) ∧
      t.lane = s.lane ∧ t.archive = s.archive ∧ t.capture = s.capture ∧ t.counters = s.counters ∧ t.clock = s.clock)

/-- tier 2. R26, section 2.9: an UNKNOWN_KIND_FRAME (`unknownKindFrame`), any heard frame of a wrong length, and a PRINT_ANSWER
(`printAnswer`) act on the peer list alone; from a station that the list holds they change nothing but the lane bus controller's own state. That a PRESENCE of a wrong length makes no
peer heard report there is the model's choice (log entry 54). -/
def Obligations.SenselessFramesReachNoBlock : Prop :=
  ∀ (s : State) (i : Instr), s.quiet = true → s.bus.isSending = false → ∀ f, heardOf i = some f → f.source ≠ 0 →
    f.source ≠ s.startUp.ownNumber → (s.bus.peer f.source).isSome = true → (f.sensible = false ∨ (f.cls, f.kind) = (2, 11)) →
    Completes i s (fun t => t = s.setBus t.bus ∧ t.bus.queue = s.bus.queue ∧ t.bus.latch = s.bus.latch ∧ t.bus.mode = s.bus.mode)

/-- tier 2. R41, R43, R117: a heard LANE_STOP with a cause of the table sets the latch, stops the motors and takes the roller sequence to
IDLE; with any other cause it leaves the latch. -/
def Obligations.LaneStopSetsTheLatch : Prop :=
  ∀ (s : State) (src : BitVec 4) (p : List Byte), s.listens src = true → s.motorLaw = true → p.length = 1 →
    Completes (.laneStop src p) s (fun t =>
      (∀ c : StopCause, byteAt p 0 = c.code →
        t.bus.latch = { s.bus.latch with stopped := true, cause := some c, station := some src.toNat } ∧
        t.roller.motors = false ∧ (s.rollerActive = true → t.roller.phase = .idle) ∧
        (s.bus.latch.stopped = false → t.guidance.isRaised .laneStopped = true)) ∧
      (2 < byteAt p 0 → t.bus.latch = s.bus.latch) ∧
      s.onlyChanges [.lane, .bus, .timers, .capture, .eval, .roller, .plate, .guidance, .cert] t)

/-- tier 2. R42: a heard LANE_RESUME, by the table's three rows outside STARTING and by its text in STARTING. -/
def Obligations.LaneResumeClearsOrAnswers : Prop :=
  ∀ (s : State) (src : BitVec 4), s.listens src = true → src.toNat ≠ s.startUp.ownNumber →
    Completes (.laneResume src []) s (fun t =>
      ((s.bus.mode = .starting ∨ (s.filter.accepted.stopIn = false ∧ (s.rollerActive && s.roller.welded) = false)) →
        t.bus.latch = { s.bus.latch with stopped := false, localCause := false } ∧
        (s.bus.latch.stopped = true → t.guidance.isRaised .laneStopped = false)) ∧
      (s.bus.mode ≠ .starting → s.filter.accepted.stopIn = true →
        t.bus.latch = { s.bus.latch with stopped := true, cause := some .stopInput, station := some s.startUp.ownNumber } ∧
        s.queues t (.laneStop .stopInput)) ∧
      (s.bus.mode ≠ .starting → s.filter.accepted.stopIn = false → (s.rollerActive && s.roller.welded) = true →
        t.bus.latch = { s.bus.latch with stopped := true, cause := some .contactor, station := some s.startUp.ownNumber } ∧
        s.queues t (.laneStop .contactor)) ∧
      t.lane.stampCounter = s.lane.stampCounter ∧ t.archive = s.archive ∧ t.counters = s.counters)

/-! ### The lane view (chapter 1) -/

/-- tier 2. R5: what a VEHICLE_ENTRY is refused for, and the ranges a checked one is brought into. -/
def Obligations.RegistrationIsCheckedAndRanged : Prop :=
  ∀ f : EntryFields,
    (f.check = none ↔ f.ticket = 0 ∨ f.axleCount = 0 ∨ 8 < f.axleCount ∨ f.cls = none ∨ f.brake = none ∨
      (f.brake = some .air ∧ f.pref = none)) ∧
    ∀ r, f.check = some r →
      r.ticket = f.ticket ∧ some r.cls = f.cls ∧ some r.brake = f.brake ∧ r.axleCount = f.axleCount ∧ r.time = f.time ∧
      (r.brake = .air → ∀ v, f.pref = some v → r.pref = some (if v < 300 then 300 else if 1000 < v then 1000 else v)) ∧
      (r.brake = .hydraulic → r.pref = none) ∧
      (f.weight = none ∨ f.weight = some 0 → r.weight = none) ∧
      (∀ v, f.weight = some v → v ≠ 0 → r.weight = some (if 60000 < v then 60000 else v)) ∧
      (∀ k, k ∈ r.parkingSet ↔ 1 ≤ k ∧ k ≤ f.axleCount ∧ f.parking.testBit (k - 1) = true) ∧
      (∀ k, k ∈ r.steeredSet ↔ 1 ≤ k ∧ k ≤ f.axleCount ∧ f.steered.testBit (k - 1) = true) ∧
      r.plate = f.plate.take 8

/-- tier 2. R1, R5, R6, R7: a VEHICLE_ENTRY that is refused, that makes an entry in a table with room, that takes the place of the oldest
CLOSED entry (or, with none, the oldest ABANDONED one), that finds no place, and that finds its ticket past REGISTERED. The new entry takes
the stamp counter's value; at 65535 the entries that stay are first renumbered from 0 in their order, and the counter is their number. That
the entry whose place is taken is discarded before the renumbering is the model's reading of R1 and R7 (log entry 26). -/
def Obligations.VehicleEntryIsTakenIn : Prop :=
  ∀ (s : State) (src : BitVec 4) (p : List Byte), s.listens src = true → s.tableLaw = true → 17 ≤ p.length → p.length ≤ 28 →
    (s.lane.entries.map (·.stamp)).Nodup → ∀ kept : Nat → List Entry, (∀ n, kept n = s.lane.entries.filter fun x => x.ticket ≠ n) →
    Completes (.vehicleEntry src p) s (fun t =>
      ((readEntry p).check = none → t.lane = s.lane ∧
        (t.guidance.find .entryRejected).map (·.fields) = some { ticket := some (readEntry p).ticket }) ∧
      ∀ r, (readEntry p).check = some r →
        (∀ e, s.lane.find r.ticket = some e → e.state ≠ .registered → t.lane = s.lane) ∧
        (s.lane.find r.ticket = none →
          (∀ n, (s.lane.entries.length < 4 ∧ n = 0) ∨ (s.lane.entries.length = 4 ∧ ∃ v ∈ s.lane.entries, v.ticket = n ∧
              (v.state = .closed ∨ (v.state = .abandoned ∧ ∀ x ∈ s.lane.entries, x.state ≠ .closed)) ∧
              ∀ x ∈ s.lane.entries, x.state = v.state → x.ticket ≠ n → v.stamp < x.stamp) →
            t.guidance.isRaised .laneFull = false ∧
            (s.lane.stampCounter < 65535 → t.lane.entries.length = (kept n).length + 1 ∧ t.lane.entries.dropLast = kept n ∧
              t.lane.stampCounter = s.lane.stampCounter + 1) ∧
            (65535 ≤ s.lane.stampCounter → t.lane.entries.length = (kept n).length + 1 ∧
              t.lane.stampCounter = (kept n).length + 1 ∧
              ∀ e ∈ kept n, { e with stamp := ((kept n).filter fun x => x.stamp < e.stamp).length } ∈ t.lane.entries.dropLast)) ∧
          (s.lane.entries.length = 4 → (∀ x ∈ s.lane.entries, x.state ≠ .closed ∧ x.state ≠ .abandoned) →
            t.lane = s.lane ∧ (t.guidance.find .laneFull).map (·.fields) = some { ticket := some r.ticket }) ∧
          ((∃ x ∈ s.lane.entries, x.state = .closed ∨ x.state = .abandoned) ∨ s.lane.entries.length < 4 →
            ∀ e, t.lane.entries.getLast? = some e →
              e.ticket = r.ticket ∧ e.stamp + 1 = t.lane.stampCounter ∧ e.state = .registered ∧ e.cls = r.cls ∧ e.brake = r.brake ∧
              e.axleCount = r.axleCount ∧ e.parkingSet = r.parkingSet ∧ e.steeredSet = r.steeredSet ∧ e.pref = r.pref ∧
              e.weight = r.weight ∧ e.time = r.time ∧ e.plate = r.plate ∧ e.platePassed = 0 ∧ e.rollerPassed = 0 ∧
              e.axles = List.replicate r.axleCount ⟨none, none, none, none⟩ ∧ e.serviceRatio = none ∧ e.parkingRatio = none ∧
              e.verdict = none ∧ e.certNo = none)))

/-- tier 2. R6: the rewrite of a REGISTERED entry: registration fields taken, order stamp kept, axle records and passed counts cut to the
new axle count, added axles empty. -/
def Obligations.RegisteredEntryIsRewritten : Prop :=
  ∀ (s : State) (src : BitVec 4) (p : List Byte), s.listens src = true → s.tableLaw = true → 17 ≤ p.length → p.length ≤ 28 →
    ∀ r, (readEntry p).check = some r → ∀ e, s.lane.find r.ticket = some e → e.state = .registered → e.axles.length = e.axleCount →
    Completes (.vehicleEntry src p) s (fun t => ∃ x, t.lane.find r.ticket = some x ∧
      x.stamp = e.stamp ∧ x.cls = r.cls ∧ x.brake = r.brake ∧ x.axleCount = r.axleCount ∧ x.parkingSet = r.parkingSet ∧
      x.steeredSet = r.steeredSet ∧ x.pref = r.pref ∧ x.weight = r.weight ∧ x.time = r.time ∧ x.plate = r.plate ∧
      x.platePassed = min e.platePassed r.axleCount ∧ x.rollerPassed = min e.rollerPassed r.axleCount ∧
      x.axles.length = r.axleCount ∧ x.certNo = e.certNo ∧
      (∀ k, e.axleCount ≤ k → k < r.axleCount → x.axles[k]? = some ⟨none, none, none, none⟩) ∧
      (∀ k, k < r.axleCount → ∀ a, e.axles[k]? = some a → ∃ b, x.axles[k]? = some b ∧ b.load = a.load ∧ b.parking = a.parking ∧
        b.slip = a.slip ∧ (r.brake = .air → b.service = a.service) ∧
        (r.brake = .hydraulic → b.service.map (·.figures.fref) = a.service.map fun _ => none)) ∧
      t.lane.stampCounter = s.lane.stampCounter ∧ (∀ n, n ≠ r.ticket → t.lane.find n = s.lane.find n))

/-- tier 2. R8, R118, R162: a VEHICLE_CANCEL of an open or COMPLETE entry makes it ABANDONED with its fields kept, and takes its ticket from
the completed list and the QUEUED jobs; any other cancel leaves the table. On a ROLLER station the cancel of the fixed ticket stops the
motors and sends the axle off in EXIT; under the fault hold it leaves the axle due for release at the next ABORT (the model's field
releaseOwed: log entry 40). -/
def Obligations.VehicleCancelAbandons : Prop :=
  ∀ (s : State) (src : BitVec 4) (p : List Byte), s.listens src = true → s.tableLaw = true → p.length = 2 →
    Completes (.vehicleCancel src p) s (fun t => t.lane.stampCounter = s.lane.stampCounter ∧
      t.lane.entries = s.lane.entries.map (fun e =>
        if e.ticket = wordAt p 0 ∧ (e.state = .registered ∨ e.state = .inLane ∨ e.state = .complete)
        then { e with state := .abandoned } else e) ∧
      (∀ e, s.lane.find (wordAt p 0) = some e → (e.state = .registered ∨ e.state = .inLane ∨ e.state = .complete) →
        (s.printerActive = true →
          wordAt p 0 ∉ t.cert.completed ∧ ∀ j ∈ t.cert.jobs, j.state = .queued → j.subject ≠ .ticket (wordAt p 0)) ∧
        (s.rollerActive = true → s.roller.fixed.map (·.ticket) = some (wordAt p 0) →
          (s.roller.faultHold = none → s.roller.phase ≠ .idle → s.roller.phase ≠ .exit →
            s.entersExit t ∧ t.roller.motors = false ∧ t.eval.context = .noContext ∧ t.eval.loads = none ∧ t.eval.zt = none ∧
            t.eval.rr = none ∧ (s.roller.motors = true → src.toNat ≠ s.startUp.ownNumber →
              s.queues t (.rollersStopped s.roller.axle.ticket s.roller.axle.axle))) ∧
          (s.roller.faultHold = none → s.roller.phase = .idle ∨ s.roller.phase = .exit →
            t.roller = { s.roller with roleClash := t.roller.roleClash, wheelCount := t.roller.wheelCount }) ∧
          (s.roller.faultHold.isSome = true → t.roller =
            { s.roller with releaseOwed := true, roleClash := t.roller.roleClash, wheelCount := t.roller.wheelCount }))) ∧
      (s.roller.fixed.map (·.ticket) ≠ some (wordAt p 0) ∨ s.lane.find (wordAt p 0) = none →
        t.roller = { s.roller with roleClash := t.roller.roleClash, wheelCount := t.roller.wheelCount }) ∧
      t.archive = s.archive ∧ t.counters = s.counters ∧ t.startUp = s.startUp)

/-- tier 2. R9: a heard AXLE_EVENT is ignored by its checks, or moves a REGISTERED entry to IN_LANE and, at a LEFT, raises the passed
count of the frame's role to the frame's axle number where that is greater; nothing else of the table changes. -/
def Obligations.AxleEventMovesTheEntry : Prop :=
  ∀ (s : State) (src : BitVec 4) (p : List Byte), s.listens src = true → s.tableLaw = true → p.length = 5 →
    Completes (.axleEvent src p) s (fun t => t.lane.stampCounter = s.lane.stampCounter ∧
      t.lane.entries = s.lane.entries.map (fun e =>
        if e.ticket = wordAt p 0 ∧ e.state ≠ .closed ∧ e.state ≠ .abandoned ∧ 1 ≤ byteAt p 2 ∧ byteAt p 2 ≤ e.axleCount ∧
            byteAt p 3 ≤ 1 ∧ byteAt p 4 ≤ 1
        then { e with
          state := if e.state = .registered then .inLane else e.state
          rollerPassed := if byteAt p 3 = 1 ∧ byteAt p 4 = 0 then max e.rollerPassed (byteAt p 2) else e.rollerPassed
          platePassed := if byteAt p 3 = 1 ∧ byteAt p 4 = 1 then max e.platePassed (byteAt p 2) else e.platePassed }
        else e))

/-- tier 2. R13, R14: the parts that an accepted AXLE_LOAD, BRAKE_RESULT or SLIP_RESULT writes, in their ranges, and what leaves a result
ignored, a test kind or an end reason outside its codes among it. -/
def Obligations.ResultsWriteTheirParts : Prop :=
  ∀ (s : State) (src : BitVec 4) (p : List Byte), s.listens src = true → s.tableLaw = true →
    ((wordAt p 0 = 0 ∨ s.lane.find (wordAt p 0) = none ∨ byteAt p 2 = 0 ∨
      (s.lane.find (wordAt p 0)).any (fun e => e.state = .closed ∨ e.state = .abandoned ∨ e.axleCount < byteAt p 2) = true) →
      Completes (.axleLoad src p) s (fun t => t.lane = s.lane) ∧ Completes (.brakeResult src p) s (fun t => t.lane = s.lane) ∧
      Completes (.slipResult src p) s (fun t => t.lane = s.lane)) ∧
    ((∀ k : TestKind, byteAt p 3 ≠ k.code) ∨ (∀ r : EndReason, byteAt p 4 ≠ r.code) →
      Completes (.brakeResult src p) s (fun t => t.lane = s.lane)) ∧
    ∀ e, s.lane.find (wordAt p 0) = some e → e.state ≠ .closed → e.state ≠ .abandoned → byteAt p 2 ≤ e.axleCount →
      ∀ a, e.axle? (byteAt p 2) = some a →
      (p.length = 7 → Completes (.axleLoad src p) s (fun t => ∃ x, t.lane.find (wordAt p 0) = some x ∧
        x.axle? (byteAt p 2) = some { a with load := some ⟨min 15000 (wordAt p 3), min 15000 (wordAt p 5)⟩ } ∧
        (∀ k, k ≠ byteAt p 2 → x.axle? k = e.axle? k) ∧ ∀ n, n ≠ wordAt p 0 → t.lane.find n = s.lane.find n)) ∧
      (p.length = 5 → Completes (.slipResult src p) s (fun t => ∃ x, t.lane.find (wordAt p 0) = some x ∧
        x.axle? (byteAt p 2) = some { a with slip := some (max (-200) (min 200 (signedAt p 3))) } ∧
        (∀ k, k ≠ byteAt p 2 → x.axle? k = e.axle? k) ∧ ∀ n, n ≠ wordAt p 0 → t.lane.find n = s.lane.find n)) ∧
      (p.length = 24 → ∀ (kind : TestKind) (reason : EndReason), byteAt p 3 = kind.code → byteAt p 4 = reason.code →
        Completes (.brakeResult src p) s (fun t => ∃ x, t.lane.find (wordAt p 0) = some x ∧ ∃ y, x.axle? (byteAt p 2) = some y ∧
          ∃ b, (if kind = .service then y.service else y.parking) = some b ∧
          (if kind = .service then y.parking = a.parking else y.service = a.service) ∧
          y.load = some ⟨min 15000 (wordAt p 5), min 15000 (wordAt p 7)⟩ ∧ y.slip = a.slip ∧ b.endReason = reason ∧
          b.figures.fmax = ⟨min 6000 (wordAt p 9), min 6000 (wordAt p 11)⟩ ∧
          b.figures.rr = ⟨min 6000 (wordAt p 20), min 6000 (wordAt p 22)⟩ ∧
          b.figures.imbalance = (if byteAt p 17 = 255 then none else some (min 100 (byteAt p 17))) ∧
          b.figures.ovalL = (if byteAt p 18 = 255 then none else some (min 100 (byteAt p 18))) ∧
          b.figures.ovalR = (if byteAt p 19 = 255 then none else some (min 100 (byteAt p 19))) ∧
          b.figures.fref = (if kind = .service ∧ e.brake = .air ∧ wordAt p 13 ≠ 65535 ∧ wordAt p 15 ≠ 65535
            then some ⟨min 9999 (wordAt p 13), min 9999 (wordAt p 15)⟩ else none) ∧
          (∀ k, k ≠ byteAt p 2 → x.axle? k = e.axle? k) ∧ ∀ n, n ≠ wordAt p 0 → t.lane.find n = s.lane.find n))

/-- tier 2. R6, R15, R16, R17, R19: after a load, a brake result or a slip written to an open entry, after the rewrite of a REGISTERED one,
and after a peer absent event for every open one, the entry is COMPLETE exactly when every axle holds a load and a service result, every
parking axle a parking result and, where slip is required, every axle a slip; its verdict is then formed and its ticket reported complete. -/
def Obligations.ResultsCompleteTheEntry : Prop :=
  (∀ (s : State) (src : BitVec 4) (p : List Byte), s.listens src = true → s.tableLaw = true →
    ∀ e, s.lane.find (wordAt p 0) = some e → (e.state = .registered ∨ e.state = .inLane) →
    (∀ i, (i = Instr.axleLoad src p ∧ p.length = 7) ∨ (i = .slipResult src p ∧ p.length = 5) ∨
        (i = .brakeResult src p ∧ p.length = 24 ∧ (∃ k : TestKind, byteAt p 3 = k.code) ∧ ∃ r : EndReason, byteAt p 4 = r.code) →
      1 ≤ byteAt p 2 → byteAt p 2 ≤ e.axleCount →
      Completes i s (fun t => ∃ x, t.lane.find (wordAt p 0) = some x ∧
        (x.resultsAllIn t.asksForSlip →
          x.state = .complete ∧ x.verdict.isSome = true ∧ (s.printerActive = true → wordAt p 0 ∈ t.cert.completed)) ∧
        (¬x.resultsAllIn t.asksForSlip → x.state = e.state ∧ x.verdict = e.verdict))) ∧
    (17 ≤ p.length → p.length ≤ 28 → e.state = .registered → ∀ r, (readEntry p).check = some r →
      Completes (.vehicleEntry src p) s (fun t => ∃ x, t.lane.find (wordAt p 0) = some x ∧
        (x.resultsAllIn t.asksForSlip →
          x.state = .complete ∧ x.verdict.isSome = true ∧ (s.printerActive = true → wordAt p 0 ∈ t.cert.completed)) ∧
        (¬x.resultsAllIn t.asksForSlip → x.state = .registered ∧ x.verdict = e.verdict)))) ∧
  ∀ s : State, s.tableLaw = true → s.ready .peerAbsent = true →
    Completes .peerAbsent s (fun t => t.lane.stampCounter = s.lane.stampCounter ∧ ∀ n e, s.lane.find n = some e →
      ∃ x, t.lane.find n = some x ∧
        ((e.state = .registered ∨ e.state = .inLane) → e.resultsAllIn t.asksForSlip →
          x = { e with state := .complete, verdict := x.verdict } ∧ x.verdict.isSome = true ∧
            (s.printerActive = true → n ∈ t.cert.completed)) ∧
        ((e.state ≠ .registered ∧ e.state ≠ .inLane) ∨ ¬e.resultsAllIn t.asksForSlip → x = e))

/-- tier 2. R18: a heard CERT_DONE closes an open or COMPLETE entry of its ticket with the frame's number and verdict and leaves every other;
the local close writes any entry of its ticket that is not ABANDONED. -/
def Obligations.ClosesFollowTheirTables : Prop :=
  ∀ (s : State), s.tableLaw = true →
    (∀ (src : BitVec 4) (p : List Byte), s.listens src = true → p.length = 6 →
      Completes (.certDone src p) s (fun t => t.lane.stampCounter = s.lane.stampCounter ∧ ∀ v : Verdict, byteAt p 5 = v.code →
        t.lane.entries = s.lane.entries.map (fun e =>
          if e.ticket = wordAt p 0 ∧ e.state ≠ .closed ∧ e.state ≠ .abandoned
          then { e with state := .closed, certNo := some ⟨byteAt p 2, wordAt p 3⟩, verdict := some v } else e))) ∧
    ∀ (ticket : Nat) (n : CertNo) (v : Verdict), (s.lane.closeLocal ticket n v).stampCounter = s.lane.stampCounter ∧
      (s.lane.closeLocal ticket n v).entries = s.lane.entries.map (fun e =>
        if e.ticket = ticket ∧ e.state ≠ .abandoned then { e with state := .closed, certNo := some n, verdict := some v } else e)

/-- tier 2. R20, R118, R129, R162: a heard LANE_CLEAR empties the vehicle table, returns the roller sequence to IDLE with its motors off
and no axle fixed, under the fault hold too (the model's reading of R118 against R96: log entry 59), and empties the certificate unit's
completed list and its QUEUED jobs; on a PLATE station a crossing is followed on without its report, or ended where it drains, and queues
nothing; latch, archive, counters and clock stand. -/
def Obligations.LaneClearSweepsTheLane : Prop :=
  ∀ (s : State) (src : BitVec 4), s.listens src = true →
    Completes (.laneClear src []) s (fun t => t.lane = ⟨[], 0⟩ ∧
      (s.rollerActive = true → t.roller.phase = .idle ∧ t.roller.motors = false ∧ t.roller.fixed = none) ∧
      (s.plateActive = true → s.reportsNoAxle t ∧ (s.plate.crossing ≠ .onPlate → t.plate = s.plate) ∧
        (s.plate.crossing = .onPlate → s.plate.measure = .measuring → s.givesUpMeasuring t ∧
          t.plate = { s.plate with measure := .unmeasured, reportExit := false } ∧ t.timers.seqTimer = s.timers.seqTimer) ∧
        (s.plate.crossing = .onPlate → s.plate.measure = .unmeasured → t.plate = { s.plate with reportExit := false } ∧
          t.timers.seqTimer = s.timers.seqTimer ∧ t.capture = s.capture) ∧
        (s.plate.crossing = .onPlate → s.plate.measure = .draining → t.plate = ⟨.clear, none, .unmeasured, false, false, s.plate.faultHold⟩ ∧
          t.timers.seqTimer = ⟨false, 0, false⟩ ∧
          (s.eval.context = .crossingDrain → t.eval.context = .noContext ∧ t.eval.peak = none))) ∧
      (s.printerActive = true → t.cert.completed = [] ∧ ∀ j ∈ t.cert.jobs, j.state ≠ .queued) ∧
      t.bus.latch = s.bus.latch ∧ t.archive = s.archive ∧ t.counters = s.counters ∧ t.clock = s.clock ∧
      t.guidance.isRaised .entryRejected = false ∧ t.guidance.isRaised .laneFull = false)

/-- tier 2. R12: the expected vehicle of a role: of the open entries with axles still to pass, the one of lowest stamp, with the axle
after its passed count; ticket 0, axle 1, where none qualifies. -/
def Obligations.ExpectedVehicleIsTheOldestOpen : Prop :=
  ∀ (v : LaneView) (role : MeasuringRole),
    ((∀ e ∈ v.entries, ¬((e.state = .registered ∨ e.state = .inLane) ∧ e.passed role < e.axleCount)) →
      v.expected role = ⟨0, 1⟩) ∧
    ∀ e ∈ v.entries, (e.state = .registered ∨ e.state = .inLane) → e.passed role < e.axleCount →
      (∀ x ∈ v.entries, (x.state = .registered ∨ x.state = .inLane) → x.passed role < x.axleCount → x ≠ e → e.stamp < x.stamp) →
      v.expected role = ⟨e.ticket, e.passed role + 1⟩

/-! ### Lane clock, filter, counters, timers (chapter 3) -/

/-- tier 2. R45, R46, R47: the four divided signals, each high in the second half of its period and ticking at each multiple of it; at a
32 Hz tick a line's accepted level takes the sample when the sample equals the last one, and each sample is kept; where no accepted level
changes, nothing but the filter and the lane clock changes. -/
def Obligations.TicksSampleTheLines : Prop :=
  (∀ d period, (d, period) ∈ [(Divided.hz32, 8), (.hz8, 32), (.hz2, 128), (.hz1, 256)] → ∀ n, n < 256 → ∀ x y z : Bool,
    ((⟨n, x, y, z⟩ : Clock).level d = true ↔ period / 2 ≤ n % period) ∧ (d ∈ ticksAt n ↔ n % period = 0)) ∧
  ∀ (s : State) (x : Samples) (first : List Line), s.quiet = true →
    Completes (.tick32Hz x first) s (fun t =>
      (∀ l : Line, lineLevel t.filter.last l = lineLevel x l ∧ lineLevel t.filter.accepted l =
        (if lineLevel x l = lineLevel s.filter.last l then lineLevel x l else lineLevel s.filter.accepted l)) ∧
      ((∀ l : Line, lineLevel x l = lineLevel s.filter.last l → lineLevel x l = lineLevel s.filter.accepted l) →
        s.onlyChanges [.clock, .filter] t) ∧
      t.clock.count % 8 = 0 ∧ t.power = s.power ∧ t.counters = s.counters ∧ t.pins = s.pins)

/-- tier 2. R41, R42, R43, R178: the stop input's two events outside STARTING, as the only line that changes; in STARTING its events act on
nothing but the filter, and an active input is taken as becoming active at the end of start-up. -/
def Obligations.StopInputSetsAndClearsTheLatch : Prop :=
  (∀ (s : State) (x : Samples) (first : List Line), s.quiet = true → s.motorLaw = true → s.onlyLine x .stopIn →
    Completes (.tick32Hz x first) s (fun t =>
      (s.bus.mode ≠ .starting →
        (x.stopIn = true → t.bus.latch = ⟨true, some .stopInput, some s.startUp.ownNumber, true⟩ ∧ t.roller.motors = false ∧
          s.queues t (.laneStop .stopInput)) ∧
        (x.stopIn = false → s.bus.latch.localCause = true →
          t.bus.latch = { s.bus.latch with stopped := false, localCause := false } ∧ s.queues t .laneResume)) ∧
      (x.stopIn = false → s.bus.latch.localCause = false → s.onlyChanges [.clock, .filter] t) ∧
      (s.bus.mode = .starting → x.stopIn = true → s.onlyChanges [.clock, .filter] t))) ∧
  ∀ s : State, s.ready .startUpEnd = true →
    Completes .startUpEnd s (fun t =>
      (s.filter.accepted.stopIn = true → t.bus.latch = ⟨true, some .stopInput, some s.startUp.ownNumber, true⟩ ∧
        (s.bus.latch.stopped = false → t.guidance.isRaised .laneStopped = true) ∧
        (t.bus.canQueue = true → t.bus.queue.length < 8 → ∃ q ∈ t.bus.queue, q.frame = .laneStop .stopInput)) ∧
      (s.filter.accepted.stopIn = false → t.bus.latch = s.bus.latch))

/-- tier 2. R54, R56, R102: at an 8 Hz tick the window counters are cleared and nothing of the revolution counters changes; a running
phase timer counts down, and at 0 it is IDLE with its expiry due; the wheel count of an unheld IDLE counts windows with both wheel
switches active. -/
def Obligations.WindowClosesAtTheTick : Prop :=
  ∀ (s : State) (first : List TickTaker), s.quiet = true →
    Completes (.tick8Hz first) s (fun t =>
      t.counters = { s.counters with dl := 0, dr := 0, sl := 0, sr := 0 } ∧ t.filter = s.filter ∧ t.clock.count % 32 = 0 ∧
      t.timers.certTimer = (if s.timers.certTimer.running = false then s.timers.certTimer
        else if s.timers.certTimer.remaining ≤ 1 then ⟨false, 0, true⟩
        else { s.timers.certTimer with remaining := s.timers.certTimer.remaining - 1 }) ∧
      (s.rollerActive = false ∨ s.roller.phase ≠ .spinUp →
        t.timers.seqTimer = (if s.timers.seqTimer.running = false then s.timers.seqTimer
          else if s.timers.seqTimer.remaining ≤ 1 then ⟨false, 0, true⟩
          else { s.timers.seqTimer with remaining := s.timers.seqTimer.remaining - 1 }) ∧
        t.roller.phase = s.roller.phase ∧ t.roller.motors = s.roller.motors ∧ t.lane = s.lane ∧ t.bus.latch = s.bus.latch) ∧
      (s.rollerActive = true → s.roller.phase = .idle → s.idleHeld = false → t.roller.wheelCount =
        (if s.filter.accepted.wheelL = true ∧ s.filter.accepted.wheelR = true then min 8 (s.roller.wheelCount + 1) else 0)) ∧
      t.plate = s.plate ∧ t.cert = s.cert ∧ t.archive = s.archive ∧ t.startUp = s.startUp)

/-- tier 2. R33, R35, R145, R172: a 1 Hz tick ages every peer by 1, asks for a PRESENCE with the station's fields, and makes the end of
start-up due once both reads are done; PEER_ABSENT removes the lowest station whose age has reached 5 from the list, which stands in
station order (`State.peerLaw`, kept by every step: EveryStepKeepsTheListLaws), and from the awaited set of WARN, and lowers its warning,
where no prompt stands twice (`State.promptLaw`, kept by every step: EveryStepKeepsThePromptCountAndCaptureLaws). -/
def Obligations.PeersAgeAndLeave : Prop :=
  ∀ s : State,
    (s.quiet = true →
      Completes .tick1Hz s (fun t => t.bus.peers = s.bus.peers.map (fun p => { p with age := p.age + 1 }) ∧
        t.bus.mode = s.bus.mode ∧ t.bus.latch = s.bus.latch ∧ s.queues t s.presenceFrame ∧
        t.startUp.endDue = (s.startUp.endDue || (s.startUp.memoryDone && s.startUp.scanDone && !s.startUp.ended)) ∧
        t.clock.count % 256 = 0 ∧ s.onlyChanges [.startUp, .bus, .clock, .guidance] t)) ∧
    (s.ready .peerAbsent = true → s.peerLaw = true →
      ∀ p ∈ s.bus.peers, 5 ≤ p.age → (∀ q ∈ s.bus.peers, 5 ≤ q.age → p.station ≤ q.station) →
        Completes .peerAbsent s (fun t => t.bus.peers = s.bus.peers.filter (fun q => q.station ≠ p.station) ∧
          (s.rollerActive = true → s.roller.phase = .warn → t.roller.awaited = s.roller.awaited.filter fun n => n ≠ p.station) ∧
          (s.promptLaw = true → (s.guidance.find .warningFromPeer).any (fun e => e.fields.station = some p.station) = true →
            t.guidance.isRaised .warningFromPeer = false) ∧
          t.bus.latch = s.bus.latch ∧ t.bus.mode = s.bus.mode ∧ t.roller.motors = s.roller.motors ∧ t.archive = s.archive ∧
          t.counters = s.counters ∧ t.clock = s.clock))

/-- tier 2. R53, R55: one edge counts one, saturating at 4095, in its own counter; nothing but an edge, an 8 Hz tick or the power changes
the four counters. An edge at a running revolution counter raises the position, and the edge that brings it to the compare sets it to 0
and raises the number, 255 passing to 0; a halted counter stands. -/
def Obligations.EdgesAreCounted : Prop :=
  (∀ s : State, s.quiet = true →
    Completes (.pulseEdge .dl) s (fun t => t.counters.revR = s.counters.revR ∧
      (s.counters.revL.running = false → t.counters.revL = s.counters.revL) ∧
      (s.counters.revL.running = true → s.counters.revL.position + 1 < s.counters.revL.compare →
        t.counters.revL = { s.counters.revL with position := s.counters.revL.position + 1 }) ∧
      (s.counters.revL.running = true → s.counters.revL.position + 1 = s.counters.revL.compare →
        t.counters.revL = { s.counters.revL with position := 0, number := (s.counters.revL.number + 1) % 256 })) ∧
    Completes (.pulseEdge .dr) s (fun t => t.counters.revL = s.counters.revL ∧
      (s.counters.revR.running = false → t.counters.revR = s.counters.revR) ∧
      (s.counters.revR.running = true → s.counters.revR.position + 1 < s.counters.revR.compare →
        t.counters.revR = { s.counters.revR with position := s.counters.revR.position + 1 }) ∧
      (s.counters.revR.running = true → s.counters.revR.position + 1 = s.counters.revR.compare →
        t.counters.revR = { s.counters.revR with position := 0, number := (s.counters.revR.number + 1) % 256 }))) ∧
  (∀ s : State, s.quiet = true →
    Completes (.pulseEdge .dl) s (fun t => t.counters.dl = min 4095 (s.counters.dl + 1) ∧ t.counters.dr = s.counters.dr ∧
      t.counters.sl = s.counters.sl ∧ t.counters.sr = s.counters.sr ∧ s.onlyChanges [.counters] t) ∧
    Completes (.pulseEdge .dr) s (fun t => t.counters.dr = min 4095 (s.counters.dr + 1) ∧ t.counters.dl = s.counters.dl ∧
      t.counters.sl = s.counters.sl ∧ t.counters.sr = s.counters.sr ∧ s.onlyChanges [.counters] t) ∧
    exec (.pulseEdge .sl) s = .next (s.setCounters { s.counters with sl := min 4095 (s.counters.sl + 1) }) ∧
    exec (.pulseEdge .sr) s = .next (s.setCounters { s.counters with sr := min 4095 (s.counters.sr + 1) })) ∧
  State.reset.counters.sample = ⟨0, 0, 0, 0⟩ ∧
  ∀ (s t : State) (c : Instr), exec c s = .next t → (∀ i, c ≠ .pulseEdge i) → (∀ f, c ≠ .tick8Hz f) →
    c ≠ .powerOn → (∀ l, c ≠ .powerOff l) → (∀ l, c ≠ .resetPin l) → t.counters.sample = s.counters.sample

/-- tier 2. R48, R49, R61: a pacing event reloads its timer and raises the pending count of each RUNNING stream of its trigger, except one
that waits for a buffer, one held off by another's exclusive page, and one whose count stands at 255. An event of a STOPPED timer changes
nothing (the model's choice: log entry 9). -/
def Obligations.PacingEventsRequestRows : Prop :=
  ∀ (s : State) (k : PacingTimer), s.quiet = true →
    (k = .pt0 → s.timers.pt0.running = true →
      Completes (.pacingEvent k) s (fun t => s.onlyChanges [.timers, .capture] t ∧
        t.timers = { s.timers with pt0 := { s.timers.pt0 with counter := s.timers.pt0.reload } })) ∧
    (k = .pt1 → s.timers.pt1.running = true →
      Completes (.pacingEvent k) s (fun t => s.onlyChanges [.timers, .capture] t ∧
        t.timers = { s.timers with pt1 := { s.timers.pt1 with counter := s.timers.pt1.reload } })) ∧
    ((k = .pt0 → s.timers.pt0.running = true) → (k = .pt1 → s.timers.pt1.running = true) →
      Completes (.pacingEvent k) s (fun t => ∀ i : StreamId, t.capture.stream i = { s.capture.stream i with
        requests := (s.capture.stream i).requests +
          (if (s.capture.stream i).running = true ∧
              ((k = .pt0 ∧ ((s.capture.stream i).config.trigger = .pt0 ∨
                ((s.capture.stream i).config.trigger = .gate ∧ s.capture.gateOpen = true))) ∨
               (k = .pt1 ∧ (s.capture.stream i).config.trigger = .pt1)) ∧
              (s.capture.stream i).waiting = false ∧ (∀ j ∈ allStreams, j ≠ i → (s.capture.stream j).holding = false) ∧
              (s.capture.stream i).requests < 255
            then 1 else 0) })) ∧
    ((k = .pt0 ∧ s.timers.pt0.running = false) ∨ (k = .pt1 ∧ s.timers.pt1.running = false) → exec (.pacingEvent k) s = .next s)

/-- tier 2. R50, R51, R52, R142: the underflows of the two halves of PT2, the dimmer's compare, and the horn line by the pattern in
force. An underflow of a STOPPED half changes nothing (the model's choice: log entry 9). -/
def Obligations.ToneAndDimmerFollowTheirTimers : Prop :=
  ∀ s : State, s.quiet = true →
    (s.timers.tone.running = true → exec .toneUnderflow s = .next (s.setTimers { s.timers with
      tone := { s.timers.tone with counter := s.timers.tone.reload, output := !s.timers.tone.output } })) ∧
    (s.timers.dimmer.running = true → exec .dimmerUnderflow s = .next (s.setTimers { s.timers with
      dimmer := { s.timers.dimmer with
        counter := s.timers.dimmer.p, pendingCompare := none
        q := match s.timers.dimmer.pendingCompare with
          | some v => v
          | none => s.timers.dimmer.q } })) ∧
    (s.timers.dimmer.running = true → s.timers.dimmer.q ≤ s.timers.dimmer.p → s.timers.dimmer.q < s.timers.dimmer.counter →
      Completes .dimmerCompareReached s (fun t => t.lampDimLine = true ∧
        t = s.setTimers { s.timers with dimmer := { s.timers.dimmer with counter := s.timers.dimmer.q } })) ∧
    (s.timers.tone.running = false → exec .toneUnderflow s = .next s) ∧
    (s.timers.dimmer.running = false → exec .dimmerUnderflow s = .next s ∧ s.lampDimLine = false) ∧
    (s.timers.dimmer.p < s.timers.dimmer.q → s.lampDimLine = false) ∧
    (s.hornLine = true ↔ s.timers.tone.output = true ∧
      (s.guidance.horn.inForce = .continuous ∨ s.guidance.horn.inForce = .single ∨
        (s.guidance.horn.inForce = .slow ∧ s.clock.count.testBit 7 = true) ∨
        (s.guidance.horn.inForce = .fast ∧ s.clock.count.testBit 4 = true ∧ s.clock.count.testBit 7 = true)))

/-! ### Capture (chapter 4) -/

/-- tier 2. R63, R64: the idle converter takes the lowest one-off request, or begins a row of the lowest-numbered stream with a pending
request, whose count falls by one and whose stamp is read. -/
def Obligations.ConverterTakesTheNextWork : Prop :=
  ∀ s : State, s.ready .converterStart = true → s.captureLaw = true →
    Completes .converterStart s (fun t => s.onlyChanges [.capture] t ∧
      (s.capture.oneOffs ≠ [] → ∃ n ∈ s.capture.oneOffs, (∀ m ∈ s.capture.oneOffs, n ≤ m) ∧
        t.capture = { s.capture with oneOffs := s.capture.oneOffs.filter fun m => m ≠ n, converter := .oneOff n }) ∧
      (s.capture.oneOffs = [] → ∃ i ∈ allStreams, 0 < (s.capture.stream i).requests ∧
        (∀ j ∈ allStreams, j.num < i.num → (s.capture.stream j).requests = 0) ∧
        t.capture.stream i = { s.capture.stream i with requests := (s.capture.stream i).requests - 1 } ∧
        (∀ j ∈ allStreams, j ≠ i → t.capture.stream j = s.capture.stream j) ∧
        t.capture.converter = .row i (s.capture.stream i).runNumber (s.capture.stream i).config.columns s.counters.revL.number
          s.counters.revR.number (s.capture.stream i).rails false))

/-- tier 2. R60, R64, R65, R66, R67: where a completed row goes: nowhere, when its stream was stopped while it was taken; the LATEST cell;
the FILLING buffer, A or B; a completed page kept beside an EMPTY buffer while the evaluation unit holds a page; a completed page dropped.
Other streams stand. A row that brings a fourth rail value enters its stream all the same, and its input becomes FAULTED in the
INPUT_FAULTED event that follows (the model's reading: log entry 19). A raw value that the command does not give reads 0 (log entry 8). -/
def Obligations.RowsEnterTheirStream : Prop :=
  ∀ (s : State) (raws : List Raw), s.quiet = true → s.captureLaw = true →
    ∀ (i : StreamId) (run l r : Nat) (cols rails : List Nat) (discarded : Bool),
    s.capture.converter = .row i run cols l r rails discarded →
    Completes (.rowComplete raws) s (fun t => s.onlyChanges [.capture, .eval] t ∧ t.capture.converter = .idle ∧
      t.capture.faulted = s.capture.faulted ∧ t.capture.gateOpen = s.capture.gateOpen ∧
      (∀ j ∈ allStreams, j ≠ i → t.capture.stream j = s.capture.stream j) ∧
      (discarded = true → t.eval = s.eval ∧
        t.capture.stream i = { s.capture.stream i with rails := (t.capture.stream i).rails }) ∧
      (discarded = false → (s.capture.stream i).config.mode = .latest → t.eval = s.eval ∧
        (t.capture.stream i).latest = some ⟨l, r, cols.mapIdx fun k _ => (raws.map (·.toNat)).getD k 0⟩ ∧
        (t.capture.stream i).bufA = (s.capture.stream i).bufA ∧ (t.capture.stream i).bufB = (s.capture.stream i).bufB) ∧
      ∀ inB : Bool, discarded = false → (s.capture.stream i).config.mode = .page →
        ((s.capture.stream i).buffer inB).state = .filling → (t.capture.stream i).latest = (s.capture.stream i).latest ∧
        (((s.capture.stream i).buffer inB).rows.length + 1 < (s.capture.stream i).config.pageLength →
          (t.capture.stream i).buffer (!inB) = (s.capture.stream i).buffer (!inB) ∧ t.eval = s.eval ∧
          (t.capture.stream i).buffer inB = { (s.capture.stream i).buffer inB with rows := ((s.capture.stream i).buffer inB).rows ++
            [⟨l, r, cols.mapIdx fun k _ => (raws.map (·.toNat)).getD k 0⟩] }) ∧
        ((s.capture.stream i).config.pageLength ≤ ((s.capture.stream i).buffer inB).rows.length + 1 →
          (t.capture.stream i).seqCounter = ((s.capture.stream i).seqCounter + 1) % 4294967296 ∧
          (((s.capture.stream i).buffer (!inB)).state ≠ .empty → t.eval = s.eval ∧
            ((t.capture.stream i).buffer inB).state = .filling ∧ ((t.capture.stream i).buffer inB).rows = [] ∧
            (t.capture.stream i).buffer (!inB) = (s.capture.stream i).buffer (!inB)) ∧
          (((s.capture.stream i).buffer (!inB)).state = .empty → s.eval.slot.isSome = true → t.eval = s.eval ∧
            ((t.capture.stream i).buffer (!inB)).state = .filling ∧ ((t.capture.stream i).buffer inB).state = .full ∧
            ((t.capture.stream i).buffer inB).seq = (t.capture.stream i).seqCounter ∧
            ((t.capture.stream i).buffer inB).run = (s.capture.stream i).runNumber ∧
            ((t.capture.stream i).buffer inB).short = false)))

/-- tier 2. R68, R69, R70, R78: a page completed in buffer A or B while the evaluation unit is free. One that is wanted is handed over: HELD
in its buffer, in the slot with its marks, the last delivered sequence taken, GAP exactly when a sequence was skipped. One that is not
wanted is passed over: its buffer EMPTY again, the unit as it was. A page completed by a row that brings a fourth rail value is handed over
before its input becomes FAULTED (the model's reading: log entry 19). A raw value that the command does not give reads 0 (log entry 8). -/
def Obligations.WantedPageIsHandedOver : Prop :=
  ∀ (s : State) (raws : List Raw), s.quiet = true → s.captureLaw = true →
    ∀ (i : StreamId) (run l r : Nat) (cols rails : List Nat) (inB : Bool), s.capture.converter = .row i run cols l r rails false →
    (s.capture.stream i).config.mode = .page → ((s.capture.stream i).buffer inB).state = .filling →
    ((s.capture.stream i).buffer (!inB)).state = .empty → s.eval.slot = none →
    (s.capture.stream i).config.pageLength ≤ ((s.capture.stream i).buffer inB).rows.length + 1 →
    Completes (.rowComplete raws) s (fun t => s.onlyChanges [.capture, .eval] t ∧
      ((t.capture.stream i).buffer (!inB)).state = .filling ∧
      (t.capture.stream i).lastDelivered = ((s.capture.stream i).seqCounter + 1) % 4294967296 ∧
      (s.eval.wants i (s.capture.stream i).runNumber = false → t.eval = s.eval ∧ ((t.capture.stream i).buffer inB).state = .empty) ∧
      (s.eval.wants i (s.capture.stream i).runNumber = true → ((t.capture.stream i).buffer inB).state = .held ∧
        ∃ p, t.eval.slot = some p ∧ t.eval = { s.eval with slot := some p } ∧ p.stream = i ∧ p.inB = inB ∧
          p.run = (s.capture.stream i).runNumber ∧ p.short = false ∧
          p.seq = ((s.capture.stream i).seqCounter + 1) % 4294967296 ∧ p.columns = (s.capture.stream i).config.columns ∧
          p.rows = ((s.capture.stream i).buffer inB).rows ++ [⟨l, r, cols.mapIdx fun k _ => (raws.map (·.toNat)).getD k 0⟩] ∧
          (p.gap = true ↔
            ((s.capture.stream i).seqCounter + 1) % 4294967296 ≠ ((s.capture.stream i).lastDelivered + 1) % 4294967296)))

/-- tier 2. R58, R64, R71: a column's rail run count is raised by a rail value, set to 0 by another; the count that reaches 4 is set to 0 and
makes the input's fault due, unless it is FAULTED; the input becomes FAULTED in the INPUT_FAULTED event that follows (the model's reading:
log entries 1 and 19). An input that stands twice in the column list counts per column, and a row that is
discarded is checked all the same. Where the stream has been started anew the row goes on from its own run's counts and leaves the new
run's (the model's choice: log entry 36). -/
def Obligations.RailValuesAreCounted : Prop :=
  ∀ (s : State) (raws : List Raw), s.quiet = true → s.captureLaw = true →
    ∀ (i : StreamId) (run l r : Nat) (cols rails : List Nat) (discarded : Bool),
    s.capture.converter = .row i run cols l r rails discarded → raws.length = cols.length → rails.length = cols.length →
    Completes (.rowComplete raws) s (fun t =>
      ((s.capture.stream i).runNumber ≠ run → (t.capture.stream i).rails = (s.capture.stream i).rails) ∧
      ((s.capture.stream i).runNumber = run → (t.capture.stream i).rails.length = cols.length ∧
        ∀ (k n : Nat), rails[k]? = some n → ∀ raw : Raw, raws[k]? = some raw → (t.capture.stream i).rails[k]? =
          some (if raw.toNat ≤ 8 ∨ 4087 ≤ raw.toNat then (if 3 ≤ n then 0 else n + 1) else 0)) ∧
      ∀ col, col ∈ t.capture.faultDue ↔ col ∈ s.capture.faultDue ∨ (col ∉ s.capture.faulted ∧
        ∃ k : Nat, cols[k]? = some col ∧ ∃ n, rails[k]? = some n ∧ 3 ≤ n ∧ ∃ raw : Raw, raws[k]? = some raw ∧
          (raw.toNat ≤ 8 ∨ 4087 ≤ raw.toNat)))

/-- tier 2. R71, R72, R114, R127: an input that becomes FAULTED: the set, the prompt with the lowest FAULTED input, and the fault of the
roller sequence (AN0 to AN4) or of the plate sequence (AN0); a one-off conversion makes its input SOUND again, or leaves it FAULTED and
reports it still faulted. -/
def Obligations.InputFaultsComeAndGo : Prop :=
  ∀ s : State, s.captureLaw = true →
    (∀ n : Fin 8, s.ready (.inputFaulted n.val) = true →
      Completes (.inputFaulted n) s (fun t =>
        (∀ m, m ∈ t.capture.faulted ↔ m = n.val ∨ m ∈ s.capture.faulted) ∧ n.val ∉ t.capture.faultDue ∧
        t.guidance.isRaised .sensorFault = true ∧
        (∃ e, t.guidance.find .sensorFault = some e ∧ ∃ k, e.fields.input = some k ∧ k ∈ t.capture.faulted ∧
          ∀ m ∈ t.capture.faulted, k ≤ m) ∧
        (s.rollerActive = true → n.val ≤ 4 → s.roller.faultHold = none →
          t.roller.faultHold = some .sensor ∧ t.roller.phase = .idle ∧ t.roller.motors = false) ∧
        (s.rollerActive = true → 4 < n.val → t.roller = s.roller) ∧
        (s.plateActive = true → n.val = 0 → t.plate.faultHold = true) ∧
        t.lane.stampCounter = s.lane.stampCounter ∧ t.archive = s.archive ∧ t.counters = s.counters ∧ t.filter = s.filter)) ∧
    (s.quiet = true → ∀ (raw : Raw) (n : Nat), s.capture.converter = .oneOff n →
      Completes (.oneOffConversionComplete raw) s (fun t => t.capture.converter = .idle ∧
        (9 ≤ raw.toNat ∧ raw.toNat ≤ 4086 → (∀ m, m ∈ t.capture.faulted ↔ m ≠ n ∧ m ∈ s.capture.faulted) ∧
          (t.capture.faulted = [] → t.guidance.isRaised .sensorFault = false) ∧ s.onlyChanges [.bus, .capture, .guidance] t) ∧
        (raw.toNat ≤ 8 ∨ 4087 ≤ raw.toNat → t.capture.faulted = s.capture.faulted ∧
          (s.rollerActive = true → n ≤ 4 → s.roller.faultHold = none → t.roller.faultHold = some .sensor ∧ t.roller.motors = false)) ∧
        t.archive = s.archive ∧ t.counters = s.counters ∧ t.clock = s.clock))

/-! ### Evaluation (chapter 5) -/

/-- tier 2. R83: while TESTING each window is judged at its tick: the count of slipping windows in a row, and at 2 the slip stop, once in
the test. In no other state is a window judged. -/
def Obligations.SlipStopAfterTwoSlippingWindows : Prop :=
  ∀ (s : State) (first : List TickTaker), s.quiet = true → s.rollerActive = true → s.roller.phase ≠ .spinUp →
    Completes (.tick8Hz first) s (fun t =>
      (s.eval.context ≠ .testing ∨ s.eval.acc.slipFound = true → t.eval = s.eval) ∧
      (s.eval.context = .testing → s.eval.acc.slipFound = false →
        ((20 ≤ s.counters.dl ∧ s.counters.sl < s.counters.dl ∧ 25 ≤ 100 * (s.counters.dl - s.counters.sl) / s.counters.dl) ∨
          (20 ≤ s.counters.dr ∧ s.counters.sr < s.counters.dr ∧ 25 ≤ 100 * (s.counters.dr - s.counters.sr) / s.counters.dr) →
          t.eval = { s.eval with acc := { s.eval.acc with
            slipCount := s.eval.acc.slipCount + 1, slipFound := decide (2 ≤ s.eval.acc.slipCount + 1)
            slipDue := s.eval.acc.slipDue || decide (2 ≤ s.eval.acc.slipCount + 1) } }) ∧
        (¬((20 ≤ s.counters.dl ∧ s.counters.sl < s.counters.dl ∧ 25 ≤ 100 * (s.counters.dl - s.counters.sl) / s.counters.dl) ∨
          (20 ≤ s.counters.dr ∧ s.counters.sr < s.counters.dr ∧ 25 ≤ 100 * (s.counters.dr - s.counters.sr) / s.counters.dr)) →
          t.eval = { s.eval with acc := { s.eval.acc with slipCount := 0 } })))

/-- tier 2. R91, R92: the denominator D by its three cases, and the service and parking ratio as the vehicle computation writes them, each
present or absent by its conditions; a COMPLETE entry with D of 0 has the verdict FAIL. -/
def Obligations.RatiosFollowTheirSums : Prop :=
  ∀ (e : Entry) (b : Bool),
    (∀ w, e.brake = .air → e.weight = some w → e.denominator = some w) ∧
    (e.brake ≠ .air ∨ e.weight = none →
      ((∀ a ∈ e.axles, a.load.isSome = true) → e.denominator = some (e.axles.map fun a => (a.load.map fun w => w.l + w.r).getD 0).sum) ∧
      ((∃ a ∈ e.axles, a.load = none) → e.denominator = none)) ∧
    (e.denominator = none ∨ e.denominator = some 0 → (e.computed b).serviceRatio = none ∧ (e.computed b).parkingRatio = none) ∧
    (e.state = .complete → e.denominator = some 0 → (e.computed b).verdict = some .fail) ∧
    (∀ d, e.denominator = some d → 0 < d →
      ((∀ a ∈ e.axles, a.service.isSome = true) → (e.computed b).serviceRatio = some (min 9999 (1000 *
        (e.axles.map fun a => (a.service.map fun r =>
          (r.figures.fref.map fun f => f.l + f.r).getD (r.figures.fmax.l + r.figures.fmax.r)).getD 0).sum / d))) ∧
      ((∃ a ∈ e.axles, a.service = none) → (e.computed b).serviceRatio = none) ∧
      (e.parkingSet ≠ [] → (∀ n ∈ e.parkingSet, ((e.axle? n).bind (·.parking)).isSome = true) →
        (e.computed b).parkingRatio = some (min 9999 (1000 *
          (e.parkingSet.map fun n => (((e.axle? n).bind (·.parking)).map fun r => r.figures.fmax.l + r.figures.fmax.r).getD 0).sum / d))) ∧
      (e.parkingSet = [] ∨ (∃ n ∈ e.parkingSet, (e.axle? n).bind (·.parking) = none) → (e.computed b).parkingRatio = none))

/-- tier 2. R16, R93: the verdict by its cases; a COMPLETE entry is not held against the completeness test again (the model's reading
of R16's own sentence: log entry 11). -/
def Obligations.VerdictFollowsItsCases : Prop :=
  ∀ (e : Entry) (slip : Bool),
    (e.formVerdict slip = .incomplete ↔ e.state ≠ .complete ∧
      ((∃ a ∈ e.axles, a.load = none ∨ a.service = none) ∨ (∃ k ∈ e.parkingSet, (e.axle? k).bind (·.parking) = none) ∨
        (slip = true ∧ ∃ a ∈ e.axles, a.slip = none))) ∧
    (e.formVerdict slip = .pass ↔ e.formVerdict slip ≠ .incomplete ∧
      (∃ v, e.serviceRatio = some v ∧ (e.cls = .light → 580 ≤ v) ∧ (e.cls = .heavy → 500 ≤ v) ∧ (e.cls = .trailer → 450 ≤ v)) ∧
      (e.parkingSet = [] ∨ ∃ v, e.parkingRatio = some v ∧ 160 ≤ v) ∧
      (∀ a ∈ e.axles, ∀ r, a.service = some r → ∀ v, r.figures.imbalance = some v → v ≤ 30) ∧
      (∀ k ∈ e.steeredSet, ∀ a, e.axle? k = some a → ∀ v, a.slip = some v → -70 ≤ v ∧ v ≤ 70))

/-- tier 2. R76, R78, R81, R82, R84: the evaluation-complete event: a page that is not wanted is released with no effect, a TEST page's
rows enter the running Fmax of each side, a WEIGH page gives the static zero, and the ZERO page leads a ROLLER station into TEST. -/
def Obligations.EvaluatedPagesTakeEffect : Prop :=
  ∀ s : State, s.quiet = true → ∀ p, s.eval.slot = some p →
    Completes .evaluationComplete s (fun t =>
      (s.eval.wants p.stream p.run = false → s.eval.context ≠ .draining → s.eval.context ≠ .crossingDrain →
        s.onlyChanges [.capture, .eval] t ∧ t.eval = { s.eval with slot := t.eval.slot }) ∧
      ∀ k, s.eval.calib = some k → s.eval.wants p.stream p.run = true →
        (s.eval.context = .testing → s.onlyChanges [.capture, .eval] t ∧ t.eval.context = .testing ∧
          t.eval.acc.rows = s.eval.acc.rows + p.rows.length ∧
          t.eval.acc.left.fmax = p.rows.foldl (fun m r => max m (min 6000
            ((r.value 0 - (s.eval.zt.getD ⟨0, 0⟩).l) * k.gfL / 1024 - (s.eval.rr.getD ⟨0, 0⟩).l))) s.eval.acc.left.fmax ∧
          t.eval.acc.right.fmax = p.rows.foldl (fun m r => max m (min 6000
            ((r.value 1 - (s.eval.zt.getD ⟨0, 0⟩).r) * k.gfR / 1024 - (s.eval.rr.getD ⟨0, 0⟩).r))) s.eval.acc.right.fmax) ∧
        (s.eval.context = .weighing → p.stream = .s0 → s.eval.loads = none → s.onlyChanges [.capture, .eval] t ∧
          t.eval.zt = some ⟨(p.rows.map (·.value 0)).sum / p.rows.length, (p.rows.map (·.value 1)).sum / p.rows.length⟩ ∧
          t.eval.wantS0 = none ∧ t.eval.context = .weighing) ∧
        (s.eval.context = .weighing → p.stream = .s1 → s.eval.zt.isSome = true → s.rollerActive = true → s.roller.phase = .weigh →
          t.roller.phase = .positioned ∧ t.roller.weighed = true ∧ t.roller.motors = s.roller.motors ∧ ∃ w, t.eval.loads = some w ∧
            w.l = min 15000 (((p.rows.map (·.value 0)).sum / p.rows.length - k.zwL) * k.gwL / 1024) ∧
            w.r = min 15000 (((p.rows.map (·.value 1)).sum / p.rows.length - k.zwR) * k.gwR / 1024) ∧
            s.queues t (.axleLoad s.roller.axle.ticket s.roller.axle.axle w)) ∧
        (s.eval.context = .zeroing → s.eval.zt.isSome = true → s.rollerActive = true → s.roller.phase = .zero →
          t.roller.phase = .test ∧ t.roller.motors = s.roller.motors ∧ t.eval.context = .testing ∧ t.eval.acc = TestAcc.clear ∧
          t.timers.seqTimer = ⟨true, 160, false⟩ ∧ t.eval.wantS0 = some t.capture.s0.runNumber ∧ ∃ z, s.eval.zt = some z ∧
            t.eval.rr = some
              ⟨min 6000 (((p.rows.map (·.value 0)).sum / p.rows.length - z.l) * k.gfL / 1024),
               min 6000 (((p.rows.map (·.value 1)).sum / p.rows.length - z.r) * k.gfR / 1024)⟩))

/-- tier 2. R80, R84, R85, R86, R87: one row at the accumulators of a test: Fmax and p@max, the imbalance at a side's last rise, the
revolution in progress with the greatest ovality, and the release, judged in TESTING alone, once in a test; and a page of the recorded run,
whose rows are taken in page order, as its evaluation completes. -/
def Obligations.RowsFeedTheAccumulators : Prop :=
  (∀ (a b : TestAcc) (v : LiveRow) (stampL stampR : Nat) (testing gap first : Bool), a.takeRow v stampL stampR testing gap first = b →
    b.rows = a.rows + 1 ∧ b.live = some v ∧ b.slipCount = a.slipCount ∧ b.slipFound = a.slipFound ∧ b.slipDue = a.slipDue ∧
    (max v.fL v.fR < 100 → b.runImb = a.runImb) ∧
    (100 ≤ max v.fL v.fR →
      b.runImb = some (max (a.runImb.getD 0) (100 * (max v.fL v.fR - min v.fL v.fR) / max v.fL v.fR))) ∧
    a.left.takesRow b.left stampL v.fL v.p b.runImb b.rows gap (gap && first) ∧
    a.right.takesRow b.right stampR v.fR v.p b.runImb b.rows gap (gap && first) ∧
    (testing = false ∨ a.releaseFound = true → b.armed = a.armed ∧ b.releaseCount = a.releaseCount ∧
      b.releaseFound = a.releaseFound ∧ b.releaseDue = a.releaseDue) ∧
    (testing = true → a.releaseFound = false → (b.armed = true ↔ a.armed = true ∨ 300 ≤ max v.fL v.fR) ∧
      (b.armed = true → v.isRelease b.left.fmax b.right.fmax →
        b.releaseCount = (if gap = true ∧ first = true then 0 else a.releaseCount) + 1) ∧
      (b.armed = false ∨ ¬v.isRelease b.left.fmax b.right.fmax → b.releaseCount = 0) ∧
      (b.releaseFound = true ↔ 4 ≤ b.releaseCount) ∧ b.releaseDue = (a.releaseDue || b.releaseFound))) ∧
  ∀ s : State, s.quiet = true → ∀ p, s.eval.slot = some p → ∀ k, s.eval.calib = some k → s.eval.wants p.stream p.run = true →
    (s.eval.context = .testing → Completes .evaluationComplete s (fun t => t.eval.acc = p.feeds k s.eval true)) ∧
    (s.eval.context = .draining → s.eval.acc.rows + p.rows.length ≠ 0 →
      Completes .evaluationComplete s (fun t => t.eval.acc = p.feeds k s.eval false))

/-- tier 2. R85, R88, R89, R90, R110: in DRAINING, once the record is requested and the run is drained, the record formed from the
accumulators reaches STOPPING or RESULT, or with no row taken the NO_ROWS fault; till then the unit waits. A side with no p@max is not
referenced (the model's reading: log entry 17). -/
def Obligations.RecordIsFormedWhenTheRunIsDrained : Prop :=
  ∀ s : State, s.quiet = true → s.rollerActive = true → s.roller.faultHold = none → s.eval.context = .draining →
    (s.roller.phase = .stopping ∨ s.roller.phase = .result) →
    ∀ p, s.eval.slot = some p → ∀ run, s.eval.wantS0 = some run → ∀ loads, s.eval.loads = some loads →
    ∀ rr, s.eval.rr = some rr →
    (s.eval.requested = false ∨ (∃ inB : Bool, ¬(p.stream = .s0 ∧ p.inB = inB) ∧ (s.capture.s0.buffer inB).state = .full ∧
        (s.capture.s0.buffer inB).run = run) →
      Completes .evaluationComplete s (fun t => t.eval.context = .draining ∧ t.roller = s.roller ∧ t.lane = s.lane)) ∧
    (s.eval.requested = true → s.lastPageInSlot p run → Completes .evaluationComplete s (fun t =>
      t.eval.context = .noContext ∧ t.eval.loads = some loads ∧ t.eval.zt = s.eval.zt ∧
      (t.roller.faultHold = some .noRows → t.roller.phase = .idle ∧ t.eval.rr = none ∧ s.eval.acc.rows = 0 ∧
        (s.eval.calib.isSome = true → s.eval.wants p.stream p.run = true → p.rows = [])) ∧
      (t.roller.faultHold ≠ some .noRows → t.eval.rr = some rr ∧ 0 < t.eval.acc.rows ∧
        (s.roller.phase = .stopping → t.roller.phase = .stopping ∧ t.lane = s.lane) ∧
        (s.roller.phase = .result → t.roller.phase = .result ∧ t.roller.resultWritten = true) ∧
        ∃ h, t.roller.held = some h ∧ h.kind = s.eval.test.kind ∧ h.load = loads ∧ h.figures.rr = rr ∧
          h.figures.fmax = ⟨t.eval.acc.left.fmax, t.eval.acc.right.fmax⟩ ∧
          h.figures.ovalL = t.eval.acc.left.oval ∧ h.figures.ovalR = t.eval.acc.right.oval ∧
          (t.eval.acc.right.fmax < t.eval.acc.left.fmax → h.figures.imbalance = t.eval.acc.left.imbAtRise) ∧
          (t.eval.acc.left.fmax < t.eval.acc.right.fmax → h.figures.imbalance = t.eval.acc.right.imbAtRise) ∧
          (t.eval.acc.left.fmax = t.eval.acc.right.fmax → h.figures.imbalance =
            if t.eval.acc.left.riseRow ≤ t.eval.acc.right.riseRow then t.eval.acc.left.imbAtRise else t.eval.acc.right.imbAtRise) ∧
          (s.eval.test.kind = .parking ∨ s.eval.test.pressure = false ∨ s.eval.test.pref = none ∨
            t.eval.acc.left.pAtMax = none ∨ t.eval.acc.right.pAtMax = none → h.figures.fref = none) ∧
          (s.eval.test.kind = .service → s.eval.test.pressure = true → ∀ pref, s.eval.test.pref = some pref →
            ∀ pL, t.eval.acc.left.pAtMax = some pL → ∀ pR, t.eval.acc.right.pAtMax = some pR →
            (referable pL pref → referable pR pref → h.figures.fref =
              some ⟨min 9999 (t.eval.acc.left.fmax * (pref - 40) / (pL - 40)), min 9999 (t.eval.acc.right.fmax * (pref - 40) / (pR - 40))⟩) ∧
            (¬referable pL pref ∨ ¬referable pR pref → h.figures.fref = none)))))

/-- tier 2. R14, R95, R123: the pages of a crossing: the peak of their displacements, the first of equal magnitudes, and once the run is
drained the slip, a tenth of it, written and queued before the LEFT; with no row taken the crossing ends without a slip. A pending entry
then begins the next crossing. -/
def Obligations.SlipIsFormedWhenTheCrossingIsDrained : Prop :=
  ∀ s : State, s.quiet = true → ∀ p, s.eval.slot = some p → ∀ k, s.eval.calib = some k →
    (s.eval.context = .crossing → s.eval.wants p.stream p.run = true → Completes .evaluationComplete s (fun t =>
      s.onlyChanges [.capture, .eval] t ∧
      t.eval = { s.eval with slot := t.eval.slot, peak := p.rows.foldl (fun a r => peakWith a (k.moved r)) s.eval.peak })) ∧
    (s.eval.context = .crossingDrain → s.plateActive = true → s.plate.crossing = .onPlate → s.plate.measure = .draining →
      s.tableLaw = true → ∀ run, s.eval.wantS0 = some run → s.lastPageInSlot p run →
      ∀ peak, peak = (if s.eval.wants p.stream p.run = true then p.rows.foldl (fun a r => peakWith a (k.moved r)) s.eval.peak
        else s.eval.peak) →
      Completes .evaluationComplete s (fun t =>
        (s.plate.pendingEntry = false → t.eval.context = .noContext ∧ t.timers.seqTimer = ⟨false, 0, false⟩ ∧
          t.plate = ⟨.clear, none, .unmeasured, false, false, s.plate.faultHold⟩) ∧
        (s.plate.pendingEntry = true → t.plate.crossing = .onPlate ∧ t.plate.pendingEntry = false ∧ t.plate.reportExit = true ∧
          t.plate.fixed = some (t.lane.expected .plate) ∧ t.timers.seqTimer = ⟨true, 160, false⟩ ∧
          s.queues t (.axleEvent (t.lane.expected .plate).ticket (t.lane.expected .plate).axle .arrived .plate)) ∧
        (s.plate.reportExit = true → s.queues t (.axleEvent s.plate.axle.ticket s.plate.axle.axle .left .plate)) ∧
        (∀ e, s.lane.find s.plate.axle.ticket = some e → (e.state = .registered ∨ e.state = .inLane ∨ e.state = .complete) →
          1 ≤ s.plate.axle.axle → s.plate.axle.axle ≤ e.axleCount → ∀ a, e.axle? s.plate.axle.axle = some a →
          ∃ x, t.lane.find s.plate.axle.ticket = some x ∧ ∃ b, x.axle? s.plate.axle.axle = some b ∧
            (peak = none → b = a) ∧
            (∀ v, peak = some v → b = { a with slip := some (max (-200) (min 200 (v.tdiv 10))) }) ∧
            x.platePassed = if s.plate.reportExit = true then max e.platePassed s.plate.axle.axle else e.platePassed) ∧
        (∀ v, peak = some v → s.queues t (.slipResult s.plate.axle.ticket s.plate.axle.axle (v.tdiv 10)) ∧
          (s.plate.reportExit = true → s.bus.canQueue = true → t.bus.queue.length < 8 → ∃ q ∈ t.bus.queue, ∃ r ∈ t.bus.queue,
            q.frame = .slipResult s.plate.axle.ticket s.plate.axle.axle (v.tdiv 10) ∧
            r.frame = .axleEvent s.plate.axle.ticket s.plate.axle.axle .left .plate ∧ q.stamp < r.stamp)) ∧
        (peak = none → ∀ q ∈ t.bus.queue, (∀ n x v, q.frame = .slipResult n x v → q ∈ s.bus.queue))))

/-! ### The roller sequence (chapter 6) -/

/-- tier 2. R103: an axle on the rollers: the fixed axle, ARRIVED queued and reported, the WEIGH streams and begin weigh. -/
def Obligations.AxleOnRollersIsWeighed : Prop :=
  ∀ s : State, s.ready .axleOn = true →
    Completes .axleOnRollers s (fun t => s.onlyChanges [.lane, .bus, .timers, .capture, .eval, .roller, .guidance] t ∧
      t.roller.phase = .weigh ∧ t.roller.fixed = some (s.lane.expected .roller) ∧ t.roller.kind = .service ∧
      t.roller.motors = s.roller.motors ∧
      s.queues t (.axleEvent (s.lane.expected .roller).ticket (s.lane.expected .roller).axle .arrived .roller) ∧
      t.lane = s.lane.axleEvent (s.lane.expected .roller).ticket (s.lane.expected .roller).axle .arrived .roller ∧
      t.capture.s0.config = ⟨[0, 1], .pt1, .page, 64, false⟩ ∧ t.capture.s0.running = true ∧
      t.capture.s1.config = ⟨[2, 3], .pt1, .page, 64, false⟩ ∧ t.capture.s1.running = true ∧
      t.eval.context = .weighing ∧ t.eval.loads = none ∧ t.eval.zt = none ∧ t.eval.rr = none ∧
      t.eval.wantS0 = some t.capture.s0.runNumber ∧ t.eval.wantS1 = some t.capture.s1.runNumber ∧
      t.guidance.isRaised .driveOn = false ∧
      ((s.lane.expected .roller).ticket = 0 → t.guidance.isRaised .vehicleNotRegistered = true))

/-- tier 2. R99, R105, R106, R107: the ends of WARN: the horn-alone wait and the run-out enter SPIN_UP, which switches the motors on; the
16-window limit fails the warning. A welded contactor found at the tick of an expiry is taken before it, and the motors stay off (the
model's choice: log entry 44). -/
def Obligations.WarningEndsInSpinUpOrFails : Prop :=
  (∀ s : State, s.motorLaw = true → s.isDue .welded = true → (∀ d ∈ dueOrder, d ≠ .welded → s.isDue d = false) →
    s.roller.phase = .warn → s.timers.seqTimer.expired = true → ∀ c ∈ [Instr.warnHornExpiry, .runOutExpiry],
    Completes c s (fun t => t.roller.welded = true ∧ t.roller.phase = .idle ∧ t.roller.motors = false ∧ t.bus.latch.stopped = true)) ∧
  ∀ s : State,
    (∀ c d, (c, d) ∈ [(Instr.warnHornExpiry, Due.warnHorn), (Instr.runOutExpiry, Due.runOut)] → s.ready d = true →
      Completes c s (fun t => s.onlyChanges [.timers, .capture, .eval, .roller] t ∧
        t.roller.phase = .spinUp ∧ t.roller.motors = true ∧ t.roller.feedbackCount = 0 ∧ t.roller.awaited = [] ∧
        t.roller.fbL = s.filter.accepted.fbL ∧ t.roller.fbR = s.filter.accepted.fbR ∧ t.roller.fixed = s.roller.fixed ∧
        t.roller.kind = s.roller.kind ∧ t.timers.seqTimer = ⟨true, 32, false⟩)) ∧
    (s.ready .warnTimeout = true →
      Completes .warningTimeout s (fun t => s.onlyChanges [.bus, .timers, .capture, .eval, .roller, .guidance] t ∧
        t.roller.phase = .positioned ∧ t.roller.motors = s.roller.motors ∧ t.roller.awaited = [] ∧ t.roller.fixed = s.roller.fixed ∧
        t.timers.seqTimer = ⟨false, 0, false⟩ ∧ t.guidance.isRaised .motorsStarting = false ∧
        (t.guidance.find .panelNotResponding).map (·.fields) = some { stations := s.roller.awaited } ∧
        t.guidance.isRaised (if s.roller.kind = .service then .applyBrake else .applyParking) = true))

/-- tier 2. R98, R99, R107, R108, R114, R115: in SPIN_UP, with both feedback sides confirmed, a window sample at the spin-up threshold on both
sides takes the sequence to ZERO with the motors left on, PT0 running at its reload and the exclusive ZERO page opened. The motor faults:
motors off, ROLLERS_STOPPED queued where they ran, the fault hold with its cause, MOTOR_FAULT shown, IDLE; a welded contactor also stops
the lane. A feedback line, the only line that changes, confirms its side while the motors run; its loss on a confirmed side is a DROPOUT,
and with the motors off the loss of the last one clears welded. A wheel that leaves ends the axle, without a LEFT (R115). -/
def Obligations.SpinUpSucceedsOrFaults : Prop :=
  (∀ s : State, s.quiet = true → s.rollerActive = true → s.roller.phase = .spinUp → s.roller.fbL = true → s.roller.fbR = true →
    ∀ k, s.eval.calib = some k → 9 * k.nnom / 10 ≤ s.counters.dl → 9 * k.nnom / 10 ≤ s.counters.dr →
    Completes (.tick8Hz []) s (fun t => t.roller.phase = .zero ∧ t.roller.motors = s.roller.motors ∧
      t.timers.pt0 = ⟨499, 499, true⟩ ∧ t.timers.seqTimer.running = false ∧
      t.capture.s0.config = ⟨[0, 1], .pt0, .page, 64, true⟩ ∧ t.capture.s0.running = true ∧
      t.capture.s0.runNumber = (s.capture.s0.runNumber + 1) % 256 ∧ t.guidance.isRaised .motorsStarting = false ∧
      t.lane = s.lane ∧ t.archive = s.archive)) ∧
  (∀ (s : State) (x : Samples) (first : List Line), s.quiet = true → s.rollerActive = true → s.motorLaw = true →
    (∀ (l : Line) (confirmed : Bool), (l, confirmed) ∈ [(Line.fbL, s.roller.fbL), (.fbR, s.roller.fbR)] → s.onlyLine x l →
      Completes (.tick32Hz x first) s (fun t =>
        (lineLevel x l = true → s.roller.motors = true → s.onlyChanges [.clock, .filter, .roller] t ∧
          t.roller = { s.roller with fbL := s.roller.fbL || decide (l = .fbL), fbR := s.roller.fbR || decide (l = .fbR) }) ∧
        (lineLevel x l = true → s.roller.motors = false → s.onlyChanges [.clock, .filter] t) ∧
        (lineLevel x l = false → s.roller.motors = true → confirmed = true →
          t.roller.phase = .idle ∧ t.roller.motors = false ∧ t.roller.faultHold = some .dropout ∧ t.roller.fixed = s.roller.fixed ∧
          t.roller.weighed = s.roller.weighed ∧ t.eval.loads = s.eval.loads ∧ t.eval.zt = s.eval.zt ∧
          s.queues t (.rollersStopped s.roller.axle.ticket s.roller.axle.axle) ∧
          (t.guidance.find .motorFault).map (·.fields) = some { cause := some .dropout } ∧
          s.onlyChanges [.bus, .clock, .filter, .timers, .capture, .eval, .roller, .guidance] t) ∧
        (lineLevel x l = false → s.roller.motors = false ∨ confirmed = false → s.onlyChanges [.clock, .filter, .roller] t ∧
          t.roller = (if s.roller.welded = true ∧ x.fbL = false ∧ x.fbR = false
            then { s.roller with welded := false, weldedCount := 0 } else s.roller)))) ∧
    (∀ l ∈ [Line.wheelL, .wheelR], s.onlyLine x l → lineLevel x l = false →
      Completes (.tick32Hz x first) s (fun t =>
        (s.roller.phase ∈ [.weigh, .positioned, .warn, .spinUp, .zero, .test] → t.roller.phase = .idle ∧ t.roller.motors = false ∧
          t.roller.fixed = none ∧ t.roller.weighed = false ∧ t.eval.context = .noContext ∧ t.eval.loads = none ∧ t.eval.zt = none ∧
          t.eval.rr = none ∧ s.reportsNoAxle t ∧
          (s.roller.motors = true → s.queues t (.rollersStopped s.roller.axle.ticket s.roller.axle.axle)) ∧
          s.onlyChanges [.bus, .clock, .filter, .timers, .capture, .eval, .roller, .guidance] t) ∧
        (s.roller.phase ∈ [.idle, .stopping, .result, .exit] → s.onlyChanges [.clock, .filter] t)))) ∧
  ∀ s : State, s.motorLaw = true →
    (∀ c d cause, (c, d, cause) ∈ [(Instr.spinUpTimeout, Due.spinUpTimeout, FaultCause.noSpinUp),
        (Instr.feedbackCountExpiry, Due.feedbackCount, FaultCause.noFeedback)] → s.ready d = true →
      Completes c s (fun t => t.roller.phase = .idle ∧ t.roller.motors = false ∧ t.roller.faultHold = some cause ∧
        t.roller.fixed = s.roller.fixed ∧ t.roller.weighed = s.roller.weighed ∧
        (s.roller.motors = true → s.queues t (.rollersStopped s.roller.axle.ticket s.roller.axle.axle)) ∧
        (t.guidance.find .motorFault).map (·.fields) = some { cause := some cause } ∧
        s.onlyChanges [.bus, .timers, .capture, .eval, .roller, .guidance] t)) ∧
    (s.ready .welded = true →
      Completes .weldedContactor s (fun t => t.roller.phase = .idle ∧ t.roller.motors = false ∧ t.roller.welded = true ∧
        t.roller.faultHold = some .welded ∧ s.queues t (.laneStop .contactor) ∧
        t.bus.latch = { s.bus.latch with stopped := true, cause := some .contactor, station := some s.startUp.ownNumber } ∧
        (t.guidance.find .motorFault).map (·.fields) = some { cause := some .welded } ∧
        s.onlyChanges [.lane, .bus, .timers, .capture, .eval, .roller, .plate, .guidance] t))

/-- tier 2. R109, R110: the three ends of a test: motors off, S0 OFF, STOPPING under the reason of the event taken; with no row evaluated
and none to come, the NO_ROWS fault. A report taken outside TEST is ignored. -/
def Obligations.TestEndsUnderItsReason : Prop :=
  ∀ s : State, s.motorLaw = true → s.measures = true →
    ∀ c d reason, (c, d, reason) ∈ [(Instr.testTimeLimit, Due.testLimit, EndReason.time), (Instr.release, Due.release, EndReason.release),
        (Instr.slipStop, Due.slipStop, EndReason.slip)] → s.ready d = true →
      (s.roller.phase = .test →
        Completes c s (fun t => t.roller.motors = false ∧ t.capture.s0.running = false ∧ t.timers.seqTimer.running = false ∧
          t.timers.pt0.running = false ∧ t.roller.fixed = s.roller.fixed ∧
          (s.roller.motors = true → s.queues t (.rollersStopped s.roller.axle.ticket s.roller.axle.axle)) ∧
          (t.roller.phase = .stopping ∨ (t.roller.phase = .idle ∧ t.roller.faultHold = some .noRows)) ∧
          (0 < s.eval.acc.rows → s.eval.context = .testing → t.roller.phase = .stopping ∧ t.roller.endReason = some reason ∧ t.roller.rollDown = 0 ∧
            t.guidance.isRaised .releaseBrake = true ∧ t.guidance.isRaised .applyBrake = false) ∧
          s.onlyChanges [.bus, .timers, .capture, .eval, .roller, .guidance] t)) ∧
      (s.roller.phase ≠ .test → Completes c s (fun t => s.onlyChanges [.eval] t ∧ t.eval.context = s.eval.context))

/-- tier 2. R110, R111, R112: still rollers enter RESULT, where a held record is written and queued; wheels that have left for 8 windows
queue LEFT, raise the passed count and enter IDLE. -/
def Obligations.ResultIsWrittenAndTheAxleLeaves : Prop :=
  ∀ s : State,
    (s.ready .rollDown = true →
      Completes .rollDownComplete s (fun t => t.roller.phase = .result ∧ t.roller.motors = s.roller.motors ∧
        t.roller.wheelCount = 0 ∧ t.roller.fixed = s.roller.fixed ∧
        (s.roller.held = none → t.roller.resultWritten = s.roller.resultWritten ∧ t.lane = s.lane) ∧
        (∀ h, s.roller.held = some h → t.roller.resultWritten = true ∧ t.guidance.isRaised .axleResult = true ∧
          t.guidance.isRaised .releaseBrake = false ∧
          s.queues t (.brakeResult s.roller.axle.ticket s.roller.axle.axle h.kind (s.roller.endReason.getD .time) h.load h.figures) ∧
          (∀ e, s.lane.find s.roller.axle.ticket = some e → (e.state = .registered ∨ e.state = .inLane) → h.kind = .service →
            ∀ a, e.axle? s.roller.axle.axle = some a → s.roller.axle.axle ≤ e.axleCount →
            ∃ x, t.lane.find s.roller.axle.ticket = some x ∧ ∃ y, x.axle? s.roller.axle.axle = some y ∧
              y.parking = a.parking ∧ y.slip = a.slip ∧ ∃ b, y.service = some b ∧ b.endReason = s.roller.endReason.getD .time ∧
                b.figures.fmax = ⟨min 6000 h.figures.fmax.l, min 6000 h.figures.fmax.r⟩)))) ∧
    (s.ready .axleLeaves = true →
      Completes .axleLeaves s (fun t => t.roller.phase = .idle ∧ t.roller.fixed = none ∧ t.roller.weighed = false ∧
        t.roller.motors = s.roller.motors ∧ s.queues t (.axleEvent s.roller.axle.ticket s.roller.axle.axle .left .roller) ∧
        t.lane = s.lane.axleEvent s.roller.axle.ticket s.roller.axle.axle .left .roller ∧
        t.eval.context = .noContext ∧ t.eval.loads = none ∧ t.eval.zt = none ∧ t.guidance.isRaised .driveOff = false ∧
        s.onlyChanges [.lane, .bus, .timers, .capture, .eval, .roller, .guidance] t))

/-- tier 2. R104, R105, R111, R112, R113, R114, R118: the START, NEXT, REPEAT and ABORT keys by phase, each the only line that changes. What
an entry to WARN clears of an earlier test is log entry 12, the release at an ABORT of the axle of a ticket cancelled under the hold log
entry 40. -/
def Obligations.KeysActByPhase : Prop :=
  ∀ (s : State) (x : Samples) (first : List Line), s.quiet = true → s.rollerActive = true →
    (s.onlyLine x .keyStart → x.keyStart = true →
      Completes (.tick32Hz x first) s (fun t =>
        (s.roller.phase ≠ .positioned → s.onlyChanges [.clock, .filter] t) ∧
        (s.roller.phase = .positioned → s.entersWarn t s.roller.kind))) ∧
    (s.onlyLine x .keyRepeat → x.keyRepeat = true →
      Completes (.tick32Hz x first) s (fun t =>
        (s.roller.phase ≠ .result ∨ s.roller.resultWritten = false → s.onlyChanges [.clock, .filter] t) ∧
        (s.roller.phase = .result → s.roller.resultWritten = true → s.entersWarn t s.roller.kind))) ∧
    (s.onlyLine x .keyNext → x.keyNext = true →
      Completes (.tick32Hz x first) s (fun t =>
        (s.roller.phase ≠ .positioned → (s.roller.phase ≠ .result ∨ s.roller.resultWritten = false) →
          s.onlyChanges [.clock, .filter] t) ∧
        (s.roller.phase = .positioned → s.entersExit t ∧ t.roller.motors = s.roller.motors ∧ t.lane = s.lane) ∧
        (s.roller.phase = .result → s.roller.resultWritten = true → s.parkingTestOwed → s.entersWarn t .parking) ∧
        (s.roller.phase = .result → s.roller.resultWritten = true → ¬s.parkingTestOwed →
          s.entersExit t ∧ t.roller.motors = s.roller.motors ∧ t.lane = s.lane))) ∧
    (s.onlyLine x .keyAbort → x.keyAbort = true →
      Completes (.tick32Hz x first) s (fun t =>
        (s.roller.faultHold = none → s.roller.phase ∈ [.warn, .spinUp, .zero, .test, .stopping] →
          t.roller.phase = .positioned ∧ t.roller.motors = false ∧ t.roller.held = none ∧ t.roller.endReason = none ∧
          t.roller.resultWritten = false ∧ t.eval.loads = s.eval.loads ∧ t.eval.zt = s.eval.zt ∧
          (s.roller.motors = true → s.queues t (.rollersStopped s.roller.axle.ticket s.roller.axle.axle))) ∧
        (s.roller.faultHold = none → s.roller.phase ∈ [.idle, .weigh, .positioned, .result, .exit] → t.roller = s.roller) ∧
        (s.roller.faultHold = some .welded → s.roller.welded = true → t.roller = s.roller) ∧
        (∀ cause, s.roller.faultHold = some cause → ¬(cause = .welded ∧ s.roller.welded = true) →
          t.roller.faultHold = none ∧ t.guidance.isRaised .motorFault = false ∧
          t.roller.phase = (if s.roller.weighed = true ∧ s.roller.releaseOwed = false ∧ s.filter.accepted.wheelL = true ∧
            s.filter.accepted.wheelR = true ∧ s.bus.latch.stopped = false then .positioned else .idle) ∧
          (t.roller.phase = .positioned → t.roller.fixed = s.roller.fixed ∧ t.roller.weighed = true) ∧
          (t.roller.phase = .idle → t.roller.fixed = none ∧ t.roller.weighed = false ∧ t.roller.releaseOwed = false)) ∧
        (∀ n ∈ s.capture.faulted, n ∈ t.capture.oneOffs ∨ s.capture.converter = .oneOff n) ∧ t.lane = s.lane))

/-! ### The plate sequence (chapter 7) -/

/-- tier 2. R121, R122, R124, R125, R126, R128: the plate's two switches, each the only line that changes, the expiry of a crossing, and the
measuring crossing that a lane stop or the cancel of its ticket makes unmeasured. -/
def Obligations.CrossingsBeginAndEnd : Prop :=
  ∀ s : State,
    (∀ (x : Samples) (first : List Line), s.quiet = true → s.plateActive = true →
      (s.onlyLine x .plateEntry → x.plateEntry = true →
        Completes (.tick32Hz x first) s (fun t =>
          (s.plate.crossing = .clear → t.plate.crossing = .onPlate ∧ t.plate.fixed = some (s.lane.expected .plate) ∧
            t.plate.reportExit = true ∧ t.timers.seqTimer = ⟨true, 160, false⟩ ∧
            s.queues t (.axleEvent (s.lane.expected .plate).ticket (s.lane.expected .plate).axle .arrived .plate) ∧
            t.lane = s.lane.axleEvent (s.lane.expected .plate).ticket (s.lane.expected .plate).axle .arrived .plate ∧
            (s.measures = false ∨ s.plate.faultHold = true → t.plate.measure = .unmeasured ∧ t.capture = s.capture) ∧
            (s.measures = true → s.plate.faultHold = false → t.plate.measure = .measuring ∧ t.capture.gateOpen = true ∧
              t.capture.s0.config = ⟨[0], .gate, .page, 1024, false⟩ ∧ t.capture.s0.running = true ∧
              (s.eval.context = .noContext → t.eval.context = .crossing ∧ t.eval.wantS0 = some t.capture.s0.runNumber))) ∧
          (s.plate.crossing = .reversing → t.plate.crossing = .clear ∧ t.lane = s.lane ∧ t.capture = s.capture ∧ s.reportsNoAxle t) ∧
          (s.plate.crossing = .onPlate → s.plate.measure = .measuring → s.givesUpMeasuring t ∧ t.lane = s.lane ∧ s.reportsNoAxle t ∧
            t.plate = ⟨.clear, none, .unmeasured, false, s.plate.pendingEntry, s.plate.faultHold⟩ ∧
            t.timers.seqTimer = ⟨false, 0, false⟩) ∧
          (s.plate.crossing = .onPlate → s.plate.measure = .unmeasured → t.capture = s.capture ∧ t.lane = s.lane ∧ s.reportsNoAxle t ∧
            t.plate = ⟨.clear, none, .unmeasured, false, s.plate.pendingEntry, s.plate.faultHold⟩ ∧
            t.timers.seqTimer = ⟨false, 0, false⟩) ∧
          (s.plate.crossing = .onPlate → s.plate.measure = .draining → t.plate = { s.plate with pendingEntry := true }))) ∧
      (s.onlyLine x .plateExit → x.plateExit = true →
        Completes (.tick32Hz x first) s (fun t =>
          (s.plate.crossing = .clear → t.plate = { s.plate with crossing := .reversing } ∧ s.onlyChanges [.clock, .filter, .plate] t) ∧
          (s.plate.crossing = .reversing → t.plate.crossing = .clear ∧ t.lane = s.lane ∧ t.capture = s.capture ∧ s.reportsNoAxle t) ∧
          (s.plate.crossing = .onPlate → s.plate.measure = .draining → s.onlyChanges [.clock, .filter] t) ∧
          (s.plate.crossing = .onPlate → s.plate.measure = .measuring → s.plate.pendingEntry = false → t.capture.gateOpen = false ∧
            t.capture.s0.running = false ∧ (t.plate.crossing = .onPlate → t.plate.measure = .draining)) ∧
          (s.plate.crossing = .onPlate → s.plate.measure = .unmeasured → s.plate.pendingEntry = false → s.plate.reportExit = true →
            t.plate.crossing = .clear ∧ t.plate.fixed = none ∧
            s.queues t (.axleEvent s.plate.axle.ticket s.plate.axle.axle .left .plate) ∧
            t.lane = s.lane.axleEvent s.plate.axle.ticket s.plate.axle.axle .left .plate)))) ∧
    (s.ready .crossingTimeout = true →
      Completes .crossingExpiry s (fun t => t.plate.crossing = .clear ∧ t.plate.fixed = none ∧ t.plate.reportExit = false ∧
        t.plate.measure = .unmeasured ∧ t.plate.pendingEntry = s.plate.pendingEntry ∧ t.timers.seqTimer = ⟨false, 0, false⟩ ∧
        (s.plate.measure = .measuring → s.givesUpMeasuring t) ∧ s.reportsNoAxle t ∧
        t.guidance.isRaised .vehicleNotRegistered = false ∧ s.onlyChanges [.bus, .timers, .capture, .eval, .plate, .guidance] t)) ∧
    ∀ (src : BitVec 4) (p : List Byte), s.listens src = true → s.plateActive = true →
      (∀ c : StopCause, p.length = 1 → byteAt p 0 = c.code → s.bus.latch.stopped = false → Completes (.laneStop src p) s (fun t =>
        (s.plate.crossing = .onPlate → s.plate.measure = .measuring → s.goesOnUnmeasured t) ∧
        (s.plate.crossing ≠ .onPlate ∨ s.plate.measure ≠ .measuring → t.plate = s.plate ∧ t.capture = s.capture))) ∧
      (p.length = 2 → ∀ e, s.lane.find (wordAt p 0) = some e → (e.state = .registered ∨ e.state = .inLane ∨ e.state = .complete) →
        Completes (.vehicleCancel src p) s (fun t =>
          (s.plate.crossing = .onPlate → s.plate.measure = .measuring → s.plate.axle.ticket = wordAt p 0 → s.goesOnUnmeasured t) ∧
          (s.plate.crossing ≠ .onPlate ∨ s.plate.measure ≠ .measuring ∨ s.plate.axle.ticket ≠ wordAt p 0 →
            t.plate = s.plate ∧ t.capture = s.capture)))

/-! ### The guidance unit (chapter 8) -/

/-- tier 2. R106, R143, R144, R145: the three frames of the warning protocol: a MOTOR_WARNING raises WARNING_FROM_PEER on a PANEL station
and is confirmed when it is displayed; a ROLLERS_STOPPED of its sender lowers it and one of another station leaves it, where no prompt
stands twice (`State.promptLaw`, kept by every step: EveryStepKeepsThePromptCountAndCaptureLaws); a WARNING_SHOWN takes its sender from the
awaited set of WARN. -/
def Obligations.WarningsAreShownAndConfirmed : Prop :=
  ∀ (s : State) (src : BitVec 4) (p : List Byte), s.listens src = true → src.toNat ≠ s.startUp.ownNumber →
    (p.length = 4 → ∀ k : TestKind, byteAt p 3 = k.code → s.isPanel = true →
      Completes (.motorWarning src p) s (fun t => t.lane = s.lane ∧ t.archive = s.archive ∧ t.counters = s.counters ∧
        ∃ e, t.guidance.find .warningFromPeer = some e ∧ e.lowering = false ∧ e.life = 240 ∧ e.fields =
          { station := some src.toNat, ticket := some (wordAt p 0), axle := some (byteAt p 2), kind := some k } ∧
          (t.guidance.displayed = some .warningFromPeer ↔ e.confirm = false) ∧
          (t.guidance.displayed = some .warningFromPeer → s.queues t (.warningShown src.toNat (wordAt p 0) (byteAt p 2))))) ∧
    (p.length = 4 → (2 ≤ byteAt p 3 ∨ s.isPanel = false) →
      Completes (.motorWarning src p) s (fun t => t.guidance.isRaised .warningFromPeer = s.guidance.isRaised .warningFromPeer)) ∧
    (p.length = 3 → Completes (.rollersStopped src p) s (fun t => t.lane = s.lane ∧ t.archive = s.archive ∧
      (s.promptLaw = true →
        ((s.guidance.find .warningFromPeer).any (fun e => e.fields.station = some src.toNat) = true →
          t.guidance.isRaised .warningFromPeer = false) ∧
        ((s.guidance.find .warningFromPeer).any (fun e => e.fields.station = some src.toNat) = false →
          t.guidance.isRaised .warningFromPeer = s.guidance.isRaised .warningFromPeer)))) ∧
    (p.length = 4 → s.rollerActive = true → s.roller.phase = .warn → byteAt p 0 = s.startUp.ownNumber →
      s.roller.fixed = some ⟨wordAt p 1, byteAt p 3⟩ → src.toNat ∈ s.roller.awaited →
      Completes (.warningShown src p) s (fun t => t.roller.awaited = (s.roller.awaited.filter fun n => n ≠ src.toNat) ∧
        t.roller.phase = .warn ∧ t.roller.motors = s.roller.motors ∧ t.lane = s.lane ∧
        (t.roller.awaited = [] → s.roller.warnWait = some .confirming →
          t.roller.warnWait = some .runOut ∧ t.timers.seqTimer = ⟨true, 8, false⟩) ∧
        (t.roller.awaited ≠ [] → t.roller.warnWait = s.roller.warnWait ∧ t.timers.seqTimer = s.timers.seqTimer)))

/-- tier 2. R50, R132, R133, R136, R139, R141, R145, R146: the guidance unit's own events. After a choice nothing in the set has a higher
priority than the displayed prompt. A PANEL_FRAME_SENT with nothing being sent changes nothing (the model's choice: log entry 9). A panel
frame counts as the last frame sent from the start of its sending, so a waiting frame becomes it as the frame before it ends (the model's
choice: log entry 57). At an 8 Hz tick the displayed prompt's show count rises, and a new horn request comes in force with its tone. At a 1 Hz tick a PANEL station
judges its lane entry by the lowest busy roller, the first of the peer list, which stands in station order (`State.peerLaw`, kept by every
step: EveryStepKeepsTheListLaws), and by the entering ticket. -/
def Obligations.GuidanceEventsActOnThePanel : Prop :=
  ∀ s : State,
    (s.ready .minimumShow = true →
      Completes .minimumShowTimeMet s (fun t => s.onlyChanges [.bus, .guidance] t ∧ t.guidance.showDue = false ∧
        (∀ e ∈ t.guidance.prompts, ¬(e.lowering = true ∧ 16 ≤ e.showCount)) ∧
        ∀ d, t.guidance.displayed = some d → ∀ e ∈ t.guidance.prompts, e.prompt.priority ≤ d.priority)) ∧
    (∀ c d p, (c, d, p) ∈ [(Instr.entryRejectedLifeEnd, Due.rejectedLife, Prompt.entryRejected),
        (Instr.warningLifeEnd, Due.warningLife, Prompt.warningFromPeer)] → s.ready d = true →
      Completes c s (fun t => s.onlyChanges [.bus, .guidance] t ∧ t.guidance.isRaised p = false ∧
        (s.guidance.displayed ≠ some p → t.guidance.find p = none))) ∧
    (s.ready .singleEnd = true →
      exec .singleCountEnd s = .next ((s.setGuidance { s.guidance with horn := { s.guidance.horn with inForce := .off } }).setTimers
        { s.timers with tone := { s.timers.tone with running := false, output := false } })) ∧
    (s.quiet = true →
      Completes .panelFrameSent s (fun t => s.onlyChanges [.guidance] t ∧
        (s.guidance.sending = true → s.guidance.waiting = false → t.guidance = { s.guidance with sending := false }) ∧
        (s.guidance.sending = true → s.guidance.waiting = true →
          t.guidance = { s.guidance with waiting := false, lastFrame := composition s }) ∧
        (s.guidance.sending = false → t = s))) ∧
    (s.quiet = true → (s.rollerActive = false ∨ s.roller.phase ≠ .spinUp) → ∀ p, s.guidance.displayed = some p →
      ∀ first : List TickTaker, ∀ h, h = s.guidance.horn.requested → ∀ reload, reload = (if 6 ≤ p.priority then 24 else 61) →
      Completes (.tick8Hz first) s (fun t => t.guidance.displayed = some p ∧
        (∀ e, s.guidance.find p = some e → (t.guidance.find p).map (·.showCount) = some (min 16 (e.showCount + 1))) ∧
        (s.guidance.horn.isNew = true →
          t.guidance.horn = ⟨h, false, h, if h = .single then 4 else s.guidance.horn.singleCount, if 6 ≤ p.priority then .high else .low⟩ ∧
          (h = .off → t.timers.tone = { s.timers.tone with reload := reload, running := false, output := false }) ∧
          (h ≠ .off → s.guidance.horn.inForce = .off → t.timers.tone = ⟨reload, reload, true, false⟩) ∧
          (h ≠ .off → s.guidance.horn.inForce ≠ .off → t.timers.tone = { s.timers.tone with reload := reload })) ∧
        (s.guidance.horn.isNew = false → t.timers.tone = s.timers.tone ∧ t.guidance.horn = { s.guidance.horn with
          singleCount := s.guidance.horn.singleCount - (if s.guidance.horn.inForce = .single then 1 else 0) }))) ∧
    (s.quiet = true → s.isPanel = true → s.promptLaw = true → ∀ entering, entering = (s.lane.expected .roller).ticket →
      ∀ busy, busy = s.bus.peers.find? (fun q => q.role = some .roller ∧ q.activity = some .testing ∧ q.ticket ≠ some entering) →
      Completes .tick1Hz s (fun t =>
        (∀ q, busy = some q → t.guidance.isRaised .wait = true ∧ t.guidance.isRaised .driveOn = false ∧
          (t.guidance.find .wait).map (·.fields) = some { station := some q.station } ∧
          (s.guidance.isRaised .wait = true → (s.guidance.find .wait).map (·.fields) = some { station := some q.station } →
            s.guidance.isRaised .driveOn = false → t.guidance.prompts = s.guidance.prompts ∧ t.guidance.horn = s.guidance.horn)) ∧
        (busy = none → entering ≠ 0 → t.guidance.isRaised .wait = false ∧ t.guidance.isRaised .driveOn = true ∧
          (t.guidance.find .driveOn).map (·.fields) = some { ticket := some entering } ∧
          (s.guidance.isRaised .driveOn = true → (s.guidance.find .driveOn).map (·.fields) = some { ticket := some entering } →
            s.guidance.isRaised .wait = false → t.guidance.prompts = s.guidance.prompts ∧ t.guidance.horn = s.guidance.horn)) ∧
        (busy = none → entering = 0 → t.guidance.isRaised .wait = false ∧ t.guidance.isRaised .driveOn = false)))

/-! ### The certificate unit and the archive (chapters 9 and 10) -/

/-- tier 2. R150, R151, R169: a CERT_REQUEST and a REPRINT_REQUEST of a station in the peer list, each by the first case that applies.
The archive's lookup finds the slot whose row is RECORD with the number and whose block is not under erase, the lowest where several slots
are so (the model's choice: log entry 30); where no slot is so the request is refused as unknown. A REPRINT_REQUEST at a station
without a printer is judged in R151's order (the model's reading: log entry 43). -/
def Obligations.RequestsAreJudgedByTheirFirstCase : Prop :=
  (∀ (a : Archive) (n : CertNo) (i : Nat), a.lookup n = some i ↔ a.offers n i ∧ ∀ k, k < i → ¬a.offers n k) ∧
  ∀ (s : State) (src : BitVec 4) (p : List Byte), s.listens src = true → src.toNat ≠ s.startUp.ownNumber →
    (s.bus.peer src.toNat).isSome = true →
    (p.length = 3 →
    Completes (.certRequest src p) s (fun t => t.lane = s.lane ∧ t.archive = s.archive ∧ t.guidance = s.guidance ∧
      (byteAt p 0 ≠ s.startUp.ownNumber ∨ s.started = false ∨ s.bus.canQueue = false →
        t.cert = s.cert ∧ t.bus.queue = s.bus.queue) ∧
      (byteAt p 0 = s.startUp.ownNumber → s.started = true → s.bus.canQueue = true →
        (s.startUp.printer = false →
          t.cert = s.cert ∧ s.queues t (.printAnswer src.toNat (.ticket (wordAt p 1)) .refusedNoPrinter)) ∧
        (s.startUp.printer = true → (s.lane.find (wordAt p 1)).all (fun e => e.state = .abandoned) = true →
          t.cert = s.cert ∧ s.queues t (.printAnswer src.toNat (.ticket (wordAt p 1)) .refusedUnknown)) ∧
        (s.startUp.printer = true → (s.lane.find (wordAt p 1)).any (fun e => e.state ≠ .abandoned) = true →
          ((∃ j ∈ s.cert.jobs, j.subject = .ticket (wordAt p 1)) → t.bus.queue = s.bus.queue ∧ t.cert = { s.cert with
            jobs := s.cert.jobs.map fun j => if j.subject = .ticket (wordAt p 1) then { j with requester := src.toNat } else j }) ∧
          ((∀ j ∈ s.cert.jobs, j.subject ≠ .ticket (wordAt p 1)) → 4 ≤ s.cert.jobs.length →
            t.cert = s.cert ∧ s.queues t (.printAnswer src.toNat (.ticket (wordAt p 1)) .refusedQueueFull)) ∧
          ((∀ j ∈ s.cert.jobs, j.subject ≠ .ticket (wordAt p 1)) → s.cert.jobs.length < 4 → t.bus.queue = s.bus.queue ∧
            t.cert = { s.cert with jobs := s.cert.jobs ++ [⟨.ticket (wordAt p 1), src.toNat, .queued⟩] }))))) ∧
    (p.length = 4 → byteAt p 0 = s.startUp.ownNumber → s.started = true →
    s.bus.canQueue = true →
    Completes (.reprintRequest src p) s (fun t => t.lane = s.lane ∧ t.archive = s.archive ∧ t.guidance = s.guidance ∧
      ((∀ i, i < 32 → ¬s.archive.offers ⟨byteAt p 1, wordAt p 2⟩ i) →
        t.cert = s.cert ∧ s.queues t (.printAnswer src.toNat (.certificate ⟨byteAt p 1, wordAt p 2⟩) .refusedUnknown)) ∧
      ∀ i, s.archive.lookup ⟨byteAt p 1, wordAt p 2⟩ = some i →
        ((s.archive.store i).content = none →
          t.cert = s.cert ∧ s.queues t (.printAnswer src.toNat (.certificate ⟨byteAt p 1, wordAt p 2⟩) .refusedDamaged)) ∧
        (∀ c, (s.archive.store i).content = some c →
          (3 ≤ (s.archive.row i).marks →
            t.cert = s.cert ∧ s.queues t (.printAnswer src.toNat (.certificate ⟨byteAt p 1, wordAt p 2⟩) .refusedLimit)) ∧
          ((s.archive.row i).marks < 3 →
            (s.startUp.printer = false →
              t.cert = s.cert ∧ s.queues t (.printAnswer src.toNat (.certificate ⟨byteAt p 1, wordAt p 2⟩) .refusedNoPrinter)) ∧
            (s.startUp.printer = true → 4 ≤ s.cert.jobs.length →
              t.cert = s.cert ∧ s.queues t (.printAnswer src.toNat (.certificate ⟨byteAt p 1, wordAt p 2⟩) .refusedQueueFull)) ∧
            (s.startUp.printer = true → s.cert.jobs.length < 4 → t.cert = { s.cert with
              jobs := s.cert.jobs ++ [⟨.certificate ⟨byteAt p 1, wordAt p 2⟩, src.toNat, .queued⟩] })))))

/-- tier 2. R94, R152, R153, R164, R165, R166: the start of the head job: the sequence taken, the content formed from the entry, its remarks
and required flags among it, or copied from the record, page 1, its first 16 lines, unsent in OUTPUT; or the job answered and taken out of
the queue. A CERTIFICATE job's record write begins at the first slot from the write position on that is ERASED or enters a block, the block
erased first where a slot of it is not ERASED; it joins the requests of a busy archive, and fails at once where 4 wait. -/
def Obligations.JobsStartWithTheirContent : Prop :=
  ∀ s : State,
    (s.ready .certificateStart = true → ∀ j, s.cert.jobs.head? = some j → ∀ n, j.subject = .ticket n →
      Completes .certificateJobStart s (fun t => t.lane = s.lane ∧
        ((s.lane.find n).all (fun e => e.state = .abandoned) = true → t.archive = s.archive ∧ t.cert.source = s.cert.source ∧
          (∃ more, t.cert.jobs = s.cert.jobs.tail ++ more ∧ ∀ x ∈ more, x.requester = 0 ∧ x.state = .queued) ∧
          (j.requester ≠ 0 → s.queues t (.printAnswer j.requester (.ticket n) .refusedUnknown))) ∧
        (∀ e, s.lane.find n = some e → e.state ≠ .abandoned →
          t.archive.nextSeq = (if 65535 ≤ s.archive.nextSeq then 1 else s.archive.nextSeq + 1) ∧
          t.cert.jobs.head? = some { j with state := if s.cert.paperOut then .paperWait else .printing } ∧
          t.guidance.isRaised .printing = true ∧ ∃ c, t.cert.source = some c ∧
            t.cert.output = ((c.lines (t.cert.footerFail.getD false)).take 16).map (fun l => ⟨l, false⟩) ∧
            c.number = ⟨s.startUp.ownNumber, s.archive.nextSeq⟩ ∧ c.ticket = n ∧ c.plate = e.plate ∧ c.cls = e.cls ∧
            c.brake = e.brake ∧ c.axleCount = e.axleCount ∧ c.time = e.time ∧ c.parkingSet = e.parkingSet ∧
            c.steeredSet = e.steeredSet ∧ c.axles = e.axles ∧ c.denominator = e.denominator ∧
            c.serviceRatio = e.serviceRatio ∧ c.parkingRatio = e.parkingRatio ∧ c.verdict = e.formVerdict s.slipRequired ∧
            c.identity = s.identity ∧ c.duplicate = none ∧
            (c.remarks.ovality = true ↔ ∃ a ∈ e.axles, ∃ b ∈ a.service.toList ++ a.parking.toList,
              20 < b.figures.ovalL.getD 0 ∨ 20 < b.figures.ovalR.getD 0) ∧
            (c.remarks.brakeDrag = true ↔ ∃ a ∈ e.axles, ∃ w ∈ a.load.toList, ∃ b ∈ a.service.toList ++ a.parking.toList,
              w.l / 20 < b.figures.rr.l ∨ w.r / 20 < b.figures.rr.r) ∧
            (c.remarks.notReferenced = true ↔ e.brake = .air ∧ ∃ a ∈ e.axles, ∃ b ∈ a.service.toList, b.figures.fref = none) ∧
            c.required.length = e.axleCount ∧
            (∀ k, k < e.axleCount → c.required[k]? = some ⟨true, true, decide (k + 1 ∈ e.parkingSet), s.slipRequired⟩) ∧
            t.archive.storage = s.archive.storage ∧ t.archive.table = s.archive.table ∧
            (s.archiveLaw = true → (s.archive.op = .idle ∨ s.archive.requests.length < 4) → t.cert.archiveOutcome = .awaiting) ∧
            (s.archiveLaw = true → s.archive.op = .idle → t.archive.requests = s.archive.requests ∧ ∀ k, k < 32 →
              (∀ m, m < k → (s.archive.writePos + m) % 8 ≠ 0 ∧ (s.archive.row ((s.archive.writePos + m) % 32)).state ≠ .erased) →
              ∀ slot, slot = (s.archive.writePos + k) % 32 →
              (slot % 8 ≠ 0 → (s.archive.row slot).state = .erased →
                t.archive.op = .programRecord slot c ∧ t.archive.writePos = (slot + 1) % 32) ∧
              (slot % 8 = 0 → (∀ m, m < 8 → (s.archive.row (slot + m)).state = .erased) →
                t.archive.op = .programRecord slot c ∧ t.archive.writePos = (slot + 1) % 32) ∧
              (slot % 8 = 0 → (∃ m, m < 8 ∧ (s.archive.row (slot + m)).state ≠ .erased) →
                t.archive.op = .erasing (slot / 8) c [slot / 8] ∧ t.archive.writePos = slot)) ∧
            (s.archive.op ≠ .idle → t.archive.op = s.archive.op ∧ t.archive.writePos = s.archive.writePos ∧
              (s.archive.requests.length < 4 → t.archive.requests = s.archive.requests ++ [.record c]) ∧
              (4 ≤ s.archive.requests.length → t.archive.requests = s.archive.requests ∧ t.cert.archiveOutcome = .fail))))) ∧
    (s.ready .reprintStart = true → ∀ j, s.cert.jobs.head? = some j → ∀ n, j.subject = .certificate n →
      Completes .reprintJobStart s (fun t => t.lane = s.lane ∧ t.archive = s.archive ∧
        ((∀ i, s.archive.lookup n = some i → ∀ c, (s.archive.store i).content = some c → 3 ≤ (s.archive.row i).marks) →
          ∃ more, t.cert.jobs = s.cert.jobs.tail ++ more ∧ ∀ x ∈ more, x.requester = 0 ∧ x.state = .queued) ∧
        (s.archive.lookup n = none → j.requester ≠ 0 → s.queues t (.printAnswer j.requester (.certificate n) .refusedUnknown)) ∧
        (∀ i, s.archive.lookup n = some i → (s.archive.store i).content = none → j.requester ≠ 0 →
          s.queues t (.printAnswer j.requester (.certificate n) .refusedDamaged)) ∧
        (∀ i, s.archive.lookup n = some i → ∀ c, (s.archive.store i).content = some c →
          (3 ≤ (s.archive.row i).marks → j.requester ≠ 0 →
            s.queues t (.printAnswer j.requester (.certificate n) .refusedLimit)) ∧
          ((s.archive.row i).marks < 3 → t.cert.source = some { c with duplicate := some ((s.archive.row i).marks + 1) } ∧
            t.cert.output = ((({ c with duplicate := some ((s.archive.row i).marks + 1) } : CertContent).lines
              (t.cert.footerFail.getD false)).take 16).map (fun l => ⟨l, false⟩) ∧
            t.cert.jobs.head? = some { j with state := if s.cert.paperOut then .paperWait else .printing } ∧
            t.cert.archiveOutcome = .noOutcome ∧ t.guidance.isRaised .printing = true))))

/-- tier 2. R155, R156, R157, R159, R160, R164, R170: lines are handed in order, marked as they are sent, and the last one passes its page;
the final page ends a CERTIFICATE job with CERT_DONE and the local close, and asks the archive for a REPRINT job's mark, in the first unused
place of its slot; the job stays till the mark's report, and ends at once where nothing is programmed. That PRINTER_READY falls as a line is handed is the model's reading (log entry
20), and a LINE_SENT with nothing being sent changes nothing (its choice: log entry 9). -/
def Obligations.LinesAreHandedAndPagesPass : Prop :=
  ∀ s : State, s.quiet = true → s.printerActive = true →
    Completes .printerReadyRise s (fun t => s.onlyChanges [.pins, .cert] t ∧ t.cert.output = s.cert.output ∧
      (s.cert.sending.isSome = true ∨ s.cert.headIs .printing = false → t = s.setPins { s.pins with printerReady := true }) ∧
      (s.cert.sending = none → s.cert.headIs .printing = true →
        (s.cert.lead = some false → t.pins.printerReady = false ∧ t.cert.sending = some (.lead, printBytes leadLine)) ∧
        (s.cert.lead ≠ some false → ∀ i, i < s.cert.output.length → ∀ l, s.cert.output[i]? = some l → l.sent = false →
          (∀ k, k < i → ∀ m, s.cert.output[k]? = some m → m.sent = true) →
          t.pins.printerReady = false ∧ t.cert.sending = some (.line i, printBytes l.text)))) ∧
    (s.cert.sending = none → exec .lineSent s = .next s) ∧
    ∀ i bytes, s.cert.sending = some (.line i, bytes) →
      Completes .lineSent s (fun t =>
        (s.cert.output.length ≠ i + 1 ∨ s.cert.current = .fail → s.pins.printerReady = false → t = s.setCert { s.cert with
          sending := none, output := s.cert.output.modify i fun l => { l with sent := true } }) ∧
        (s.cert.output.length = i + 1 → s.cert.current ≠ .fail → s.cert.compose ≠ [] →
          t.cert.output = (s.cert.compose.map fun l => ⟨l, false⟩) ∧ t.cert.previous = .pass ∧ t.lane = s.lane) ∧
        (s.cert.output.length = i + 1 → s.cert.current ≠ .fail → s.cert.compose = [] →
          ∀ j, s.cert.jobs.head? = some j → ∀ n, j.subject = .ticket n → ∀ c, s.cert.source = some c →
            s.queues t (.certDone n c.number c.verdict) ∧ t.lane = s.lane.closeLocal n c.number c.verdict ∧
            n ∉ t.cert.completed ∧ t.cert.source = none ∧ t.cert.output = [] ∧ t.guidance.isRaised .printing = false ∧
            (j.requester ≠ 0 → s.queues t (.printAnswer j.requester (.ticket n) .printed)) ∧ t.archive = s.archive) ∧
        (s.cert.output.length = i + 1 → s.cert.current ≠ .fail → s.cert.compose = [] →
          ∀ j, s.cert.jobs.head? = some j → ∀ n, j.subject = .certificate n → j.state = .printing → s.cert.source.isSome = true →
            (s.archive.op = .idle → (s.archive.lookup n = none → s.endsReprint t j n ∧ t.archive = s.archive) ∧
              ∀ k, s.archive.lookup n = some k →
                (3 ≤ (s.archive.row k).used → s.endsReprint t j n ∧ t.archive = s.archive) ∧
                ((s.archive.row k).used < 3 → s.awaitsItsMark t ∧ t.archive = { s.archive with op := t.archive.op } ∧
                  ∀ place, place < 3 → (s.archive.store k).marks[place]? = some .unused →
                    (∀ m, m < place → (s.archive.store k).marks[m]? ≠ some .unused) →
                    t.archive.op = .programMark k place j.requester)) ∧
            (s.archive.op ≠ .idle →
              (s.archive.requests.length < 4 → s.awaitsItsMark t ∧
                t.archive = { s.archive with requests := s.archive.requests ++ [.mark n j.requester] }) ∧
              (4 ≤ s.archive.requests.length → s.endsReprint t j n ∧ t.archive = s.archive))))

/-- tier 2. R148, R158: paper that runs out fails the page being sent and starts PAPER_WAIT; its return sends the page again from its
first line; the expiry ends the job, which leaves the queue, answered FAILED_PAPER. -/
def Obligations.PaperOutHoldsThePage : Prop :=
  ∀ s : State,
    (s.quiet = true → s.printerActive = true → s.cert.paperOut = false →
      Completes .paperOutActive s (fun t => t.pins.paperOut = true ∧ t.cert.paperOut = true ∧
        t.guidance.isRaised .paperOut = true ∧ t.lane = s.lane ∧ t.archive = s.archive ∧ t.cert.output = s.cert.output ∧
        t.cert.sending = s.cert.sending ∧
        (s.cert.headIs .printing = true → s.cert.output ≠ [] → t.cert.headIs .paperWait = true ∧ t.cert.current = .fail ∧
          t.timers.certTimer = ⟨true, 960, false⟩) ∧
        (s.cert.headIs .printing = false ∨ s.cert.output = [] → t.cert.current = s.cert.current ∧
          t.timers.certTimer = s.timers.certTimer))) ∧
    (s.quiet = true → s.printerActive = true → s.cert.paperOut = true →
      Completes .paperOutInactive s (fun t => t.pins.paperOut = false ∧ t.cert.paperOut = false ∧
        t.guidance.isRaised .paperOut = false ∧ t.lane = s.lane ∧ t.archive = s.archive ∧
        (s.cert.headIs .paperWait = true → t.cert.headIs .printing = true ∧ t.timers.certTimer = ⟨false, 0, false⟩ ∧
          t.cert.output = (s.cert.output.map fun l => ⟨l.text, false⟩) ∧ t.cert.previous = s.cert.current ∧
          t.cert.lead = (if s.cert.current = .fail then some false else none)))) ∧
    (s.ready .paperWait = true → ∀ j, s.cert.jobs.head? = some j →
      Completes .paperWaitExpiry s (fun t => t.cert.source = none ∧ t.cert.output = [] ∧ t.cert.compose = [] ∧ t.lane = s.lane ∧
        (∃ more, t.cert.jobs = s.cert.jobs.tail ++ more ∧ ∀ x ∈ more, x.requester = 0 ∧ x.state = .queued) ∧
        t.archive = s.archive ∧ t.timers.certTimer = ⟨false, 0, false⟩ ∧
        (j.requester ≠ 0 → s.queues t (.printAnswer j.requester j.subject .failedPaper))))

/-- tier 2. R160, R167, R168, R170: the completions of a record program, a mark program and a block erase: the slot's row and storage, every
other slot left alone, the REPRINT job that ends at its mark's report, pass or fail, and the record write that goes on after its erase. The bytes under a record's CRC-16 and a BAD row's marks and places are
the model's (log entries 13 and 42). -/
def Obligations.ArchiveOperationsComplete : Prop :=
  ∀ s : State, s.quiet = true → s.archiveLaw = true →
    (∀ (slot : Nat) (c : CertContent), s.archive.op = .programRecord slot c → slot < 32 → ∀ (pass : Bool) (left : Residue),
      Completes (.recordProgramComplete pass left) s (fun t => t.lane = s.lane ∧
        t.archive.table = s.archive.table.set slot ⟨if pass then .record else .bad, some c.number, 0, 0⟩ ∧
        (∀ i, i ≠ slot → t.archive.store i = s.archive.store i) ∧
        (left = .whole → (t.archive.store slot).content = some c ∧ (t.archive.store slot).header = .checks c.number ∧
          (t.archive.store slot).body = .written c (crcBytes (certBytes c.number ++ c.body))) ∧
        t.archive.nextSeq = s.archive.nextSeq ∧ (s.archive.requests = [] → t.archive.op = .idle ∧
          t.archive.writePos = s.archive.writePos) ∧
        (∀ j, s.cert.jobs.head? = some j → ∀ n, j.subject = .ticket n → ∀ d, s.cert.source = some d → d.number = c.number →
          t.cert.archiveOutcome = if pass then .pass else .fail))) ∧
    (∀ (slot place requester : Nat), s.archive.op = .programMark slot place requester → slot < 32 → ∀ pass : Bool,
      Completes (.markProgramComplete pass) s (fun t => t.lane = s.lane ∧ t.archive.nextSeq = s.archive.nextSeq ∧
        (t.archive.row slot).used = (s.archive.row slot).used + 1 ∧
        (t.archive.row slot).marks = (s.archive.row slot).marks + (if pass then 1 else 0) ∧
        (t.archive.row slot).state = (s.archive.row slot).state ∧ (t.archive.row slot).number = (s.archive.row slot).number ∧
        (t.archive.store slot).marks = (s.archive.store slot).marks.set place (if pass then .mark requester else .spoiled) ∧
        (∀ i, i ≠ slot → t.archive.row i = s.archive.row i ∧ t.archive.store i = s.archive.store i) ∧
        (∀ j, s.cert.jobs.head? = some j → ∀ n, j.subject = .certificate n → j.state = .printing → s.cert.source.isSome = true →
          s.cert.output = [] → s.endsReprint t j n))) ∧
    (∀ (block : Nat) (c : CertContent) (entered : List Nat), s.archive.op = .erasing block c entered → ∀ left : List Residue,
      Completes (.eraseComplete left) s (fun t => t.lane = s.lane ∧ t.archive.nextSeq = s.archive.nextSeq ∧
        (∀ i, i < 32 → i / 8 = block → left[i % 8]? = some .erased → t.archive.row i = ⟨.erased, none, 0, 0⟩) ∧
        (∀ i, i < 32 → i / 8 = block → left[i % 8]? = some .unreadable → t.archive.row i = ⟨.bad, none, 0, 0⟩) ∧
        (∀ i, i < 32 → i / 8 ≠ block → t.archive.row i = s.archive.row i ∧ t.archive.store i = s.archive.store i) ∧
        (s.archive.writePos / 8 = block → left[s.archive.writePos % 8]? = some .erased →
          t.archive.op = .programRecord s.archive.writePos c ∧ t.archive.writePos = (s.archive.writePos + 1) % 32)))

/-! ### Laws that every step keeps, and the wire -/

/-- tier 3. R97, R102, R114, R117: the motors run in SPIN_UP, ZERO and TEST alone, never while the lane is stopped; a stopped lane and a
fault hold keep the sequence in IDLE. -/
def Obligations.EveryStepKeepsTheMotorLaw : Prop := ∀ s t : State, s.motorLaw = true → step s = .next t → t.motorLaw = true

/-- tier 3. R1, R30, R31, R34, R36, R40, R147, R163, R164, R166: the peer list stands in rising order of station number, at most 14 of the
numbers 1 to 15, the own number never among them; the transmit queue holds at most 8 frames, and none in STARTING and LISTEN_ONLY; the
vehicle table at most 4 entries, no ticket twice, none with ticket 0; the print job queue at most 4 jobs, those behind the head QUEUED; the
archive 32 slots with their rows, a write position among them, and at most 4 requests. -/
def Obligations.EveryStepKeepsTheListLaws : Prop :=
  ∀ s t : State, step s = .next t → (s.queueLaw = true → t.queueLaw = true) ∧ (s.tableLaw = true → t.tableLaw = true) ∧
    (s.jobLaw = true → t.jobLaw = true) ∧ (s.archiveLaw = true → t.archiveLaw = true) ∧ (s.peerLaw = true → t.peerLaw = true)

/-- tier 3. R44, R53, R59, R60, R67, R69, R71, R72, R130, R133: no prompt stands twice in the set, and LANE_READY is always in it, RAISED; the
lane clock stays an 8-bit count and the pulse counters at 4095 or below; no FULL page waits while the evaluation unit is free, at most one
buffer of a stream is FILLING, only of a RUNNING stream, and the FAULTED inputs and one-off requests stand in rising order. -/
def Obligations.EveryStepKeepsThePromptCountAndCaptureLaws : Prop :=
  ∀ s t : State, step s = .next t → (s.promptLaw = true → t.promptLaw = true) ∧ (s.countLaw = true → t.countLaw = true) ∧
    (s.captureLaw = true → t.captureLaw = true)

/-- tier 2. R23, R24, R25, R179: a receiver that reads the bits of a frame, stuff bits and end field included, hears that frame. -/
def Obligations.FramesSurviveTheWire : Prop :=
  ∀ f : WireFrame, f.cls < 4 → f.kind < 32 → f.source < 16 → f.payload.length ≤ 28 → receive f.bits = .heard f
end

