-- ==== Sys2Proof/Laws/State.lean ====
section
/-! SUPPORT. What each update of State leaves and sets, field by field: one simp lemma a setter, so that no proof unfolds an update. -/

namespace Sys2Proof.Machine

@[simp] theorem State.setPower_fields (s : State) (x : Power) :
    (s.setPower x).power = x ∧ (s.setPower x).startUp = s.startUp ∧ (s.setPower x).pins = s.pins ∧
    (s.setPower x).lane = s.lane ∧ (s.setPower x).bus = s.bus ∧ (s.setPower x).clock = s.clock ∧
    (s.setPower x).filter = s.filter ∧ (s.setPower x).timers = s.timers ∧ (s.setPower x).counters = s.counters ∧
    (s.setPower x).capture = s.capture ∧ (s.setPower x).eval = s.eval ∧ (s.setPower x).roller = s.roller ∧
    (s.setPower x).plate = s.plate ∧ (s.setPower x).guidance = s.guidance ∧ (s.setPower x).cert = s.cert ∧
    (s.setPower x).archive = s.archive ∧ (s.setPower x).pending = s.pending :=
  ⟨rfl, rfl, rfl, rfl, rfl, rfl, rfl, rfl, rfl, rfl, rfl, rfl, rfl, rfl, rfl, rfl, rfl⟩

@[simp] theorem State.setStartUp_fields (s : State) (x : StartUp) :
    (s.setStartUp x).power = s.power ∧ (s.setStartUp x).startUp = x ∧ (s.setStartUp x).pins = s.pins ∧
    (s.setStartUp x).lane = s.lane ∧ (s.setStartUp x).bus = s.bus ∧ (s.setStartUp x).clock = s.clock ∧
    (s.setStartUp x).filter = s.filter ∧ (s.setStartUp x).timers = s.timers ∧ (s.setStartUp x).counters = s.counters ∧
    (s.setStartUp x).capture = s.capture ∧ (s.setStartUp x).eval = s.eval ∧ (s.setStartUp x).roller = s.roller ∧
    (s.setStartUp x).plate = s.plate ∧ (s.setStartUp x).guidance = s.guidance ∧ (s.setStartUp x).cert = s.cert ∧
    (s.setStartUp x).archive = s.archive ∧ (s.setStartUp x).pending = s.pending :=
  ⟨rfl, rfl, rfl, rfl, rfl, rfl, rfl, rfl, rfl, rfl, rfl, rfl, rfl, rfl, rfl, rfl, rfl⟩

@[simp] theorem State.setPins_fields (s : State) (x : Pins) :
    (s.setPins x).power = s.power ∧ (s.setPins x).startUp = s.startUp ∧ (s.setPins x).pins = x ∧ (s.setPins x).lane = s.lane ∧
    (s.setPins x).bus = s.bus ∧ (s.setPins x).clock = s.clock ∧ (s.setPins x).filter = s.filter ∧
    (s.setPins x).timers = s.timers ∧ (s.setPins x).counters = s.counters ∧ (s.setPins x).capture = s.capture ∧
    (s.setPins x).eval = s.eval ∧ (s.setPins x).roller = s.roller ∧ (s.setPins x).plate = s.plate ∧
    (s.setPins x).guidance = s.guidance ∧ (s.setPins x).cert = s.cert ∧ (s.setPins x).archive = s.archive ∧
    (s.setPins x).pending = s.pending :=
  ⟨rfl, rfl, rfl, rfl, rfl, rfl, rfl, rfl, rfl, rfl, rfl, rfl, rfl, rfl, rfl, rfl, rfl⟩

@[simp] theorem State.setLane_fields (s : State) (x : LaneView) :
    (s.setLane x).power = s.power ∧ (s.setLane x).startUp = s.startUp ∧ (s.setLane x).pins = s.pins ∧ (s.setLane x).lane = x ∧
    (s.setLane x).bus = s.bus ∧ (s.setLane x).clock = s.clock ∧ (s.setLane x).filter = s.filter ∧
    (s.setLane x).timers = s.timers ∧ (s.setLane x).counters = s.counters ∧ (s.setLane x).capture = s.capture ∧
    (s.setLane x).eval = s.eval ∧ (s.setLane x).roller = s.roller ∧ (s.setLane x).plate = s.plate ∧
    (s.setLane x).guidance = s.guidance ∧ (s.setLane x).cert = s.cert ∧ (s.setLane x).archive = s.archive ∧
    (s.setLane x).pending = s.pending :=
  ⟨rfl, rfl, rfl, rfl, rfl, rfl, rfl, rfl, rfl, rfl, rfl, rfl, rfl, rfl, rfl, rfl, rfl⟩

@[simp] theorem State.setBus_fields (s : State) (x : Bus) :
    (s.setBus x).power = s.power ∧ (s.setBus x).startUp = s.startUp ∧ (s.setBus x).pins = s.pins ∧ (s.setBus x).lane = s.lane ∧
    (s.setBus x).bus = x ∧ (s.setBus x).clock = s.clock ∧ (s.setBus x).filter = s.filter ∧ (s.setBus x).timers = s.timers ∧
    (s.setBus x).counters = s.counters ∧ (s.setBus x).capture = s.capture ∧ (s.setBus x).eval = s.eval ∧
    (s.setBus x).roller = s.roller ∧ (s.setBus x).plate = s.plate ∧ (s.setBus x).guidance = s.guidance ∧
    (s.setBus x).cert = s.cert ∧ (s.setBus x).archive = s.archive ∧ (s.setBus x).pending = s.pending :=
  ⟨rfl, rfl, rfl, rfl, rfl, rfl, rfl, rfl, rfl, rfl, rfl, rfl, rfl, rfl, rfl, rfl, rfl⟩

@[simp] theorem State.setClock_fields (s : State) (x : Clock) :
    (s.setClock x).power = s.power ∧ (s.setClock x).startUp = s.startUp ∧ (s.setClock x).pins = s.pins ∧
    (s.setClock x).lane = s.lane ∧ (s.setClock x).bus = s.bus ∧ (s.setClock x).clock = x ∧ (s.setClock x).filter = s.filter ∧
    (s.setClock x).timers = s.timers ∧ (s.setClock x).counters = s.counters ∧ (s.setClock x).capture = s.capture ∧
    (s.setClock x).eval = s.eval ∧ (s.setClock x).roller = s.roller ∧ (s.setClock x).plate = s.plate ∧
    (s.setClock x).guidance = s.guidance ∧ (s.setClock x).cert = s.cert ∧ (s.setClock x).archive = s.archive ∧
    (s.setClock x).pending = s.pending :=
  ⟨rfl, rfl, rfl, rfl, rfl, rfl, rfl, rfl, rfl, rfl, rfl, rfl, rfl, rfl, rfl, rfl, rfl⟩

@[simp] theorem State.setFilter_fields (s : State) (x : Filter) :
    (s.setFilter x).power = s.power ∧ (s.setFilter x).startUp = s.startUp ∧ (s.setFilter x).pins = s.pins ∧
    (s.setFilter x).lane = s.lane ∧ (s.setFilter x).bus = s.bus ∧ (s.setFilter x).clock = s.clock ∧ (s.setFilter x).filter = x ∧
    (s.setFilter x).timers = s.timers ∧ (s.setFilter x).counters = s.counters ∧ (s.setFilter x).capture = s.capture ∧
    (s.setFilter x).eval = s.eval ∧ (s.setFilter x).roller = s.roller ∧ (s.setFilter x).plate = s.plate ∧
    (s.setFilter x).guidance = s.guidance ∧ (s.setFilter x).cert = s.cert ∧ (s.setFilter x).archive = s.archive ∧
    (s.setFilter x).pending = s.pending :=
  ⟨rfl, rfl, rfl, rfl, rfl, rfl, rfl, rfl, rfl, rfl, rfl, rfl, rfl, rfl, rfl, rfl, rfl⟩

@[simp] theorem State.setTimers_fields (s : State) (x : Timers) :
    (s.setTimers x).power = s.power ∧ (s.setTimers x).startUp = s.startUp ∧ (s.setTimers x).pins = s.pins ∧
    (s.setTimers x).lane = s.lane ∧ (s.setTimers x).bus = s.bus ∧ (s.setTimers x).clock = s.clock ∧
    (s.setTimers x).filter = s.filter ∧ (s.setTimers x).timers = x ∧ (s.setTimers x).counters = s.counters ∧
    (s.setTimers x).capture = s.capture ∧ (s.setTimers x).eval = s.eval ∧ (s.setTimers x).roller = s.roller ∧
    (s.setTimers x).plate = s.plate ∧ (s.setTimers x).guidance = s.guidance ∧ (s.setTimers x).cert = s.cert ∧
    (s.setTimers x).archive = s.archive ∧ (s.setTimers x).pending = s.pending :=
  ⟨rfl, rfl, rfl, rfl, rfl, rfl, rfl, rfl, rfl, rfl, rfl, rfl, rfl, rfl, rfl, rfl, rfl⟩

@[simp] theorem State.setCounters_fields (s : State) (x : Counters) :
    (s.setCounters x).power = s.power ∧ (s.setCounters x).startUp = s.startUp ∧ (s.setCounters x).pins = s.pins ∧
    (s.setCounters x).lane = s.lane ∧ (s.setCounters x).bus = s.bus ∧ (s.setCounters x).clock = s.clock ∧
    (s.setCounters x).filter = s.filter ∧ (s.setCounters x).timers = s.timers ∧ (s.setCounters x).counters = x ∧
    (s.setCounters x).capture = s.capture ∧ (s.setCounters x).eval = s.eval ∧ (s.setCounters x).roller = s.roller ∧
    (s.setCounters x).plate = s.plate ∧ (s.setCounters x).guidance = s.guidance ∧ (s.setCounters x).cert = s.cert ∧
    (s.setCounters x).archive = s.archive ∧ (s.setCounters x).pending = s.pending :=
  ⟨rfl, rfl, rfl, rfl, rfl, rfl, rfl, rfl, rfl, rfl, rfl, rfl, rfl, rfl, rfl, rfl, rfl⟩

@[simp] theorem State.setCapture_fields (s : State) (x : Capture) :
    (s.setCapture x).power = s.power ∧ (s.setCapture x).startUp = s.startUp ∧ (s.setCapture x).pins = s.pins ∧
    (s.setCapture x).lane = s.lane ∧ (s.setCapture x).bus = s.bus ∧ (s.setCapture x).clock = s.clock ∧
    (s.setCapture x).filter = s.filter ∧ (s.setCapture x).timers = s.timers ∧ (s.setCapture x).counters = s.counters ∧
    (s.setCapture x).capture = x ∧ (s.setCapture x).eval = s.eval ∧ (s.setCapture x).roller = s.roller ∧
    (s.setCapture x).plate = s.plate ∧ (s.setCapture x).guidance = s.guidance ∧ (s.setCapture x).cert = s.cert ∧
    (s.setCapture x).archive = s.archive ∧ (s.setCapture x).pending = s.pending :=
  ⟨rfl, rfl, rfl, rfl, rfl, rfl, rfl, rfl, rfl, rfl, rfl, rfl, rfl, rfl, rfl, rfl, rfl⟩

@[simp] theorem State.setEval_fields (s : State) (x : Eval) :
    (s.setEval x).power = s.power ∧ (s.setEval x).startUp = s.startUp ∧ (s.setEval x).pins = s.pins ∧
    (s.setEval x).lane = s.lane ∧ (s.setEval x).bus = s.bus ∧ (s.setEval x).clock = s.clock ∧ (s.setEval x).filter = s.filter ∧
    (s.setEval x).timers = s.timers ∧ (s.setEval x).counters = s.counters ∧ (s.setEval x).capture = s.capture ∧
    (s.setEval x).eval = x ∧ (s.setEval x).roller = s.roller ∧ (s.setEval x).plate = s.plate ∧
    (s.setEval x).guidance = s.guidance ∧ (s.setEval x).cert = s.cert ∧ (s.setEval x).archive = s.archive ∧
    (s.setEval x).pending = s.pending :=
  ⟨rfl, rfl, rfl, rfl, rfl, rfl, rfl, rfl, rfl, rfl, rfl, rfl, rfl, rfl, rfl, rfl, rfl⟩

@[simp] theorem State.setRoller_fields (s : State) (x : Roller) :
    (s.setRoller x).power = s.power ∧ (s.setRoller x).startUp = s.startUp ∧ (s.setRoller x).pins = s.pins ∧
    (s.setRoller x).lane = s.lane ∧ (s.setRoller x).bus = s.bus ∧ (s.setRoller x).clock = s.clock ∧
    (s.setRoller x).filter = s.filter ∧ (s.setRoller x).timers = s.timers ∧ (s.setRoller x).counters = s.counters ∧
    (s.setRoller x).capture = s.capture ∧ (s.setRoller x).eval = s.eval ∧ (s.setRoller x).roller = x ∧
    (s.setRoller x).plate = s.plate ∧ (s.setRoller x).guidance = s.guidance ∧ (s.setRoller x).cert = s.cert ∧
    (s.setRoller x).archive = s.archive ∧ (s.setRoller x).pending = s.pending :=
  ⟨rfl, rfl, rfl, rfl, rfl, rfl, rfl, rfl, rfl, rfl, rfl, rfl, rfl, rfl, rfl, rfl, rfl⟩

@[simp] theorem State.setPlate_fields (s : State) (x : Plate) :
    (s.setPlate x).power = s.power ∧ (s.setPlate x).startUp = s.startUp ∧ (s.setPlate x).pins = s.pins ∧
    (s.setPlate x).lane = s.lane ∧ (s.setPlate x).bus = s.bus ∧ (s.setPlate x).clock = s.clock ∧
    (s.setPlate x).filter = s.filter ∧ (s.setPlate x).timers = s.timers ∧ (s.setPlate x).counters = s.counters ∧
    (s.setPlate x).capture = s.capture ∧ (s.setPlate x).eval = s.eval ∧ (s.setPlate x).roller = s.roller ∧
    (s.setPlate x).plate = x ∧ (s.setPlate x).guidance = s.guidance ∧ (s.setPlate x).cert = s.cert ∧
    (s.setPlate x).archive = s.archive ∧ (s.setPlate x).pending = s.pending :=
  ⟨rfl, rfl, rfl, rfl, rfl, rfl, rfl, rfl, rfl, rfl, rfl, rfl, rfl, rfl, rfl, rfl, rfl⟩

@[simp] theorem State.setGuidance_fields (s : State) (x : Guidance) :
    (s.setGuidance x).power = s.power ∧ (s.setGuidance x).startUp = s.startUp ∧ (s.setGuidance x).pins = s.pins ∧
    (s.setGuidance x).lane = s.lane ∧ (s.setGuidance x).bus = s.bus ∧ (s.setGuidance x).clock = s.clock ∧
    (s.setGuidance x).filter = s.filter ∧ (s.setGuidance x).timers = s.timers ∧ (s.setGuidance x).counters = s.counters ∧
    (s.setGuidance x).capture = s.capture ∧ (s.setGuidance x).eval = s.eval ∧ (s.setGuidance x).roller = s.roller ∧
    (s.setGuidance x).plate = s.plate ∧ (s.setGuidance x).guidance = x ∧ (s.setGuidance x).cert = s.cert ∧
    (s.setGuidance x).archive = s.archive ∧ (s.setGuidance x).pending = s.pending :=
  ⟨rfl, rfl, rfl, rfl, rfl, rfl, rfl, rfl, rfl, rfl, rfl, rfl, rfl, rfl, rfl, rfl, rfl⟩

@[simp] theorem State.setCert_fields (s : State) (x : Cert) :
    (s.setCert x).power = s.power ∧ (s.setCert x).startUp = s.startUp ∧ (s.setCert x).pins = s.pins ∧
    (s.setCert x).lane = s.lane ∧ (s.setCert x).bus = s.bus ∧ (s.setCert x).clock = s.clock ∧ (s.setCert x).filter = s.filter ∧
    (s.setCert x).timers = s.timers ∧ (s.setCert x).counters = s.counters ∧ (s.setCert x).capture = s.capture ∧
    (s.setCert x).eval = s.eval ∧ (s.setCert x).roller = s.roller ∧ (s.setCert x).plate = s.plate ∧
    (s.setCert x).guidance = s.guidance ∧ (s.setCert x).cert = x ∧ (s.setCert x).archive = s.archive ∧
    (s.setCert x).pending = s.pending :=
  ⟨rfl, rfl, rfl, rfl, rfl, rfl, rfl, rfl, rfl, rfl, rfl, rfl, rfl, rfl, rfl, rfl, rfl⟩

@[simp] theorem State.setArchive_fields (s : State) (x : Archive) :
    (s.setArchive x).power = s.power ∧ (s.setArchive x).startUp = s.startUp ∧ (s.setArchive x).pins = s.pins ∧
    (s.setArchive x).lane = s.lane ∧ (s.setArchive x).bus = s.bus ∧ (s.setArchive x).clock = s.clock ∧
    (s.setArchive x).filter = s.filter ∧ (s.setArchive x).timers = s.timers ∧ (s.setArchive x).counters = s.counters ∧
    (s.setArchive x).capture = s.capture ∧ (s.setArchive x).eval = s.eval ∧ (s.setArchive x).roller = s.roller ∧
    (s.setArchive x).plate = s.plate ∧ (s.setArchive x).guidance = s.guidance ∧ (s.setArchive x).cert = s.cert ∧
    (s.setArchive x).archive = x ∧ (s.setArchive x).pending = s.pending :=
  ⟨rfl, rfl, rfl, rfl, rfl, rfl, rfl, rfl, rfl, rfl, rfl, rfl, rfl, rfl, rfl, rfl, rfl⟩

@[simp] theorem State.setPending_fields (s : State) (x : List Instr) :
    (s.setPending x).power = s.power ∧ (s.setPending x).startUp = s.startUp ∧ (s.setPending x).pins = s.pins ∧
    (s.setPending x).lane = s.lane ∧ (s.setPending x).bus = s.bus ∧ (s.setPending x).clock = s.clock ∧
    (s.setPending x).filter = s.filter ∧ (s.setPending x).timers = s.timers ∧ (s.setPending x).counters = s.counters ∧
    (s.setPending x).capture = s.capture ∧ (s.setPending x).eval = s.eval ∧ (s.setPending x).roller = s.roller ∧
    (s.setPending x).plate = s.plate ∧ (s.setPending x).guidance = s.guidance ∧ (s.setPending x).cert = s.cert ∧
    (s.setPending x).archive = s.archive ∧ (s.setPending x).pending = x :=
  ⟨rfl, rfl, rfl, rfl, rfl, rfl, rfl, rfl, rfl, rfl, rfl, rfl, rfl, rfl, rfl, rfl, rfl⟩

end Sys2Proof.Machine
end

