-- ==== Sys2Proof/Laws/Frame.lean ====
section
/-! SUPPORT. The calculus of frames: which blocks an operation can change. `Within bs s t` is what the operations' lemmas say; such
facts compose along an operation's text. -/

namespace Sys2Proof.Machine

/-- What requests to queue do to the lane bus controller, however many (R30 to R33): they touch the transmit queue alone, never beyond
8 frames, not at all in STARTING and LISTEN_ONLY; it never gets shorter, and while it is not full no frame but a PRESENCE is lost. -/
structure Bus.Queued (b c : Bus) : Prop where
  only : b.onlyQueues c
  size : b.queue.length ≤ Config.queueSize → c.queue.length ≤ Config.queueSize
  shut : b.canQueue = false → c.queue = b.queue
  grows : b.queue.length ≤ c.queue.length
  keeps : c.queue.length < Config.queueSize → ∀ q ∈ b.queue, q.frame.isPresence = false → q ∈ c.queue

/-- The frame of an operation that touches the lane bus controller by requests to queue at most. -/
def Within (bs : List Block) (s t : State) : Prop := s.onlyChanges bs t ∧ s.bus.Queued t.bus

theorem State.onlyChanges_refl (bs : List Block) (s : State) : s.onlyChanges bs s := by
  intro b _; cases b <;> rfl

theorem State.onlyChanges_trans {bs : List Block} {s t u : State} (h : s.onlyChanges bs t) (k : t.onlyChanges bs u) :
    s.onlyChanges bs u := by
  intro b hb
  have h := h b hb
  have k := k b hb
  cases b <;> exact Eq.trans k h

theorem State.onlyChanges_mono {bs cs : List Block} {s t : State} (h : s.onlyChanges bs t) (sub : bs ⊆ cs) :
    s.onlyChanges cs t := fun b hb => h b fun m => hb (sub m)

theorem Bus.onlyQueues_trans {a b c : Bus} (h : a.onlyQueues b) (k : b.onlyQueues c) : a.onlyQueues c := by
  unfold Bus.onlyQueues at *
  rw [k, h]

theorem Bus.onlyQueues_canQueue {a b : Bus} (h : a.onlyQueues b) : b.canQueue = a.canQueue := by
  unfold Bus.onlyQueues at h
  rw [h]
  rfl

theorem Bus.Queued.refl (b : Bus) : b.Queued b := ⟨rfl, id, fun _ => rfl, Nat.le_refl _, fun _ _ m _ => m⟩

/-- A change of the lane bus controller that leaves it as it is. -/
theorem Bus.Queued.of_eq {b c : Bus} (h : b = c) : b.Queued c := h ▸ Bus.Queued.refl b

theorem Bus.Queued.trans {a b c : Bus} (h : a.Queued b) (k : b.Queued c) : a.Queued c where
  only := Bus.onlyQueues_trans h.only k.only
  size := fun n => k.size (h.size n)
  shut := fun n => (k.shut ((Bus.onlyQueues_canQueue h.only).trans n)).trans (h.shut n)
  grows := Nat.le_trans h.grows k.grows
  keeps := fun n q m p => k.keeps n q (h.keeps (Nat.lt_of_le_of_lt k.grows n) q m p) p

/-- What a transmit-queue change leaves. -/
theorem Bus.onlyQueues_fields {a b : Bus} (h : a.onlyQueues b) :
    b.mode = a.mode ∧ b.link = a.link ∧ b.recessive = a.recessive ∧ b.peers = a.peers ∧ b.latch = a.latch := by
  unfold Bus.onlyQueues at h
  rw [h]
  exact ⟨rfl, rfl, rfl, rfl, rfl⟩

theorem Within.refl (bs : List Block) (s : State) : Within bs s s := ⟨s.onlyChanges_refl bs, Bus.Queued.refl s.bus⟩

theorem Within.trans {bs : List Block} {s t u : State} (h : Within bs s t) (k : Within bs t u) : Within bs s u :=
  ⟨State.onlyChanges_trans h.1 k.1, h.2.trans k.2⟩

/-- The same, from the outermost operation inwards. -/
theorem Within.after {bs : List Block} {s t u : State} (k : Within bs t u) (h : Within bs s t) : Within bs s u := h.trans k

theorem Within.mono {bs cs : List Block} {s t : State} (h : Within bs s t) (sub : bs ⊆ cs) : Within cs s t :=
  ⟨State.onlyChanges_mono h.1 sub, h.2⟩

theorem Within.ite {bs : List Block} {s t u : State} {c : Prop} [Decidable c] (h : Within bs s t) (k : Within bs s u) :
    Within bs s (if c then t else u) := by
  split
  · exact h
  · exact k

/-- A step that is skipped in one case. -/
theorem Within.skip {bs : List Block} {s t u : State} {c : Prop} [Decidable c] (k : Within bs t u) (h : Within bs s t) :
    Within bs s (if c then t else u) := Within.ite h (h.trans k)

/-- A step that is taken in one case. -/
theorem Within.when {bs : List Block} {s t u : State} {c : Prop} [Decidable c] (k : Within bs t u) (h : Within bs s t) :
    Within bs s (if c then u else t) := Within.ite (h.trans k) h

/-- A fold of an operation keeps its frame. -/
theorem Within.foldl {α : Type} {bs : List Block} {f : State → α → State} (h : ∀ s a, Within bs s (f s a)) :
    ∀ (as : List α) (s : State), Within bs s (as.foldl f s)
  | [], s => Within.refl bs s
  | a :: as, s => (h s a).trans (Within.foldl h as (f s a))

/-- What a frame says of one block. -/
theorem Within.same {bs : List Block} {s t : State} (h : Within bs s t) (b : Block) (hb : b ∉ bs) : s.sameIn t b := h.1 b hb

/-! ### The setters -/

theorem Within.setLane (s : State) (x : LaneView) : Within [.lane] s (s.setLane x) :=
  ⟨by intro b hb; cases b <;> first | rfl | simp at hb, Bus.Queued.refl _⟩

theorem Within.setPins (s : State) (x : Pins) : Within [.pins] s (s.setPins x) :=
  ⟨by intro b hb; cases b <;> first | rfl | simp at hb, Bus.Queued.refl _⟩

theorem Within.setClock (s : State) (x : Clock) : Within [.clock] s (s.setClock x) :=
  ⟨by intro b hb; cases b <;> first | rfl | simp at hb, Bus.Queued.refl _⟩

theorem Within.setTimers (s : State) (x : Timers) : Within [.timers] s (s.setTimers x) :=
  ⟨by intro b hb; cases b <;> first | rfl | simp at hb, Bus.Queued.refl _⟩

theorem Within.setCounters (s : State) (x : Counters) : Within [.counters] s (s.setCounters x) :=
  ⟨by intro b hb; cases b <;> first | rfl | simp at hb, Bus.Queued.refl _⟩

theorem Within.setCapture (s : State) (x : Capture) : Within [.capture] s (s.setCapture x) :=
  ⟨by intro b hb; cases b <;> first | rfl | simp at hb, Bus.Queued.refl _⟩

theorem Within.setEval (s : State) (x : Eval) : Within [.eval] s (s.setEval x) :=
  ⟨by intro b hb; cases b <;> first | rfl | simp at hb, Bus.Queued.refl _⟩

theorem Within.setRoller (s : State) (x : Roller) : Within [.roller] s (s.setRoller x) :=
  ⟨by intro b hb; cases b <;> first | rfl | simp at hb, Bus.Queued.refl _⟩

theorem Within.setPlate (s : State) (x : Plate) : Within [.plate] s (s.setPlate x) :=
  ⟨by intro b hb; cases b <;> first | rfl | simp at hb, Bus.Queued.refl _⟩

theorem Within.setGuidance (s : State) (x : Guidance) : Within [.guidance] s (s.setGuidance x) :=
  ⟨by intro b hb; cases b <;> first | rfl | simp at hb, Bus.Queued.refl _⟩

theorem Within.setCert (s : State) (x : Cert) : Within [.cert] s (s.setCert x) :=
  ⟨by intro b hb; cases b <;> first | rfl | simp at hb, Bus.Queued.refl _⟩

theorem Within.setArchive (s : State) (x : Archive) : Within [.archive] s (s.setArchive x) :=
  ⟨by intro b hb; cases b <;> first | rfl | simp at hb, Bus.Queued.refl _⟩

theorem Within.setBus (s : State) (x : Bus) (h : s.bus.Queued x) : Within [.bus] s (s.setBus x) :=
  ⟨by intro b hb; cases b <;> first | rfl | simp at hb, h⟩

end Sys2Proof.Machine
end

