-- ==== Sys2Proof/Laws/Queue.lean ====
section
/-! SUPPORT. What the operations of the transmit queue can do (R30 to R33). -/

namespace Sys2Proof.Machine

/-- In STARTING and LISTEN_ONLY a request to queue changes nothing (R30). -/
theorem Bus.enqueue_shut {b : Bus} (h : b.canQueue = false) (f : LaneFrame) : b.enqueue f = b := by
  simp [Bus.enqueue, h]

theorem Bus.enqueuePresence_shut {b : Bus} (h : b.canQueue = false) (f : LaneFrame) : b.enqueuePresence f = b := by
  simp [Bus.enqueuePresence, h]

theorem length_insertQueued (q : QueuedFrame) (l : List QueuedFrame) : (insertQueued q l).length = l.length + 1 := by
  induction l with
  | nil => rfl
  | cons x xs ih => unfold insertQueued; split <;> simp [ih]

theorem mem_insertQueued {q x : QueuedFrame} {l : List QueuedFrame} : x ∈ insertQueued q l ↔ x = q ∨ x ∈ l := by
  induction l with
  | nil => simp [insertQueued]
  | cons y ys ih =>
    unfold insertQueued
    split
    · simp
    · simp [ih]; tauto

theorem Bus.length_placed (b : Bus) (q : QueuedFrame) (l : List QueuedFrame) : (b.placed q l).length = l.length + 1 := by
  cases l with
  | nil => rfl
  | cons x xs => simp only [Bus.placed]; split <;> simp [length_insertQueued]

theorem Bus.mem_placed {b : Bus} {q x : QueuedFrame} {l : List QueuedFrame} : x ∈ b.placed q l ↔ x = q ∨ x ∈ l := by
  cases l with
  | nil => simp [Bus.placed]
  | cons y ys =>
    simp only [Bus.placed]
    split
    · simp [mem_insertQueued]; tauto
    · simp [mem_insertQueued]

/-- A request with room puts exactly one frame more into the queue, under the next stamp (R30, R31). -/
theorem Bus.mem_enqueue_room {b : Bus} (h : b.canQueue = true) (room : b.queue.length < Config.queueSize) (f : LaneFrame)
    (x : QueuedFrame) : x ∈ (b.enqueue f).queue ↔ x = ⟨f, b.nextStamp⟩ ∨ x ∈ b.queue := by
  simp [Bus.enqueue, h, room, Bus.append, Bus.mem_placed]

/-- The frame a full queue loses stands in it, has a higher class, and has the latest stamp of those (R31). -/
theorem latestAbove_spec {cls : Nat} {queue : List QueuedFrame} {v : QueuedFrame} (h : latestAbove cls queue = some v) :
    v ∈ queue ∧ cls < v.frame.cls ∧ ∀ x ∈ queue, cls < x.frame.cls → x.stamp ≤ v.stamp := by
  have key : ∀ (l : List QueuedFrame) (acc : Option QueuedFrame) (v : QueuedFrame),
      (∀ a, acc = some a → cls < a.frame.cls) →
      l.foldl (fun acc q => if q.frame.cls ≤ cls then acc else match acc with
        | none => some q
        | some r => if r.stamp < q.stamp then some q else acc) acc = some v →
      (acc = some v ∨ v ∈ l) ∧ cls < v.frame.cls ∧ (∀ a, acc = some a → a.stamp ≤ v.stamp) ∧
        ∀ x ∈ l, cls < x.frame.cls → x.stamp ≤ v.stamp := by
    intro l
    induction l with
    | nil =>
      intro acc v ha e
      have e : acc = some v := e
      exact ⟨Or.inl e, ha v e, fun a ea => (by rw [e] at ea; cases ea; exact Nat.le_refl _), fun x m => absurd m (by simp)⟩
    | cons y ys ih =>
      intro acc v ha e
      rw [List.foldl_cons] at e
      by_cases low : y.frame.cls ≤ cls
      · rw [if_pos low] at e
        obtain ⟨m, c, a, r⟩ := ih acc v ha e
        refine ⟨m.imp id (List.mem_cons_of_mem _), c, a, fun x mx cx => ?_⟩
        rcases List.mem_cons.mp mx with rfl | mx
        · omega
        · exact r x mx cx
      · rw [if_neg low] at e
        cases acc with
        | none =>
          obtain ⟨m, c, a, r⟩ := ih (some y) v (fun a ea => by cases ea; omega) e
          refine ⟨Or.inr ?_, c, fun a ea => (by cases ea), fun x mx cx => ?_⟩
          · rcases m with m | m
            · cases m; exact List.mem_cons_self
            · exact List.mem_cons_of_mem _ m
          · rcases List.mem_cons.mp mx with rfl | mx
            · exact a _ rfl
            · exact r x mx cx
        | some w =>
          by_cases lt : w.stamp < y.stamp
          · simp only [lt, if_true] at e
            obtain ⟨m, c, a, r⟩ := ih (some y) v (fun a ea => by cases ea; omega) e
            refine ⟨Or.inr ?_, c, fun a' ea => ?_, fun x mx cx => ?_⟩
            · rcases m with m | m
              · cases m; exact List.mem_cons_self
              · exact List.mem_cons_of_mem _ m
            · cases ea; have := a _ rfl; omega
            · rcases List.mem_cons.mp mx with rfl | mx
              · exact a _ rfl
              · exact r x mx cx
          · simp only [lt, if_false] at e
            obtain ⟨m, c, a, r⟩ := ih (some w) v ha e
            refine ⟨m.imp id (List.mem_cons_of_mem _), c, a, fun x mx cx => ?_⟩
            rcases List.mem_cons.mp mx with rfl | mx
            · have := a _ rfl; omega
            · exact r x mx cx
  obtain ⟨m, c, _, r⟩ := key queue none v (fun a e => by cases e) h
  exact ⟨m.resolve_left (by simp), c, r⟩

/-- What one request to queue does (R30, R31). -/
theorem Bus.enqueue_queued (b : Bus) (f : LaneFrame) : b.Queued (b.enqueue f) := by
  unfold Bus.enqueue
  split
  · exact Bus.Queued.refl b
  · rename_i open'
    have notShut : b.canQueue = false → False := fun e => open' (by simp [e])
    split
    · rename_i room
      exact ⟨rfl, fun _ => by simp [Bus.append, Bus.length_placed]; omega, fun e => (notShut e).elim,
        by simp [Bus.append, Bus.length_placed], fun _ q m _ => by simp [Bus.append, Bus.mem_placed, m]⟩
    · rename_i full
      split
      · rename_i v hv
        have mem := (latestAbove_spec hv).1
        have len : (b.queue.erase v).length = b.queue.length - 1 := List.length_erase_of_mem mem
        have pos : 0 < b.queue.length := List.length_pos_of_mem mem
        refine ⟨rfl, fun _ => ?_, fun e => (notShut e).elim, ?_, fun n => ?_⟩
        · simp [Bus.append, Bus.length_placed, len]; omega
        · simp [Bus.append, Bus.length_placed, len]; omega
        · simp [Bus.append, Bus.length_placed, len] at n; omega
      · exact Bus.Queued.refl b

theorem Bus.enqueuePresence_queued (b : Bus) (f : LaneFrame) : b.Queued (b.enqueuePresence f) := by
  unfold Bus.enqueuePresence
  split
  · exact Bus.Queued.refl b
  · rename_i open'
    split
    · refine ⟨rfl, fun n => by simpa using n, fun e => absurd e (by simpa using open'), by simp, fun _ q m p => ?_⟩
      refine List.mem_map.mpr ⟨q, m, ?_⟩
      simp [Bus.replaceable, p]
    · exact b.enqueue_queued f

/-- A requested frame stands in the queue after the request, unless the queue is then full. -/
theorem Bus.mem_enqueue {b : Bus} (h : b.canQueue = true) (f : LaneFrame) (room : (b.enqueue f).queue.length < Config.queueSize) :
    (⟨f, b.nextStamp⟩ : QueuedFrame) ∈ (b.enqueue f).queue :=
  (Bus.mem_enqueue_room h (Nat.lt_of_le_of_lt (b.enqueue_queued f).grows room) f _).mpr (Or.inl rfl)

theorem queueFrame_within (f : LaneFrame) (s : State) : Within [.bus] s (queueFrame f s) :=
  Within.setBus s _ (s.bus.enqueue_queued f)

theorem requestPresence_within (s : State) : Within [.bus] s (requestPresence s) :=
  Within.setBus s _ (s.bus.enqueuePresence_queued _)

theorem presenceIfChanged_within {bs : List Block} (s t : State) (h : Within bs s t) (hb : Block.bus ∈ bs) :
    Within bs s (presenceIfChanged s t) := by
  unfold presenceIfChanged
  split
  · exact h
  · exact h.trans ((requestPresence_within t).mono (by simpa using hb))

end Sys2Proof.Machine
end

