-- ==== Sys2Proof/Laws/Guidance.lean ====
section
/-! SUPPORT. What the guidance unit's operations can do: their frames, and which prompts they raise and lower (R130 to R146). -/

namespace Sys2Proof.Machine

/-- The blocks an operation on prompts can change: the guidance unit, and the transmit queue for a WARNING_SHOWN. -/
abbrev promptBlocks : List Block := [.bus, .guidance]

theorem setGuidance_within (s : State) (x : Guidance) : Within promptBlocks s (s.setGuidance x) :=
  (Within.setGuidance s x).mono (by simp)

theorem composePanel_within (s : State) : Within promptBlocks s (composePanel s) := by
  unfold composePanel
  split
  · exact Within.ite (Within.refl _ s) (setGuidance_within s _)
  · exact Within.refl _ s

theorem refreshPanel_within (s : State) : Within promptBlocks s (refreshPanel s) := by
  unfold refreshPanel
  split
  · exact setGuidance_within s _
  · exact Within.refl _ s

theorem panelSent_within (s : State) : Within promptBlocks s (panelSent s) := by
  unfold panelSent
  exact Within.ite (Within.refl _ s) (Within.ite (setGuidance_within s _) (setGuidance_within s _))

theorem confirmShown_within (s : State) : Within promptBlocks s (confirmShown s) := by
  unfold confirmShown
  split
  · exact ((queueFrame_within _ s).mono (by simp)).trans (setGuidance_within _ _)
  · exact Within.refl _ s

theorem showDisplayed_within (s : State) : Within promptBlocks s (showDisplayed s) :=
  ((composePanel_within s).trans (setGuidance_within _ _)).trans (confirmShown_within _)

theorem rechoose_within (s : State) : Within promptBlocks s (rechoose s) := by
  unfold rechoose
  refine Within.ite (Within.refl _ s) (Within.ite (Within.refl _ s) ?_)
  exact (setGuidance_within s _).trans (showDisplayed_within _)

theorem firstDisplay_within (s : State) : Within promptBlocks s (firstDisplay s) :=
  (setGuidance_within s _).trans (showDisplayed_within _)

theorem raiseWith_within (p : Prompt) (f : PromptFields) (life : Nat) (confirm : Bool) (s : State) :
    Within promptBlocks s (raiseWith p f life confirm s) := by
  have h : Within promptBlocks s (rechoose (s.setGuidance (s.guidance.raised p f life confirm))) :=
    (setGuidance_within s _).trans (rechoose_within _)
  exact Within.ite (h.trans (showDisplayed_within _)) h

theorem raise_within (p : Prompt) (f : PromptFields) (s : State) : Within promptBlocks s (raise p f s) :=
  raiseWith_within p f 0 false s

theorem updateFields_within (p : Prompt) (f : PromptFields) (s : State) : Within promptBlocks s (updateFields p f s) :=
  Within.ite ((setGuidance_within s _).trans (composePanel_within _)) (setGuidance_within s _)

theorem lower_within (p : Prompt) (s : State) : Within promptBlocks s (lower p s) := by
  unfold lower
  refine Within.ite (Within.refl _ s) ?_
  split
  · exact Within.refl _ s
  · exact Within.ite (setGuidance_within s _) ((setGuidance_within s _).trans (rechoose_within _))

theorem lowerAll_within : ∀ (ps : List Prompt) (s : State), Within promptBlocks s (lowerAll ps s)
  | [], s => Within.refl _ s
  | p :: ps, s => (lower_within p s).trans (lowerAll_within ps _)

theorem raiseOrUpdate_within (p : Prompt) (f : PromptFields) (s : State) : Within promptBlocks s (raiseOrUpdate p f s) :=
  Within.ite (Within.ite (Within.refl _ s) (updateFields_within p f s)) (raise_within p f s)

theorem lowerIfRaised_within (p : Prompt) (s : State) : Within promptBlocks s (lowerIfRaised p s) :=
  Within.ite (lower_within p s) (Within.refl _ s)

theorem judgeEntry_within (s : State) : Within promptBlocks s (judgeEntry s) := by
  unfold judgeEntry
  refine Within.ite (Within.refl _ s) ?_
  dsimp only
  split
  · exact (raiseOrUpdate_within _ _ s).trans (lowerIfRaised_within _ _)
  · exact Within.ite ((lowerIfRaised_within _ s).trans (lowerIfRaised_within _ _))
      ((lowerIfRaised_within _ s).trans (raiseOrUpdate_within _ _ _))

theorem guidanceTick1_within (s : State) : Within promptBlocks s (guidanceTick1 s) :=
  (refreshPanel_within s).trans (judgeEntry_within _)

theorem lowerForTicket_within (ticket : Nat) (p : Prompt) (s : State) : Within promptBlocks s (lowerForTicket ticket p s) := by
  unfold lowerForTicket
  split
  · exact Within.ite (lower_within p s) (Within.refl _ s)
  · exact Within.refl _ s

theorem guidanceTicketGone_within (ticket : Nat) (s : State) : Within promptBlocks s (guidanceTicketGone ticket s) :=
  (((lowerForTicket_within _ _ s).trans (lowerForTicket_within _ _ _)).trans (lowerForTicket_within _ _ _)).trans
    (judgeEntry_within _)

theorem guidanceLaneClear_within (s : State) : Within promptBlocks s (guidanceLaneClear s) :=
  (lowerAll_within _ s).trans (judgeEntry_within _)

theorem lowerWarningOf_within (sender : Nat) (s : State) : Within promptBlocks s (lowerWarningOf sender s) := by
  unfold lowerWarningOf
  split
  · exact Within.ite (lower_within _ s) (Within.refl _ s)
  · exact Within.refl _ s

theorem showTimeMet_within (s : State) : Within promptBlocks s (showTimeMet s) :=
  (setGuidance_within s _).trans (rechoose_within _)

/-- A horn tick and the end of a single tone change the guidance unit and PT2-low alone (R50, R141). -/
theorem hornTick_within (shown : Prompt) (s : State) : Within [.timers, .guidance] s (hornTick shown s) := by
  have g (t : State) (x : Guidance) : Within [.timers, .guidance] t (t.setGuidance x) :=
    (Within.setGuidance t x).mono (by simp)
  have k (t : State) (x : Timers) : Within [.timers, .guidance] t (t.setTimers x) := (Within.setTimers t x).mono (by simp)
  unfold hornTick
  exact Within.ite ((g s _).trans (k _ _)) (Within.ite (g s _) (Within.refl _ s))

theorem singleEnd_within (s : State) : Within [.timers, .guidance] s (singleEnd s) :=
  ((Within.setGuidance s _).mono (by simp)).trans ((Within.setTimers _ _).mono (by simp))

theorem guidanceTick8_within (s : State) : Within [.bus, .timers, .guidance] s (guidanceTick8 s) := by
  unfold guidanceTick8
  split
  · exact Within.refl _ s
  · exact (((Within.setGuidance s _).mono (by simp)).trans ((hornTick_within _ _).mono (by simp))).trans
      ((composePanel_within _).mono (by simp))

/-! ### Which prompts stand RAISED -/

theorem isRaised_setGuidance (s : State) (g : Guidance) (p : Prompt) : (s.setGuidance g).guidance.isRaised p = g.isRaised p := rfl

/-- The prompts decide which stand RAISED. -/
theorem Guidance.isRaised_congr {g h : Guidance} (e : g.prompts = h.prompts) (p : Prompt) : g.isRaised p = h.isRaised p := by
  simp [Guidance.isRaised, e]

theorem Guidance.prompts_due (g : Guidance) (f : List Byte) : (g.due f).prompts = g.prompts := by
  unfold Guidance.due; split <;> rfl

theorem composePanel_prompts (s : State) : (composePanel s).guidance.prompts = s.guidance.prompts := by
  unfold composePanel
  split
  · split
    · rfl
    · exact s.guidance.prompts_due _
  · rfl

theorem Guidance.prompts_requestHorn (g : Guidance) : g.requestHorn.prompts = g.prompts := by
  unfold Guidance.requestHorn; split <;> rfl

theorem Guidance.isRaised_confirmed (g : Guidance) (p : Prompt) : g.confirmed.isRaised p = g.isRaised p := by
  simp only [Guidance.isRaised, Guidance.confirmed, List.any_map]
  congr 1
  funext e
  simp only [Function.comp]
  split <;> rfl

theorem showDisplayed_isRaised (s : State) (p : Prompt) : (showDisplayed s).guidance.isRaised p = s.guidance.isRaised p := by
  unfold showDisplayed
  dsimp only
  have base : ((composePanel s).guidance.requestHorn).isRaised p = s.guidance.isRaised p :=
    Guidance.isRaised_congr ((Guidance.prompts_requestHorn _).trans (composePanel_prompts s)) p
  unfold confirmShown
  split
  · rw [isRaised_setGuidance, Guidance.isRaised_confirmed]; exact base
  · exact base

theorem isRaised_dropHiddenLowering (g : Guidance) (shown d : Option Prompt) (due : Bool) (p : Prompt) :
    ({ g with displayed := d, showDue := due, prompts := dropHiddenLowering shown g.prompts } : Guidance).isRaised p =
      g.isRaised p := by
  simp only [Guidance.isRaised, dropHiddenLowering, List.any_filter]
  congr 1
  funext e
  cases e.lowering <;> simp

/-- The choice made again leaves the RAISED prompts as they are (R132, R133). -/
theorem rechoose_isRaised (s : State) (p : Prompt) : (rechoose s).guidance.isRaised p = s.guidance.isRaised p := by
  unfold rechoose
  split
  · rfl
  · dsimp only
    split
    · rfl
    · rw [showDisplayed_isRaised, isRaised_setGuidance, isRaised_dropHiddenLowering]

theorem Guidance.isRaised_raised (g : Guidance) (p : Prompt) (f : PromptFields) (life : Nat) (confirm : Bool) (q : Prompt) :
    (g.raised p f life confirm).isRaised q = (decide (q = p) || g.isRaised q) := by
  simp only [Guidance.isRaised, Guidance.raised, Guidance.without, List.any_append, List.any_filter, List.any_cons, List.any_nil]
  rw [Bool.eq_iff_iff]
  simp only [Bool.or_eq_true, List.any_eq_true, Bool.and_eq_true, decide_eq_true_eq, beq_iff_eq, Bool.not_eq_true']
  constructor
  · rintro (⟨e, m, _, h⟩ | ⟨h, _⟩ | h)
    · exact Or.inr ⟨e, m, h⟩
    · exact Or.inl h.symm
    · exact absurd h (by simp)
  · rintro (h | ⟨e, m, h⟩)
    · exact Or.inr (Or.inl ⟨h.symm, by simp⟩)
    · by_cases eq : e.prompt = p
      · exact Or.inr (Or.inl ⟨eq.symm.trans h.1, by simp⟩)
      · exact Or.inl ⟨e, m, eq, h⟩

/-- A raise makes its prompt RAISED and leaves the others as they are (R130). -/
theorem raiseWith_isRaised (p : Prompt) (f : PromptFields) (life : Nat) (confirm : Bool) (s : State) (q : Prompt) :
    (raiseWith p f life confirm s).guidance.isRaised q = (decide (q = p) || s.guidance.isRaised q) := by
  unfold raiseWith
  dsimp only
  split
  · rw [showDisplayed_isRaised, rechoose_isRaised, isRaised_setGuidance, Guidance.isRaised_raised]
  · rw [rechoose_isRaised, isRaised_setGuidance, Guidance.isRaised_raised]

theorem raise_isRaised (p : Prompt) (f : PromptFields) (s : State) (q : Prompt) :
    (raise p f s).guidance.isRaised q = (decide (q = p) || s.guidance.isRaised q) := raiseWith_isRaised p f 0 false s q

/-- A field update leaves the RAISED prompts as they are (R130). -/
theorem updateFields_isRaised (p : Prompt) (f : PromptFields) (s : State) (q : Prompt) :
    (updateFields p f s).guidance.isRaised q = s.guidance.isRaised q := by
  have base : ({ s.guidance with
      prompts := s.guidance.prompts.map fun e => if e.prompt = p then { e with fields := f } else e } : Guidance).isRaised q =
      s.guidance.isRaised q := by
    simp only [Guidance.isRaised, List.any_map]
    congr 1
    funext e
    simp only [Function.comp]
    split <;> rfl
  unfold updateFields
  dsimp only
  split
  · rw [Guidance.isRaised_congr (composePanel_prompts _)]; exact base
  · exact base

/-- A lower takes its prompt out of the RAISED ones, except LANE_READY, and leaves the others as they are (R130, R133). -/
theorem lower_isRaised (p : Prompt) (s : State) (q : Prompt) :
    (lower p s).guidance.isRaised q = (s.guidance.isRaised q && (decide (q ≠ p) || decide (p = .laneReady))) := by
  unfold lower
  split
  · rename_i h; simp [h]
  · rename_i hl
    split
    · rename_i h
      have none : ∀ e ∈ s.guidance.prompts, e.prompt ≠ p := by
        simpa [Guidance.find] using h
      by_cases hq : q = p
      · subst hq
        have : s.guidance.isRaised q = false := by
          rw [Guidance.isRaised, List.any_eq_false]
          intro e m
          simp [none e m]
        simp [this]
      · simp [hq]
    · split
      · rw [isRaised_setGuidance]
        simp only [Guidance.isRaised, List.any_map]
        rw [Bool.eq_iff_iff]
        simp only [List.any_eq_true, Bool.and_eq_true, Bool.or_eq_true, decide_eq_true_eq, beq_iff_eq, Bool.not_eq_true',
          Function.comp]
        constructor
        · rintro ⟨e, m, h⟩
          by_cases eq : e.prompt = p
          · simp [eq] at h
          · rw [if_neg eq] at h
            exact ⟨⟨e, m, h⟩, Or.inl fun c => eq (h.1.trans c)⟩
        · rintro ⟨⟨e, m, h⟩, c | c⟩
          · refine ⟨e, m, ?_⟩
            rw [if_neg (fun eq => c (h.1.symm.trans eq))]
            exact h
          · exact absurd c hl
      · rw [rechoose_isRaised, isRaised_setGuidance]
        simp only [Guidance.isRaised, Guidance.without, List.any_filter]
        rw [Bool.eq_iff_iff]
        simp only [List.any_eq_true, Bool.and_eq_true, Bool.or_eq_true, decide_eq_true_eq, beq_iff_eq, Bool.not_eq_true']
        constructor
        · rintro ⟨e, m, n, h⟩
          exact ⟨⟨e, m, h⟩, Or.inl fun c => n (h.1.trans c)⟩
        · rintro ⟨⟨e, m, h⟩, c | c⟩
          · exact ⟨e, m, fun eq => c (h.1.symm.trans eq), h⟩
          · exact absurd c hl

end Sys2Proof.Machine
end

