-- ==== Sys2Proof/Laws/Certificate.lean ====
section
/-! SUPPORT. What the operations of the certificate unit, the lane view and the archive can do: their frames, and the sizes they keep
(R1 to R21, R147 to R171). -/

namespace Sys2Proof.Machine

/-- The blocks the certificate unit's bookkeeping can change: itself, and the transmit queue for PRESENCE and answers. -/
abbrev jobBlocks : List Block := [.bus, .cert]

theorem setCert_within (s : State) (x : Cert) : Within jobBlocks s (s.setCert x) := (Within.setCert s x).mono (by simp)

theorem addJob_within (sub : Subject) (r : Nat) (s : State) : Within jobBlocks s (addJob sub r s) := setCert_within s _

theorem recheckTicket_within (t : Nat) (s : State) : Within jobBlocks s (recheckTicket t s) := by
  unfold recheckTicket
  split
  · exact Within.ite (Within.ite (addJob_within _ _ s) (Within.refl _ s)) (setCert_within s _)
  · exact setCert_within s _

theorem recheck_within (s : State) : Within jobBlocks s (recheck s) :=
  Within.ite (Within.foldl (fun s t => recheckTicket_within t s) _ s) (Within.refl _ s)

theorem answer_within (r : Nat) (sub : Subject) (o : AnswerOutcome) (s : State) : Within jobBlocks s (answer r sub o s) :=
  Within.ite (Within.refl _ s) ((queueFrame_within _ s).mono (by simp))

/-- A change of the unit has the frame of what it wraps, with the certificate unit and the transmit queue. -/
theorem certChange_within {bs : List Block} (f : State → State) (s : State) (h : Within bs s (f s)) (hc : jobBlocks ⊆ bs) :
    Within bs s (certChange f s) := by
  unfold certChange
  dsimp only
  split
  · exact h
  · exact (h.trans ((requestPresence_within _).mono (fun b m => hc (by simp_all)))).trans ((recheck_within _).mono hc)

theorem dropHead_within (s : State) : Within jobBlocks s (dropHead s) :=
  (certChange_within _ s (setCert_within s _) (by simp)).trans (recheck_within _)

theorem refuseHead_within (r : Nat) (sub : Subject) (o : AnswerOutcome) (s : State) :
    Within jobBlocks s (refuseHead r sub o s) := (answer_within r sub o s).trans (dropHead_within _)

theorem failJob_within (s : State) : Within jobBlocks s (failJob s) := by
  unfold failJob
  split
  · exact ((setCert_within s _).trans (answer_within _ _ _ _)).trans (dropHead_within _)
  · exact Within.refl _ s

theorem certTicketComplete_within (t : Nat) (s : State) : Within jobBlocks s (certTicketComplete t s) :=
  Within.ite ((setCert_within s _).trans (recheck_within _)) (Within.refl _ s)

theorem removeQueued_within (p : Job → Bool) (s : State) : Within jobBlocks s (removeQueued p s) :=
  (setCert_within s _).trans (Within.foldl (fun s _ => answer_within _ _ _ s) _ _)

theorem certTicketGone_within (t : Nat) (s : State) : Within jobBlocks s (certTicketGone t s) :=
  Within.ite ((removeQueued_within _ s).trans (setCert_within _ _)) (Within.refl _ s)

theorem certLaneClear_within (s : State) : Within jobBlocks s (certLaneClear s) :=
  Within.ite ((removeQueued_within _ s).trans (setCert_within _ _)) (Within.refl _ s)

theorem certRequest_within (r t : Nat) (s : State) : Within jobBlocks s (certRequest r t s) := by
  unfold certRequest
  exact Within.ite (Within.refl _ s) (Within.ite (answer_within _ _ _ s) (Within.ite (answer_within _ _ _ s)
    (Within.ite (setCert_within s _) (Within.ite (answer_within _ _ _ s) (addJob_within _ _ s)))))

theorem reprintRequest_within (r : Nat) (n : CertNo) (s : State) : Within jobBlocks s (reprintRequest r n s) := by
  unfold reprintRequest
  refine Within.ite (Within.refl _ s) ?_
  dsimp only
  split
  · exact answer_within _ _ _ s
  · exact Within.ite (answer_within _ _ _ s) (Within.ite (answer_within _ _ _ s) (addJob_within _ _ s))

/-- Without a printer a REPRINT_REQUEST is set aside or refused; it never adds a job (R147, R151, R173). -/
theorem reprintRequest_without_printer {s : State} (h : s.startUp.printer = false) (r : Nat) (n : CertNo) :
    reprintRequest r n s = s ∨ ∃ o, reprintRequest r n s = answer r (.certificate n) o s := by
  cases a : s.takesRequests
  · exact .inl (by simp [reprintRequest, a])
  · cases c : s.archive.judge n with
    | inl o => exact .inr ⟨o, by simp [reprintRequest, a, c]⟩
    | inr x => exact .inr ⟨.refusedNoPrinter, by simp [reprintRequest, a, c, h]⟩

/-! ### The lane view -/

/-- The blocks a report of the lane view can change. -/
abbrev laneBlocks : List Block := [.lane, .bus, .guidance, .cert]

theorem setLane_within (s : State) (x : LaneView) : Within laneBlocks s (s.setLane x) := (Within.setLane s x).mono (by simp)

theorem ticketDropped_within (t : Nat) (s : State) : Within laneBlocks s (ticketDropped t s) :=
  ((certTicketGone_within t s).mono (by simp)).trans ((guidanceTicketGone_within t _).mono (by simp))

theorem storeTested_within (t : Nat) (e : Entry) (s : State) : Within laneBlocks s (storeTested t e s) := by
  unfold storeTested
  exact Within.ite ((setLane_within s _).trans ((certTicketComplete_within t _).mono (by simp))) (setLane_within s _)

theorem takeResult_within (t a : Nat) (r : AxleResult) (s : State) : Within laneBlocks s (takeResult t a r s) := by
  unfold takeResult
  split
  · exact storeTested_within _ _ s
  · exact Within.refl _ s

theorem retestAll_within (s : State) : Within laneBlocks s (retestAll s) := by
  refine Within.foldl (fun s t => ?_) _ s
  unfold retestEntry
  split
  · exact storeTested_within _ _ s
  · exact Within.refl _ s

theorem makeEntry_within (r : Registration) (s : State) : Within laneBlocks s (makeEntry r s) := by
  unfold makeEntry
  split
  · exact (setLane_within s _).trans ((lowerIfRaised_within _ _).mono (by simp))
  · exact ((setLane_within s _).trans (ticketDropped_within _ _)).trans ((lowerIfRaised_within _ _).mono (by simp))
  · exact (raise_within _ _ s).mono (by simp)

theorem registerVehicle_within (f : EntryFields) (s : State) : Within laneBlocks s (registerVehicle f s) := by
  unfold registerVehicle
  split
  · exact (raiseWith_within _ _ _ _ s).mono (by simp)
  · split
    · exact Within.ite (storeTested_within _ _ s) (Within.refl _ s)
    · exact makeEntry_within _ s

theorem localAxleEvent_within (a : FixedAxle) (ev : AxleEventKind) (role : MeasuringRole) (s : State) :
    Within laneBlocks s (localAxleEvent a ev role s) := ((queueFrame_within _ s).mono (by simp)).trans (setLane_within _ _)

theorem clearLane_within (s : State) : Within laneBlocks s (clearLane s) :=
  (setLane_within s _).trans (Within.foldl (fun s t => ticketDropped_within t s) _ _)

/-! ### Jobs that print -/

/-- The blocks a print job's progress can change. -/
abbrev printBlocks : List Block := [.pins, .lane, .bus, .timers, .guidance, .cert, .archive]

theorem tryHand_within (s : State) : Within [.pins, .cert] s (tryHand s) := by
  unfold tryHand
  refine Within.ite (Within.refl _ s) ?_
  dsimp only
  split
  · exact Within.refl _ s
  · exact ((Within.setCert s _).mono (by simp)).trans ((Within.setPins _ _).mono (by simp))

theorem startCertTimer_within (n : Nat) (s : State) : Within [.timers] s (startCertTimer n s) := Within.setTimers s _

theorem cancelCertTimer_within (s : State) : Within [.timers] s (cancelCertTimer s) := Within.setTimers s _

theorem failPage_within (s : State) : Within [.timers, .cert] s (failPage s) :=
  ((Within.setCert s _).mono (by simp)).trans ((startCertTimer_within _ _).mono (by simp))

theorem beginPage_within (page : List (List Byte)) (s : State) : Within [.pins, .timers, .cert] s (beginPage page s) := by
  unfold beginPage
  exact Within.ite (((Within.setCert s _).mono (by simp)).trans ((failPage_within _).mono (by simp)))
    (((Within.setCert s _).mono (by simp)).trans ((tryHand_within _).mono (by simp)))

theorem lower_print (p : Prompt) (s : State) : Within printBlocks s (lower p s) := (lower_within p s).mono (by simp)

theorem setCert_print (s : State) (x : Cert) : Within printBlocks s (s.setCert x) := (Within.setCert s x).mono (by simp)

theorem answer_print (r : Nat) (sub : Subject) (o : AnswerOutcome) (s : State) : Within printBlocks s (answer r sub o s) :=
  (answer_within r sub o s).mono (by simp)

theorem dropHead_print (s : State) : Within printBlocks s (dropHead s) := (dropHead_within s).mono (by simp)

theorem endCertificate_within (t r : Nat) (c : CertContent) (s : State) : Within printBlocks s (endCertificate t r c s) := by
  unfold endCertificate
  exact ((((((((queueFrame_within _ s).mono (by simp)).trans ((Within.setLane _ _).mono (by simp))).trans
    (setCert_print _ _)).trans (answer_print _ _ _ _)).trans (setCert_print _ _)).trans (lower_print _ _)).trans
    (dropHead_print _))

theorem endReprint_within (n : CertNo) (r : Nat) (s : State) : Within printBlocks s (endReprint n r s) := by
  unfold endReprint
  exact (((answer_print _ _ _ s).trans (setCert_print _ _)).trans (lower_print _ _)).trans (dropHead_print _)

theorem takeReport_within (s : State) (r : ArchiveReport) : Within printBlocks s (takeReport s r) := by
  have mark : Within printBlocks s
      (match s.cert.jobs with
        | ⟨.certificate n, requester, _⟩ :: _ => if s.cert.awaitsMark then endReprint n requester s else s
        | _ => s) := by
    split
    · exact Within.ite (endReprint_within _ _ s) (Within.refl _ s)
    · exact Within.refl _ s
  cases r with
  | recordDone n pass => exact Within.ite (setCert_print s _) (Within.refl _ s)
  | markDone pass => exact mark
  | markSkipped => exact mark

theorem archiveStep_within (r : Archive × List ArchiveReport) (s : State) : Within printBlocks s (archiveStep r s) :=
  ((Within.setArchive s _).mono (by simp)).trans (Within.foldl takeReport_within _ _)

theorem finalPassed_within (s : State) : Within printBlocks s (finalPassed s) := by
  unfold finalPassed
  split
  · exact endCertificate_within _ _ _ s
  · exact archiveStep_within _ s
  · exact Within.refl _ s

theorem pagePassed_within (s : State) : Within printBlocks s (pagePassed s) := by
  unfold pagePassed
  refine (setCert_print s { s.cert with current := .pass, output := [], lead := none }).trans (Within.ite (finalPassed_within _) ?_)
  exact (setCert_print _ _).trans (certChange_within _ _ ((beginPage_within _ _).mono (by simp)) (by simp))

theorem lineSent_within (s : State) : Within printBlocks s (lineSent s) := by
  unfold lineSent
  split
  · exact Within.refl _ s
  · exact Within.ite ((setCert_print s _).trans (pagePassed_within _))
      ((setCert_print s _).trans ((tryHand_within _).mono (by simp)))

theorem startPrinting_within (sub : Subject) (s : State) : Within printBlocks s (startPrinting sub s) := by
  unfold startPrinting
  dsimp only
  refine Within.after (certChange_within _ _ ?_ (by simp)) ?_
  · exact Within.after ((beginPage_within _ _).mono (by simp)) (setCert_print _ _)
  · refine Within.after (setCert_print _ _) (Within.after ((raise_within _ _ _).mono (by simp)) ?_)
    exact Within.after (certChange_within _ _ (setCert_print _ _) (by simp)) (setCert_print _ _)

theorem startCertificate_within (t r : Nat) (s : State) : Within printBlocks s (startCertificate t r s) := by
  unfold startCertificate
  split
  · exact (refuseHead_within _ _ _ s).mono (by simp)
  · refine Within.ite ((refuseHead_within _ _ _ s).mono (by simp)) ?_
    exact ((((Within.setArchive s _).mono (by simp)).trans (setCert_print _ _)).trans (archiveStep_within _ _)).trans
      (startPrinting_within _ _)

theorem startReprint_within (n : CertNo) (r : Nat) (s : State) : Within printBlocks s (startReprint n r s) := by
  unfold startReprint
  split
  · exact (refuseHead_within _ _ _ s).mono (by simp)
  · exact (setCert_print s _).trans (startPrinting_within _ _)

theorem startHead_within (s : State) : Within printBlocks s (startHead s) := by
  unfold startHead
  split
  · exact startCertificate_within _ _ s
  · exact startReprint_within _ _ s
  · exact Within.refl _ s

theorem paperGone_within (s : State) : Within printBlocks s (paperGone s) := by
  refine certChange_within _ s ?_ (by simp)
  exact ((setCert_print s _).trans ((raise_within _ _ _).mono (by simp))).trans
    (Within.ite ((failPage_within _).mono (by simp)) (Within.refl _ _))

theorem paperBack_within (s : State) : Within printBlocks s (paperBack s) := by
  refine certChange_within _ s ?_ (by simp)
  refine ((setCert_print s _).trans (lower_print _ _)).trans (Within.ite ?_ (Within.refl _ _))
  exact ((setCert_print _ _).trans ((cancelCertTimer_within _).mono (by simp))).trans ((beginPage_within _ _).mono (by simp))

/-! ### Records (R163, R167, R169) -/

/-- A record reads back as it was programmed. -/
theorem content_record (c : CertContent) : (SlotStore.record c).content = some c := by simp [SlotStore.content, SlotStore.record]

/-- The mark places are not covered by the CRC. -/
theorem content_marks (x : SlotStore) (ms : List MarkCell) : ({ x with marks := ms } : SlotStore).content = x.content := rfl

/-- A slot whose record program ended whole reads as that record. -/
theorem content_programmedTo (x : SlotStore) (c : CertContent) : (x.programmedTo c .whole).content = some c :=
  (content_marks (SlotStore.record c) x.marks).trans (content_record c)

/-- A slot gives a record only where its header checks. -/
theorem content_header {x : SlotStore} {c : CertContent} (h : x.content = some c) : x.header = .checks c.number := by
  unfold SlotStore.content at h
  split at h
  · rename_i n d crc hn hb
    split at h
    · cases h; exact hn
    · cases h
  · cases h

end Sys2Proof.Machine
end

