-- ==== Sys2Proof/Laws/Sequences.lean ====
section
/-! SUPPORT. What the operations of the capture block, the evaluation unit and the two sequences can do: their frames (R58 to R129). -/

namespace Sys2Proof.Machine

/-- The blocks an operation of the roller sequence can change. -/
abbrev rollerBlocks : List Block := [.lane, .bus, .timers, .capture, .eval, .roller, .guidance, .cert]

/-- The blocks an operation of the plate sequence can change. -/
abbrev plateBlocks : List Block := [.lane, .bus, .timers, .capture, .eval, .plate, .guidance, .cert]

/-- The blocks of the capture chain. -/
abbrev chainBlocks : List Block := [.capture, .eval]

theorem setChain_within (s : State) (ce : Capture × Eval) : Within chainBlocks s (s.setChain ce) :=
  Within.after ((Within.setEval _ _).mono (by simp)) ((Within.setCapture s _).mono (by simp))

theorem writeStream_within (i : StreamId) (k : StreamConfig) (s : State) : Within chainBlocks s (writeStream i k s) :=
  setChain_within s _

theorem setGate_within (b : Bool) (s : State) : Within chainBlocks s (setGate b s) := (Within.setCapture s _).mono (by simp)

theorem setEval_within (s : State) (x : Eval) : Within chainBlocks s (s.setEval x) := (Within.setEval s x).mono (by simp)

theorem startSeqTimer_within (n : Nat) (s : State) : Within [.timers] s (startSeqTimer n s) := Within.setTimers s _

theorem cancelSeqTimer_within (s : State) : Within [.timers] s (cancelSeqTimer s) := Within.setTimers s _

/-! ### Roller sequence -/

/-- Shorthand for a frame inside the roller sequence's. -/
theorem Within.roller {bs : List Block} {s t : State} (h : Within bs s t) (sub : bs ⊆ rollerBlocks) : Within rollerBlocks s t :=
  h.mono sub

theorem setRoller_within (s : State) (x : Roller) : Within rollerBlocks s (s.setRoller x) := (Within.setRoller s x).roller (by simp)

theorem changeRoller_within (f : Roller → Roller) (s : State) : Within rollerBlocks s (changeRoller f s) :=
  presenceIfChanged_within s _ (setRoller_within s _) (by simp)

theorem writePhaseStreams_within (p : Phase) (pressure : Bool) (s : State) :
    Within [.timers, .capture, .eval] s (writePhaseStreams p pressure s) := by
  have pace (t : State) : Within [.timers, .capture, .eval] t (pacePhase p t) := by
    unfold pacePhase
    split
    · exact (Within.setTimers t _).mono (by simp)
    · exact Within.refl _ t
    · exact (Within.setTimers t _).mono (by simp)
  unfold writePhaseStreams
  refine Within.ite ?_ (Within.refl _ s)
  exact Within.after (pace _) (Within.after ((writeStream_within _ _ _).mono (by simp)) ((writeStream_within _ _ s).mono (by simp)))

theorem writePhaseStreams_roller (p : Phase) (pressure : Bool) (s : State) :
    Within rollerBlocks s (writePhaseStreams p pressure s) := (writePhaseStreams_within p pressure s).roller (by simp)

theorem cancelSeqTimer_roller (s : State) : Within rollerBlocks s (cancelSeqTimer s) := (cancelSeqTimer_within s).roller (by simp)

theorem startSeqTimer_roller (n : Nat) (s : State) : Within rollerBlocks s (startSeqTimer n s) :=
  (startSeqTimer_within n s).roller (by simp)

theorem raise_roller (p : Prompt) (f : PromptFields) (s : State) : Within rollerBlocks s (raise p f s) :=
  (raise_within p f s).roller (by simp)

theorem lower_roller (p : Prompt) (s : State) : Within rollerBlocks s (lower p s) := (lower_within p s).roller (by simp)

theorem lowerAll_roller (ps : List Prompt) (s : State) : Within rollerBlocks s (lowerAll ps s) :=
  (lowerAll_within ps s).roller (by simp)

theorem queueFrame_roller (f : LaneFrame) (s : State) : Within rollerBlocks s (queueFrame f s) :=
  (queueFrame_within f s).roller (by simp)

theorem setEval_roller (s : State) (x : Eval) : Within rollerBlocks s (s.setEval x) := (setEval_within s x).roller (by simp)

theorem motorStop_within (s : State) : Within rollerBlocks s (motorStop s) :=
  Within.ite (Within.after (queueFrame_roller _ _) (setRoller_within s _)) (Within.refl _ s)

theorem showDriveOn_within (s : State) : Within rollerBlocks s (showDriveOn s) :=
  Within.ite (lower_roller _ s) (raise_roller _ _ s)

theorem enterIdle_within (keep : Bool) (s : State) : Within rollerBlocks s (enterIdle keep s) := by
  unfold enterIdle
  dsimp only
  refine Within.after (showDriveOn_within _) (Within.skip (raise_roller _ _ _) (Within.after (lowerAll_roller _ _) ?_))
  refine Within.skip (setEval_roller _ _) (Within.after (changeRoller_within _ _) ?_)
  exact Within.after (cancelSeqTimer_roller _) (writePhaseStreams_roller _ _ s)

theorem holdChanged_within (wasHeld : Bool) (s : State) : Within rollerBlocks s (holdChanged wasHeld s) :=
  Within.ite (Within.after (showDriveOn_within _) (setRoller_within s _)) (Within.refl _ s)

theorem raiseMotorFault_within (c : FaultCause) (s : State) : Within rollerBlocks s (raiseMotorFault c s) :=
  Within.ite (Within.refl _ s) (raise_roller _ _ s)

theorem rollerFault_within (c : FaultCause) (s : State) : Within rollerBlocks s (rollerFault c s) := by
  unfold rollerFault
  refine Within.ite (Within.ite (Within.after (raiseMotorFault_within _ _) (setRoller_within s _)) (Within.refl _ s)) ?_
  exact Within.after (enterIdle_within _ _) (Within.after (raiseMotorFault_within _ _) (Within.after (changeRoller_within _ _)
    (Within.after (setEval_roller _ _) (motorStop_within s))))

theorem raiseApply_within (b : Bool) (s : State) : Within rollerBlocks s (raiseApply b s) := raise_roller _ _ s

theorem localAxleEvent_roller (a : FixedAxle) (ev : AxleEventKind) (r : MeasuringRole) (s : State) :
    Within rollerBlocks s (localAxleEvent a ev r s) := (localAxleEvent_within a ev r s).roller (by simp)

theorem enterWeigh_within (s : State) : Within rollerBlocks s (enterWeigh s) := by
  unfold enterWeigh
  dsimp only
  refine Within.when (raise_roller _ _ _) (Within.after (lower_roller _ _) (Within.after (setEval_roller _ _) ?_))
  exact Within.after (writePhaseStreams_roller _ _ _) (Within.after (changeRoller_within _ _)
    (Within.after (localAxleEvent_roller _ _ _ _) (setRoller_within s _)))

theorem enterPositioned_within (s : State) : Within rollerBlocks s (enterPositioned s) :=
  Within.after (raiseApply_within _ _) (Within.after (lowerAll_roller _ _) (Within.after (changeRoller_within _ _)
    (Within.after (cancelSeqTimer_roller _) (writePhaseStreams_roller _ _ s))))

theorem enterWarn_within (s : State) : Within rollerBlocks s (enterWarn s) :=
  Within.after (startSeqTimer_roller _ _) (Within.after (changeRoller_within _ _) (Within.after (raise_roller _ _ _)
    (Within.after (lowerAll_roller _ _) (Within.after (queueFrame_roller _ _)
      (Within.after (cancelSeqTimer_roller _) (writePhaseStreams_roller _ _ s))))))

theorem enterSpinUp_within (s : State) : Within rollerBlocks s (enterSpinUp s) :=
  Within.after (startSeqTimer_roller _ _) (Within.after (changeRoller_within _ _) (writePhaseStreams_roller _ _ s))

theorem enterZero_within (s : State) : Within rollerBlocks s (enterZero s) :=
  Within.after (setEval_roller _ _) (Within.after (lower_roller _ _) (Within.after (changeRoller_within _ _)
    (Within.after (writePhaseStreams_roller _ _ _) (cancelSeqTimer_roller s))))

theorem enterTest_within (s : State) : Within rollerBlocks s (enterTest s) :=
  Within.after (raiseApply_within _ _) (Within.after (startSeqTimer_roller _ _) (Within.after (changeRoller_within _ _)
    (Within.after (setEval_roller _ _) (writePhaseStreams_roller _ _ s))))

theorem takeResult_roller (t a : Nat) (r : AxleResult) (s : State) : Within rollerBlocks s (takeResult t a r s) :=
  (takeResult_within t a r s).roller (by simp)

theorem writeResult_within (s : State) : Within rollerBlocks s (writeResult s) := by
  unfold writeResult
  split
  · exact Within.refl _ s
  · exact Within.after (raise_roller _ _ _) (Within.after (lower_roller _ _) (Within.after (setRoller_within _ _)
      (Within.after (queueFrame_roller _ _) (takeResult_roller _ _ _ s))))

theorem recordReport_within (r : EvalReport) (s : State) : Within rollerBlocks s (recordReport r s) := by
  unfold recordReport
  split
  · exact Within.ite (Within.after (writeResult_within _) (setRoller_within s _)) (setRoller_within s _)
  · exact rollerFault_within _ s
  · exact Within.refl _ s

/-- A request for the record, with the report that comes at once (R88, R110). -/
theorem requestRecord_within (s : State) :
    Within rollerBlocks s
      (match (evalRequestRecord s).2 with
        | some r => recordReport r (evalRequestRecord s).1
        | none => (evalRequestRecord s).1) := by
  split
  · exact Within.after (recordReport_within _ _) (setEval_roller s _)
  · exact setEval_roller s _

theorem enterStopping_within (reason : EndReason) (s : State) : Within rollerBlocks s (enterStopping reason s) := by
  unfold enterStopping
  dsimp only
  refine Within.after (requestRecord_within _) (Within.after (raise_roller _ _ _) (Within.after (lowerAll_roller _ _) ?_))
  refine Within.after (setEval_roller _ _) (Within.after (changeRoller_within _ _) (Within.after (cancelSeqTimer_roller _) ?_))
  exact Within.after (writePhaseStreams_roller _ _ _) (Within.after (motorStop_within _) (setRoller_within s _))

theorem enterResult_within (s : State) : Within rollerBlocks s (enterResult s) :=
  Within.after (writeResult_within _) (Within.after (changeRoller_within _ _) (writePhaseStreams_roller _ _ s))

theorem enterExit_within (s : State) : Within rollerBlocks s (enterExit s) :=
  Within.after (raise_roller _ _ _) (Within.after (lowerAll_roller _ _) (Within.after (changeRoller_within _ _)
    (Within.after (cancelSeqTimer_roller _) (writePhaseStreams_roller _ _ s))))

theorem axleLeft_within (s : State) : Within rollerBlocks s (axleLeft s) :=
  Within.after (enterIdle_within _ _) (localAxleEvent_roller _ _ _ s)

theorem rollerReport_within (r : EvalReport) (s : State) : Within rollerBlocks s (rollerReport r s) := by
  unfold rollerReport
  split
  · exact Within.after (enterPositioned_within _) (Within.after (setRoller_within _ _) (Within.after (queueFrame_roller _ _)
      (takeResult_roller _ _ _ s)))
  · exact enterTest_within s
  · exact recordReport_within _ s
  · exact recordReport_within _ s
  · exact Within.refl _ s

theorem rollerWindow_within (w : WindowSample) (s : State) : Within rollerBlocks s (rollerWindow w s) := by
  unfold rollerWindow
  split
  · exact Within.ite (enterZero_within s) (Within.refl _ s)
  · exact setRoller_within s _
  · exact Within.refl _ s

theorem rollerTick8_within (s : State) : Within rollerBlocks s (rollerTick8 s) := setRoller_within s _

theorem keyStart_within (s : State) : Within rollerBlocks s (keyStart s) :=
  Within.ite (Within.after (enterWarn_within _) (lower_roller _ s)) (Within.refl _ s)

theorem keyNext_within (s : State) : Within rollerBlocks s (keyNext s) := by
  unfold keyNext
  split
  · exact enterExit_within s
  · exact Within.ite (Within.refl _ s) (Within.ite (Within.after (enterWarn_within _) (setRoller_within s _)) (enterExit_within s))
  · exact Within.refl _ s

theorem keyRepeat_within (s : State) : Within rollerBlocks s (keyRepeat s) := Within.ite (enterWarn_within s) (Within.refl _ s)

theorem releaseHold_within (c : FaultCause) (s : State) : Within rollerBlocks s (releaseHold c s) := by
  unfold releaseHold
  refine Within.ite (Within.refl _ s) (Within.ite ?_ ?_)
  · exact Within.after (enterPositioned_within _) (Within.after (lower_roller _ _) (changeRoller_within _ s))
  · exact Within.after (enterIdle_within _ _) (Within.after (lower_roller _ _) (changeRoller_within _ s))

theorem rollerAbort_within (s : State) : Within rollerBlocks s (rollerAbort s) := by
  unfold rollerAbort
  split
  · exact releaseHold_within _ s
  · refine Within.ite ?_ (Within.refl _ s)
    exact Within.after (enterPositioned_within _) (Within.after (setRoller_within _ _) (Within.after (setEval_roller _ _)
      (motorStop_within s)))

theorem wheelsLeaving_within (s : State) : Within rollerBlocks s (wheelsLeaving s) :=
  Within.ite (Within.after (enterIdle_within _ _) (motorStop_within s)) (Within.refl _ s)

theorem feedbackActive_within (left : Bool) (s : State) : Within rollerBlocks s (feedbackActive left s) :=
  Within.ite (setRoller_within s _) (Within.refl _ s)

theorem feedbackInactive_within (left : Bool) (s : State) : Within rollerBlocks s (feedbackInactive left s) :=
  Within.after (Within.ite (setRoller_within _ _) (Within.refl _ _)) (Within.ite (rollerFault_within _ s) (Within.refl _ s))

theorem removeAwaited_within (n : Nat) (s : State) : Within rollerBlocks s (removeAwaited n s) :=
  Within.ite (Within.ite (Within.after (startSeqTimer_roller _ _) (setRoller_within s _)) (setRoller_within s _)) (Within.refl _ s)

theorem warningShownHeard_within (n : Nat) (a : FixedAxle) (s : State) : Within rollerBlocks s (warningShownHeard n a s) :=
  Within.ite (removeAwaited_within n s) (Within.refl _ s)

theorem judgeRoleClash_within (s : State) : Within rollerBlocks s (judgeRoleClash s) := by
  unfold judgeRoleClash
  dsimp only
  split
  · exact Within.ite (Within.refl _ s) (Within.after (holdChanged_within _ _) (Within.after (raise_roller _ _ _)
      (setRoller_within s _)))
  · exact Within.ite (Within.after (holdChanged_within _ _) (Within.after (lower_roller _ _) (setRoller_within s _)))
      (Within.refl _ s)

theorem abandonAxle_within (s : State) : Within rollerBlocks s (abandonAxle s) :=
  Within.after (enterIdle_within _ _) (Within.after (setEval_roller _ _) (motorStop_within s))

theorem rollerStopped_within (s : State) : Within rollerBlocks s (rollerStopped s) := by
  unfold rollerStopped
  split
  · exact Within.after (showDriveOn_within _) (setRoller_within s _)
  · exact axleLeft_within s
  · exact Within.ite (axleLeft_within s) (abandonAxle_within s)
  · exact abandonAxle_within s

theorem rollerCancelled_within (t : Nat) (s : State) : Within rollerBlocks s (rollerCancelled t s) := by
  unfold rollerCancelled
  refine Within.ite (Within.refl _ s) (Within.ite (setRoller_within s _) ?_)
  exact Within.ite (Within.after (enterExit_within _) (Within.after (setEval_roller _ _) (motorStop_within s))) (Within.refl _ s)

theorem rollerLaneClear_within (s : State) : Within rollerBlocks s (rollerLaneClear s) :=
  abandonAxle_within s

/-! ### Plate sequence -/

/-- Shorthand for a frame inside the plate sequence's. -/
theorem Within.plate {bs : List Block} {s t : State} (h : Within bs s t) (sub : bs ⊆ plateBlocks) : Within plateBlocks s t :=
  h.mono sub

theorem setPlate_within (s : State) (x : Plate) : Within plateBlocks s (s.setPlate x) := (Within.setPlate s x).plate (by simp)

theorem changePlate_within (f : Plate → Plate) (s : State) : Within plateBlocks s (changePlate f s) :=
  presenceIfChanged_within s _ (setPlate_within s _) (by simp)

theorem setEval_plate (s : State) (x : Eval) : Within plateBlocks s (s.setEval x) := (setEval_within s x).plate (by simp)

theorem closePlateStream_within (s : State) : Within plateBlocks s (closePlateStream s) :=
  Within.after ((writeStream_within _ _ _).plate (by simp)) ((setGate_within _ s).plate (by simp))

theorem dropMeasurement_within (s : State) : Within plateBlocks s (dropMeasurement s) :=
  Within.after (setEval_plate _ _) (closePlateStream_within s)

theorem openMeasurement_within (s : State) : Within plateBlocks s (openMeasurement s) :=
  Within.after ((setGate_within _ _).plate (by simp)) (Within.after (setEval_plate _ _) ((writeStream_within _ _ s).plate (by simp)))

theorem localAxleEvent_plate (a : FixedAxle) (ev : AxleEventKind) (r : MeasuringRole) (s : State) :
    Within plateBlocks s (localAxleEvent a ev r s) := (localAxleEvent_within a ev r s).plate (by simp)

theorem beginCrossing_within (s : State) : Within plateBlocks s (beginCrossing s) := by
  unfold beginCrossing
  dsimp only
  refine Within.when ((raise_within _ _ _).plate (by simp)) (Within.after (changePlate_within _ _) ?_)
  refine Within.after ((startSeqTimer_within _ _).plate (by simp)) (Within.when (openMeasurement_within _) ?_)
  exact Within.after (localAxleEvent_plate _ _ _ _) (setPlate_within s _)

theorem plateToClear_within (s : State) : Within plateBlocks s (plateToClear s) :=
  Within.after ((lower_within _ _).plate (by simp)) (Within.after (changePlate_within _ _)
    ((cancelSeqTimer_within s).plate (by simp)))

theorem endCrossing_within (slip : Option Int) (s : State) : Within plateBlocks s (endCrossing slip s) := by
  unfold endCrossing
  dsimp only
  refine Within.when (Within.after (beginCrossing_within _) (setPlate_within _ _)) ?_
  refine Within.after (plateToClear_within _) (Within.when (localAxleEvent_plate _ _ _ _) ?_)
  split
  · exact Within.after ((queueFrame_within _ _).plate (by simp)) ((takeResult_within _ _ _ s).plate (by simp))
  · exact Within.refl _ s

theorem plateReport_within (r : EvalReport) (s : State) : Within plateBlocks s (plateReport r s) := by
  unfold plateReport
  refine Within.ite ?_ (Within.refl _ s)
  split
  · exact endCrossing_within _ s
  · exact endCrossing_within _ s
  · exact Within.refl _ s

/-- The end of a crossing's recording, with the report that comes at once (R95, R122). -/
theorem endCrossingContext_within (s : State) :
    Within plateBlocks s
      (match (evalEndCrossing s).2 with
        | some r => plateReport r (evalEndCrossing s).1
        | none => (evalEndCrossing s).1) := by
  split
  · exact Within.after (plateReport_within _ _) (setEval_plate s _)
  · exact setEval_plate s _

theorem drainCrossing_within (s : State) : Within plateBlocks s (drainCrossing s) := by
  unfold drainCrossing
  dsimp only
  refine Within.after (endCrossingContext_within _) (Within.after (setPlate_within _ _) ?_)
  exact Within.after ((cancelSeqTimer_within _).plate (by simp)) (closePlateStream_within s)

theorem plateExit_within (s : State) : Within plateBlocks s (plateExit s) := by
  unfold plateExit
  split
  · exact changePlate_within _ s
  · exact plateToClear_within s
  · exact drainCrossing_within s
  · exact Within.after (endCrossing_within _ _) ((cancelSeqTimer_within s).plate (by simp))
  · exact Within.refl _ s

theorem plateEntry_within (s : State) : Within plateBlocks s (plateEntry s) := by
  unfold plateEntry
  split
  · exact beginCrossing_within s
  · exact plateToClear_within s
  · exact Within.after (plateToClear_within _) (dropMeasurement_within s)
  · exact plateToClear_within s
  · exact setPlate_within s _

theorem crossingExpired_within (s : State) : Within plateBlocks s (crossingExpired s) := by
  unfold crossingExpired
  split
  · exact Within.after (plateToClear_within _) (dropMeasurement_within s)
  · exact plateToClear_within s
  · exact Within.refl _ s

theorem unmeasure_within (s : State) : Within plateBlocks s (unmeasure s) :=
  Within.after (changePlate_within _ _) (dropMeasurement_within s)

theorem plateFault_within (s : State) : Within plateBlocks s (plateFault s) := by
  unfold plateFault
  refine Within.ite (Within.refl _ s) ?_
  dsimp only
  split
  · exact Within.after (unmeasure_within _) (changePlate_within _ s)
  · exact Within.after (endCrossing_within _ _) (Within.after (setEval_plate _ _) (changePlate_within _ s))
  · exact changePlate_within _ s

theorem plateAbort_within (s : State) : Within plateBlocks s (plateAbort s) := Within.ite (changePlate_within _ s) (Within.refl _ s)

theorem plateStopped_within (s : State) : Within plateBlocks s (plateStopped s) := Within.ite (unmeasure_within s) (Within.refl _ s)

theorem plateCancelled_within (t : Nat) (s : State) : Within plateBlocks s (plateCancelled t s) :=
  Within.ite (unmeasure_within s) (Within.refl _ s)

theorem plateLaneClear_within (s : State) : Within plateBlocks s (plateLaneClear s) := by
  unfold plateLaneClear
  split
  · exact Within.after (changePlate_within _ _) (dropMeasurement_within s)
  · exact Within.after (plateToClear_within _) (Within.after (setPlate_within _ _) (setEval_plate s _))
  · exact setPlate_within s _
  · exact Within.refl _ s

end Sys2Proof.Machine
end

