-- ==== Sys2Proof/Laws/Events.lean ====
section
/-! SUPPORT. What the events can do: the latch, heard frames, ticks, the end of start-up and the due events, each by its frame
(R22 to R43, R46, R172 to R178). -/

namespace Sys2Proof.Machine

/-- The blocks an event of the lane can change. -/
abbrev eventBlocks : List Block := [.lane, .bus, .timers, .capture, .eval, .roller, .plate, .guidance, .cert]

theorem Within.event {bs : List Block} {s t : State} (h : Within bs s t) (sub : bs ⊆ eventBlocks) :
    s.onlyChanges eventBlocks t := State.onlyChanges_mono h.1 sub

theorem State.onlyChanges_after {bs : List Block} {s t u : State} (k : t.onlyChanges bs u) (h : s.onlyChanges bs t) :
    s.onlyChanges bs u := State.onlyChanges_trans h k

theorem State.onlyChanges_ite {bs : List Block} {s t u : State} {c : Prop} [Decidable c] (h : s.onlyChanges bs t)
    (k : s.onlyChanges bs u) : s.onlyChanges bs (if c then t else u) := by
  split
  · exact h
  · exact k

theorem State.onlyChanges_foldl {α : Type} {bs : List Block} {f : State → α → State} (h : ∀ (s : State) a, s.onlyChanges bs (f s a)) :
    ∀ (as : List α) (s : State), s.onlyChanges bs (as.foldl f s)
  | [], s => s.onlyChanges_refl bs
  | a :: as, s => State.onlyChanges_trans (h s a) (State.onlyChanges_foldl h as (f s a))

theorem setBus_changes (s : State) (x : Bus) : s.onlyChanges eventBlocks (s.setBus x) := by
  intro b hb; cases b <;> first | rfl | simp at hb

theorem setLane_changes (s : State) (x : LaneView) : s.onlyChanges eventBlocks (s.setLane x) :=
  (setLane_within s x).event (by simp)

theorem onRoller_within {f : State → State} (h : ∀ s, Within rollerBlocks s (f s)) (s : State) :
    Within rollerBlocks s (onRoller f s) := Within.ite (h s) (Within.refl _ s)

theorem onPlate_within {f : State → State} (h : ∀ s, Within plateBlocks s (f s)) (s : State) :
    Within plateBlocks s (onPlate f s) := Within.ite (h s) (Within.refl _ s)

/-! ### The latch (R41 to R43) -/

theorem presenceIfChanged_changes (s t : State) (h : s.onlyChanges eventBlocks t) :
    s.onlyChanges eventBlocks (presenceIfChanged s t) :=
  State.onlyChanges_ite h (State.onlyChanges_trans h ((requestPresence_within t).event (by simp)))

theorem setLatch_changes (c : StopCause) (n : Nat) (s : State) : s.onlyChanges eventBlocks (setLatch c n s) := by
  unfold setLatch
  refine State.onlyChanges_ite ?_ ?_
  · exact State.onlyChanges_after ((updateFields_within _ _ _).event (by simp)) (setBus_changes s _)
  · refine presenceIfChanged_changes s _ ?_
    refine State.onlyChanges_after ((raise_within _ _ _).event (by simp)) ?_
    refine State.onlyChanges_after ((onPlate_within plateStopped_within _).event (by simp)) ?_
    exact State.onlyChanges_after ((onRoller_within rollerStopped_within _).event (by simp)) (setBus_changes s _)

theorem clearLatch_changes (s : State) : s.onlyChanges eventBlocks (clearLatch s) := by
  unfold clearLatch
  refine State.onlyChanges_ite ?_ (setBus_changes s _)
  refine presenceIfChanged_changes s _ ?_
  refine State.onlyChanges_after ((lower_within _ _).event (by simp)) ?_
  exact State.onlyChanges_after ((onRoller_within (holdChanged_within _) _).event (by simp)) (setBus_changes s _)

theorem stopLane_changes (c : StopCause) (s : State) : s.onlyChanges eventBlocks (stopLane c s) :=
  State.onlyChanges_after (setLatch_changes _ _ _) ((queueFrame_within _ s).event (by simp))

theorem stopInputActive_changes (s : State) : s.onlyChanges eventBlocks (stopInputActive s) :=
  State.onlyChanges_ite (s.onlyChanges_refl _) (State.onlyChanges_after (setBus_changes _ _) (stopLane_changes _ s))

theorem stopInputInactive_changes (s : State) : s.onlyChanges eventBlocks (stopInputInactive s) :=
  State.onlyChanges_ite (State.onlyChanges_after (clearLatch_changes _) ((queueFrame_within _ s).event (by simp)))
    (s.onlyChanges_refl _)

theorem resumeHeard_changes (s : State) : s.onlyChanges eventBlocks (resumeHeard s) :=
  State.onlyChanges_ite (clearLatch_changes s) (State.onlyChanges_ite (stopLane_changes _ s)
    (State.onlyChanges_ite (stopLane_changes _ s) (clearLatch_changes s)))

theorem weldedFound_changes (s : State) : s.onlyChanges eventBlocks (weldedFound s) :=
  State.onlyChanges_after ((rollerFault_within _ _).event (by simp)) (State.onlyChanges_after (stopLane_changes _ _)
    ((setRoller_within s _).event (by simp)))

/-! ### Heard frames (R26, R34 to R40) -/

theorem peerHeard_changes (n : Nat) (b : Bool) (s : State) : s.onlyChanges eventBlocks (peerHeard n b s) := by
  unfold peerHeard
  refine State.onlyChanges_after ((recheck_within _).event (by simp)) ?_
  refine State.onlyChanges_after ((judgeEntry_within _).event (by simp)) ?_
  refine (onRoller_within (fun t => ?_) s).event (by simp)
  exact Within.after (judgeRoleClash_within _) (Within.ite (removeAwaited_within n t) (Within.refl _ t))

theorem peerGone_changes (n : Nat) (s : State) : s.onlyChanges eventBlocks (peerGone n s) := by
  unfold peerGone
  refine State.onlyChanges_after ((recheck_within _).event (by simp)) ?_
  refine State.onlyChanges_after ((judgeEntry_within _).event (by simp)) ?_
  refine State.onlyChanges_after ((lowerWarningOf_within _ _).event (by simp)) ?_
  refine State.onlyChanges_after ((retestAll_within _).event (by simp)) ?_
  exact (onRoller_within (fun t => Within.after (judgeRoleClash_within _) (removeAwaited_within n t)) s).event (by simp)

theorem removePeer_changes (n : Nat) (s : State) : s.onlyChanges eventBlocks (removePeer n s) :=
  State.onlyChanges_after (peerGone_changes _ _) (setBus_changes s _)

theorem clash_changes (s : State) : s.onlyChanges eventBlocks (clash s) :=
  State.onlyChanges_ite (s.onlyChanges_refl _)
    (State.onlyChanges_after ((raise_within _ _ _).event (by simp)) (setBus_changes s _))

theorem enterPeer_changes (n : Nat) (b : Bool) (fields : Option (PeerRole × Activity × Nat × PrinterState)) (s : State) :
    s.onlyChanges eventBlocks (enterPeer n b fields s) :=
  State.onlyChanges_ite (State.onlyChanges_after (peerHeard_changes _ _ _) (setBus_changes s _)) (setBus_changes s _)

theorem hearFrame_changes (f : WireFrame) (deliver : State → State)
    (h : ∀ s : State, s.onlyChanges eventBlocks (deliver s)) (s : State) :
    s.onlyChanges eventBlocks (hearFrame f deliver s) := by
  unfold hearFrame
  refine State.onlyChanges_ite (s.onlyChanges_refl _) ?_
  dsimp only
  refine State.onlyChanges_ite (setBus_changes s _) ?_
  have before : s.onlyChanges eventBlocks
      (if f.source = (frameEnds f s).startUp.ownNumber then clash (frameEnds f s)
        else enterPeer f.source (decide (f.cls = 3 ∧ f.kind = 1) && f.sensible)
          (if (decide (f.cls = 3 ∧ f.kind = 1) && f.sensible) = true then readPresence f.payload else none) (frameEnds f s)) :=
    State.onlyChanges_after (State.onlyChanges_ite (clash_changes _) (enterPeer_changes _ _ _ _)) (setBus_changes s _)
  exact State.onlyChanges_ite (State.onlyChanges_trans before (h _)) before

theorem onLaneStop_changes (n : Nat) (p : List Byte) (s : State) : s.onlyChanges eventBlocks (onLaneStop n p s) := by
  unfold onLaneStop
  split
  · exact setLatch_changes _ _ s
  · exact s.onlyChanges_refl _

theorem onMotorWarning_changes (n : Nat) (p : List Byte) (s : State) : s.onlyChanges eventBlocks (onMotorWarning n p s) := by
  unfold onMotorWarning
  split
  · exact State.onlyChanges_ite ((raiseWith_within _ _ _ _ s).event (by simp)) (s.onlyChanges_refl _)
  · exact s.onlyChanges_refl _

theorem onWarningShown_changes (n : Nat) (p : List Byte) (s : State) : s.onlyChanges eventBlocks (onWarningShown n p s) :=
  State.onlyChanges_ite ((onRoller_within (warningShownHeard_within _ _) s).event (by simp)) (s.onlyChanges_refl _)

theorem onRollersStopped_changes (n : Nat) (s : State) : s.onlyChanges eventBlocks (onRollersStopped n s) :=
  (lowerWarningOf_within n s).event (by simp)

theorem onVehicleCancel_changes (p : List Byte) (s : State) : s.onlyChanges eventBlocks (onVehicleCancel p s) := by
  unfold onVehicleCancel
  dsimp only
  refine State.onlyChanges_ite ?_ (s.onlyChanges_refl _)
  refine State.onlyChanges_after ((guidanceTicketGone_within _ _).event (by simp)) ?_
  refine State.onlyChanges_after ((certTicketGone_within _ _).event (by simp)) ?_
  refine State.onlyChanges_after ((onPlate_within (plateCancelled_within _) _).event (by simp)) ?_
  exact State.onlyChanges_after ((onRoller_within (rollerCancelled_within _) _).event (by simp)) (setLane_changes s _)

theorem onAxleEvent_changes (p : List Byte) (s : State) : s.onlyChanges eventBlocks (onAxleEvent p s) := by
  unfold onAxleEvent
  split
  · exact setLane_changes s _
  · exact s.onlyChanges_refl _

theorem takeResult_changes (t a : Nat) (r : AxleResult) (s : State) : s.onlyChanges eventBlocks (takeResult t a r s) :=
  (takeResult_within t a r s).event (by simp)

theorem onBrakeResult_changes (p : List Byte) (s : State) : s.onlyChanges eventBlocks (onBrakeResult p s) := by
  unfold onBrakeResult
  dsimp only
  split
  · exact takeResult_changes _ _ _ s
  · exact s.onlyChanges_refl _

theorem onCertRequest_changes (n : Nat) (p : List Byte) (s : State) : s.onlyChanges eventBlocks (onCertRequest n p s) :=
  State.onlyChanges_ite ((certRequest_within _ _ s).event (by simp)) (s.onlyChanges_refl _)

theorem onReprintRequest_changes (n : Nat) (p : List Byte) (s : State) : s.onlyChanges eventBlocks (onReprintRequest n p s) :=
  State.onlyChanges_ite ((reprintRequest_within _ _ s).event (by simp)) (s.onlyChanges_refl _)

theorem onCertDone_changes (p : List Byte) (s : State) : s.onlyChanges eventBlocks (onCertDone p s) := by
  unfold onCertDone
  split
  · exact setLane_changes s _
  · exact s.onlyChanges_refl _

theorem onLaneClear_changes (s : State) : s.onlyChanges eventBlocks (onLaneClear s) := by
  unfold onLaneClear
  refine State.onlyChanges_after ((guidanceLaneClear_within _).event (by simp)) ?_
  refine State.onlyChanges_after ((certLaneClear_within _).event (by simp)) ?_
  refine State.onlyChanges_after ((onPlate_within plateLaneClear_within _).event (by simp)) ?_
  exact State.onlyChanges_after ((onRoller_within rollerLaneClear_within _).event (by simp)) ((clearLane_within s).event (by simp))

/-! ### Rail faults and reports (R71, R72, R76) -/

theorem raiseSensorFault_changes (s : State) : s.onlyChanges eventBlocks (raiseSensorFault s) :=
  State.onlyChanges_ite ((updateFields_within _ _ s).event (by simp)) ((raise_within _ _ s).event (by simp))

theorem settleSensorFault_changes (s : State) : s.onlyChanges eventBlocks (settleSensorFault s) :=
  State.onlyChanges_ite ((lower_within _ s).event (by simp)) ((updateFields_within _ _ s).event (by simp))

theorem faultInput_changes (n : Nat) (s : State) : s.onlyChanges eventBlocks (faultInput n s) := by
  unfold faultInput
  dsimp only
  refine State.onlyChanges_after (raiseSensorFault_changes _) ?_
  have first : s.onlyChanges eventBlocks (s.setCapture (s.capture.fault n)) := (Within.setCapture s _).event (by simp)
  have second := State.onlyChanges_trans first (State.onlyChanges_ite (c := n ≤ 4)
    ((onRoller_within (rollerFault_within .sensor) _).event (by simp)) (State.onlyChanges_refl _ _))
  exact State.onlyChanges_ite (State.onlyChanges_trans second ((onPlate_within plateFault_within _).event (by simp))) second

/-! ### Due events -/

/-- The blocks a due event can change: all but the power, the lane clock, the filter and the queue of commands. -/
abbrev dueBlocks : List Block :=
  [.startUp, .pins, .lane, .bus, .timers, .counters, .capture, .eval, .roller, .plate, .guidance, .cert, .archive]

theorem Within.due {bs : List Block} {s t : State} (h : Within bs s t) (sub : bs ⊆ dueBlocks) : s.onlyChanges dueBlocks t :=
  State.onlyChanges_mono h.1 sub

theorem State.onlyChanges_due {s t : State} (h : s.onlyChanges eventBlocks t) : s.onlyChanges dueBlocks t :=
  State.onlyChanges_mono h (by simp)

theorem setStartUp_changes (s : State) (x : StartUp) : s.onlyChanges dueBlocks (s.setStartUp x) := by
  intro b hb; cases b <;> first | rfl | simp at hb

theorem endStartUp_changes (s : State) : s.onlyChanges dueBlocks (endStartUp s) := by
  unfold endStartUp
  dsimp only
  refine State.onlyChanges_after ((requestPresence_within _).due (by simp)) ?_
  refine State.onlyChanges_after (State.onlyChanges_due
    (State.onlyChanges_ite (stopInputActive_changes _) (State.onlyChanges_refl _ _))) ?_
  refine State.onlyChanges_after ((judgeEntry_within _).due (by simp)) ?_
  refine State.onlyChanges_after (State.onlyChanges_ite (State.onlyChanges_after ((recheck_within _).due (by simp))
    (State.onlyChanges_ite ((paperGone_within _).due (by simp)) (State.onlyChanges_refl _ _))) (State.onlyChanges_refl _ _)) ?_
  have sequence (t : State) : t.onlyChanges dueBlocks (startSequence t) := by
    unfold startSequence
    split
    · exact (Within.after (enterIdle_within _ _) (judgeRoleClash_within t)).due (by simp)
    · exact State.onlyChanges_ite (t.onlyChanges_refl _) ((raise_within _ _ t).due (by simp))
    · exact t.onlyChanges_refl _
  refine State.onlyChanges_after (sequence _) (State.onlyChanges_after ((firstDisplay_within _).due (by simp)) ?_)
  have settings (t : State) : t.onlyChanges dueBlocks (takeSettings t) :=
    State.onlyChanges_after ((Within.setTimers _ _).due (by simp)) (State.onlyChanges_after
      ((Within.setCounters _ _).due (by simp)) ((Within.setEval t _).due (by simp)))
  exact State.onlyChanges_after (settings _) (State.onlyChanges_after (setStartUp_changes _ _)
    (State.onlyChanges_due (setBus_changes s _)))

/-- What a due event can do. -/
theorem takeDue_changes (d : Due) (s : State) : s.onlyChanges dueBlocks (takeDue s d) := by
  have report (r : EndReason) (t : State) : t.onlyChanges dueBlocks (testReport r t) :=
    State.onlyChanges_ite ((enterStopping_within r t).due (by simp)) (t.onlyChanges_refl _)
  cases d with
  | certificateStart => exact (startHead_within s).due (by simp)
  | reprintStart => exact (startHead_within s).due (by simp)
  | inputFaulted n => exact State.onlyChanges_due (faultInput_changes n s)
  | release => exact State.onlyChanges_after (report _ _) ((Within.setEval s _).due (by simp))
  | slipStop => exact State.onlyChanges_after (report _ _) ((Within.setEval s _).due (by simp))
  | warnHorn => exact (enterSpinUp_within s).due (by simp)
  | warnTimeout => exact (Within.after (enterPositioned_within _) (raise_roller _ _ s)).due (by simp)
  | runOut => exact (enterSpinUp_within s).due (by simp)
  | spinUpTimeout => exact (rollerFault_within _ s).due (by simp)
  | testLimit => exact (enterStopping_within _ s).due (by simp)
  | crossingTimeout => exact (crossingExpired_within s).due (by simp)
  | paperWait => exact State.onlyChanges_after ((failJob_within _).due (by simp)) ((cancelCertTimer_within s).due (by simp))
  | feedbackCount => exact (rollerFault_within _ s).due (by simp)
  | welded => exact State.onlyChanges_due (weldedFound_changes s)
  | axleOn => exact (enterWeigh_within s).due (by simp)
  | axleLeaves => exact (axleLeft_within s).due (by simp)
  | rollDown => exact (enterResult_within s).due (by simp)
  | minimumShow => exact (showTimeMet_within s).due (by simp)
  | rejectedLife => exact (lower_within _ s).due (by simp)
  | warningLife => exact (lower_within _ s).due (by simp)
  | singleEnd => exact (singleEnd_within s).due (by simp)
  | peerAbsent =>
    show s.onlyChanges dueBlocks (match s.bus.absent with | some n => removePeer n s | none => s)
    split
    · exact State.onlyChanges_due (removePeer_changes _ s)
    · exact s.onlyChanges_refl _
  | startUpEnd => exact endStartUp_changes s
  | converterStart => exact (Within.setCapture s _).due (by simp)

theorem settleFor_changes : ∀ (n : Nat) (s : State), s.onlyChanges dueBlocks (settleFor n s)
  | 0, s => s.onlyChanges_refl _
  | n + 1, s => by
    unfold settleFor
    split
    · exact State.onlyChanges_trans (takeDue_changes _ s) (settleFor_changes n _)
    · exact s.onlyChanges_refl _

theorem settle_changes (s : State) : s.onlyChanges dueBlocks (settle s) := settleFor_changes 64 s

end Sys2Proof.Machine
end

