-- ==== Sys2Proof/Laws/PerInstr.lean ====
section
/-! SUPPORT. Family Wf: a well-formed command that brings a heard frame brings one that fits the fields of the wire (R24), one lemma
per constructor of Instr. -/

namespace Sys2Proof.Laws.Wf

/-- A frame fits the wire: class in 2 bits, kind in 5, source in 4, at most 28 payload bytes (R24). -/
def Fits (f : Machine.WireFrame) : Prop := f.cls < 4 ∧ f.kind < 32 ∧ f.source < 16 ∧ f.payload.length ≤ 28

/-- A well-formed command brings a frame that fits, if it brings one. -/
def Statement (i : Instr) : Prop := i.wf = true → ∀ f, Machine.heardOf i = some f → Fits f

theorem noFrame {i : Instr} (h : Machine.heardOf i = none) : Statement i := by
  intro _ f e
  rw [h] at e
  cases e

theorem frame {i : Instr} {cls kind : Nat} {src : BitVec 4} {p : List Byte} (h : Machine.heardOf i = some ⟨cls, kind, src.toNat, p⟩)
    (w : i.wf = payloadOk p) (c : cls < 4) (k : kind < 32) : Statement i := by
  intro ok f e
  rw [h] at e
  cases e
  refine ⟨c, k, src.isLt, ?_⟩
  rw [w] at ok
  simpa [payloadOk] using ok

theorem powerOn : Statement .powerOn := noFrame rfl

theorem powerOff (left : List Residue) : Statement (.powerOff left) := noFrame rfl

theorem resetPin (left : List Residue) : Statement (.resetPin left) := noFrame rfl

theorem resetRelease (station : BitVec 4) (role : BitVec 2) (printer : Bool) : Statement (.resetRelease station role printer) :=
  noFrame rfl

theorem memoryReadComplete (copy1 copy2 copy3 : List Byte) : Statement (.memoryReadComplete copy1 copy2 copy3) := noFrame rfl

theorem archiveScanComplete : Statement .archiveScanComplete := noFrame rfl

theorem startUpEnd : Statement .startUpEnd := noFrame rfl

theorem tick32Hz (samples : Samples) (first : List Line) : Statement (.tick32Hz samples first) := noFrame rfl

theorem tick8Hz (first : List TickTaker) : Statement (.tick8Hz first) := noFrame rfl

theorem tick1Hz : Statement .tick1Hz := noFrame rfl

theorem peerAbsent : Statement .peerAbsent := noFrame rfl

theorem pulseEdge (input : PulseInput) : Statement (.pulseEdge input) := noFrame rfl

theorem pacingEvent (timer : PacingTimer) : Statement (.pacingEvent timer) := noFrame rfl

theorem toneUnderflow : Statement .toneUnderflow := noFrame rfl

theorem dimmerUnderflow : Statement .dimmerUnderflow := noFrame rfl

theorem axleOnRollers : Statement .axleOnRollers := noFrame rfl

theorem axleLeaves : Statement .axleLeaves := noFrame rfl

theorem feedbackCountExpiry : Statement .feedbackCountExpiry := noFrame rfl

theorem weldedContactor : Statement .weldedContactor := noFrame rfl

theorem rollDownComplete : Statement .rollDownComplete := noFrame rfl

theorem warnHornExpiry : Statement .warnHornExpiry := noFrame rfl

theorem warningTimeout : Statement .warningTimeout := noFrame rfl

theorem runOutExpiry : Statement .runOutExpiry := noFrame rfl

theorem spinUpTimeout : Statement .spinUpTimeout := noFrame rfl

theorem testTimeLimit : Statement .testTimeLimit := noFrame rfl

theorem crossingExpiry : Statement .crossingExpiry := noFrame rfl

theorem paperWaitExpiry : Statement .paperWaitExpiry := noFrame rfl

theorem converterStart : Statement .converterStart := noFrame rfl

theorem rowComplete (raws : List Raw) : Statement (.rowComplete raws) := noFrame rfl

theorem inputFaulted (input : Fin 8) : Statement (.inputFaulted input) := noFrame rfl

theorem oneOffConversionComplete (raw : Raw) : Statement (.oneOffConversionComplete raw) := noFrame rfl

theorem evaluationComplete : Statement .evaluationComplete := noFrame rfl

theorem release : Statement .release := noFrame rfl

theorem slipStop : Statement .slipStop := noFrame rfl

theorem frameStart : Statement .frameStart := noFrame rfl

theorem lostArbitration : Statement .lostArbitration := noFrame rfl

theorem bitError : Statement .bitError := noFrame rfl

theorem frameSent : Statement .frameSent := noFrame rfl

theorem frameDiscarded (bits : List Bool) : Statement (.frameDiscarded bits) := noFrame rfl

theorem unknownKindFrame (cls : BitVec 2) (kind : BitVec 5) (source : BitVec 4) (payload : List Byte) :
    Statement (.unknownKindFrame cls kind source payload) := by
  intro ok f e
  simp only [Machine.heardOf] at e
  split at e
  · cases e
  · cases e
    exact ⟨cls.isLt, kind.isLt, source.isLt, by simpa [Instr.wf, payloadOk] using ok⟩

theorem presence (source : BitVec 4) (payload : List Byte) : Statement (.presence source payload) :=
  frame rfl rfl (by decide) (by decide)

theorem laneStop (source : BitVec 4) (payload : List Byte) : Statement (.laneStop source payload) :=
  frame rfl rfl (by decide) (by decide)

theorem laneResume (source : BitVec 4) (payload : List Byte) : Statement (.laneResume source payload) :=
  frame rfl rfl (by decide) (by decide)

theorem motorWarning (source : BitVec 4) (payload : List Byte) : Statement (.motorWarning source payload) :=
  frame rfl rfl (by decide) (by decide)

theorem warningShown (source : BitVec 4) (payload : List Byte) : Statement (.warningShown source payload) :=
  frame rfl rfl (by decide) (by decide)

theorem rollersStopped (source : BitVec 4) (payload : List Byte) : Statement (.rollersStopped source payload) :=
  frame rfl rfl (by decide) (by decide)

theorem vehicleEntry (source : BitVec 4) (payload : List Byte) : Statement (.vehicleEntry source payload) :=
  frame rfl rfl (by decide) (by decide)

theorem vehicleCancel (source : BitVec 4) (payload : List Byte) : Statement (.vehicleCancel source payload) :=
  frame rfl rfl (by decide) (by decide)

theorem axleEvent (source : BitVec 4) (payload : List Byte) : Statement (.axleEvent source payload) :=
  frame rfl rfl (by decide) (by decide)

theorem axleLoad (source : BitVec 4) (payload : List Byte) : Statement (.axleLoad source payload) :=
  frame rfl rfl (by decide) (by decide)

theorem brakeResult (source : BitVec 4) (payload : List Byte) : Statement (.brakeResult source payload) :=
  frame rfl rfl (by decide) (by decide)

theorem slipResult (source : BitVec 4) (payload : List Byte) : Statement (.slipResult source payload) :=
  frame rfl rfl (by decide) (by decide)

theorem certRequest (source : BitVec 4) (payload : List Byte) : Statement (.certRequest source payload) :=
  frame rfl rfl (by decide) (by decide)

theorem reprintRequest (source : BitVec 4) (payload : List Byte) : Statement (.reprintRequest source payload) :=
  frame rfl rfl (by decide) (by decide)

theorem certDone (source : BitVec 4) (payload : List Byte) : Statement (.certDone source payload) :=
  frame rfl rfl (by decide) (by decide)

theorem printAnswer (source : BitVec 4) (payload : List Byte) : Statement (.printAnswer source payload) :=
  frame rfl rfl (by decide) (by decide)

theorem laneClear (source : BitVec 4) (payload : List Byte) : Statement (.laneClear source payload) :=
  frame rfl rfl (by decide) (by decide)

theorem minimumShowTimeMet : Statement .minimumShowTimeMet := noFrame rfl

theorem entryRejectedLifeEnd : Statement .entryRejectedLifeEnd := noFrame rfl

theorem warningLifeEnd : Statement .warningLifeEnd := noFrame rfl

theorem singleCountEnd : Statement .singleCountEnd := noFrame rfl

theorem panelFrameSent : Statement .panelFrameSent := noFrame rfl

theorem certificateJobStart : Statement .certificateJobStart := noFrame rfl

theorem reprintJobStart : Statement .reprintJobStart := noFrame rfl

theorem printerReadyRise : Statement .printerReadyRise := noFrame rfl

theorem lineSent : Statement .lineSent := noFrame rfl

theorem paperOutActive : Statement .paperOutActive := noFrame rfl

theorem paperOutInactive : Statement .paperOutInactive := noFrame rfl

theorem eraseComplete (left : List Residue) : Statement (.eraseComplete left) := noFrame rfl

theorem recordProgramComplete (pass : Bool) (left : Residue) : Statement (.recordProgramComplete pass left) := noFrame rfl

theorem markProgramComplete (pass : Bool) : Statement (.markProgramComplete pass) := noFrame rfl

theorem busIdle : Statement .busIdle := noFrame rfl

theorem becomesReceiver : Statement .becomesReceiver := noFrame rfl

theorem dimmerCompareReached : Statement .dimmerCompareReached := noFrame rfl

end Sys2Proof.Laws.Wf
end

