-- ==== Sys2Proof/Laws/Step.lean ====
section
/-! SUPPORT. The step and the taking of due events: what a command does in a state where nothing is due, where the event it names is
due, and in general (log entries 1 and 2). -/

namespace Sys2Proof.Machine

theorem step_cons {s : State} {c : Instr} {rest : List Instr} (h : s.pending = c :: rest) : step s = exec c (s.setPending rest) := by
  simp [step, h]

theorem step_nil {s : State} (h : s.pending = []) : step s = .next (idlePeriod s) := by simp [step, h]

/-- A period of the base changes the lane clock's count at most. -/
theorem idlePeriod_within (s : State) : Within [.clock] s (idlePeriod s) :=
  Within.ite (Within.setClock s _) (Within.refl _ s)

theorem idlePeriod_stopped {s : State} (h : s.isRunning = false) : idlePeriod s = s := by simp [idlePeriod, h]

/-- A period of the base keeps the count an 8-bit one. -/
theorem period_count_lt {c : Clock} (h : c.count < 256) : c.period.count < 256 := by
  unfold Clock.period
  split
  · rename_i e
    have : (c.count + 1) % 8 ≠ 0 := by
      intro z
      have : Divided.hz32 ∈ ticksAt (c.count + 1) := by simp [ticksAt, Divided.period, Divided.bit, z]
      rw [e] at this
      exact absurd this (by simp)
    show c.count + 1 < 256
    omega
  · exact h

theorem State.quiet_iff {s : State} : s.quiet = true ↔ s.isRunning = true ∧ ∀ d ∈ dueOrder, s.isDue d = false := by
  simp [State.quiet]

/-- Nothing is due in a quiet state, so nothing is taken. -/
theorem settleFor_quiet {s : State} (h : s.quiet = true) : ∀ n : Nat, settleFor n s = s
  | 0 => rfl
  | n + 1 => by
    have none : dueOrder.find? s.isDue = none := by
      simpa using (State.quiet_iff.mp h).2
    simp [settleFor, none]

theorem settle_quiet {s : State} (h : s.quiet = true) : settle s = s := settleFor_quiet h 64

theorem outside_quiet {s : State} (h : s.quiet = true) (f : State → State) : outside f s = f s := by
  simp [outside, (State.quiet_iff.mp h).1, settle_quiet h]

theorem outside_stopped {s : State} (h : s.isRunning = false) (f : State → State) : outside f s = s := by
  simp [outside, h]

theorem named_due {s : State} {d : Due} (h : s.isDue d = true) : named d s = takeDue s d := by simp [named, h]

theorem named_ready {s : State} {d : Due} (h : s.ready d = true) : named d s = takeDue s d :=
  named_due (by simp [State.ready] at h; exact h.2)

/-- An expiry of WARN that leads to SPIN_UP is not due while a welded contactor is (R99; log entry 44). -/
theorem State.spinUpExpiry_yields {s : State} (h : s.isDue .welded = true) (w : WarnWait) : s.spinUpExpiry w = false := by
  have h' : s.weldedDue = true := h
  simp [State.spinUpExpiry, h']

/-- Every due event of the type stands in the order, but for an input number above 7, which no row can name. -/
theorem mem_dueOrder {d : Due} (h : ∀ n, d = .inputFaulted n → n < 8) : d ∈ dueOrder := by
  cases d with
  | inputFaulted n => have := h n rfl; simp [dueOrder]; exact this
  | _ => simp [dueOrder]

theorem named_quiet {s : State} {d : Due} (h : s.quiet = true) (m : d ∈ dueOrder) : named d s = s := by
  simp [named, (State.quiet_iff.mp h).2 d m, settle_quiet h]

/-- A property that every due event keeps is kept by the taking of what is due. -/
theorem settle_keeps {P : State → Prop} (h : ∀ s d, P s → s.isDue d = true → P (takeDue s d)) {s : State} (p : P s) :
    P (settle s) := by
  have go : ∀ (n : Nat) (s : State), P s → P (settleFor n s) := by
    intro n
    induction n with
    | zero => intro s p; exact p
    | succ n ih =>
      intro s p
      unfold settleFor
      split
      · rename_i d e
        exact ih _ (h s d p (by simpa using List.find?_some e))
      · exact p
  exact go 64 s p

/-- A property kept by every due event is kept by a command that names one. -/
theorem named_keeps {P : State → Prop} (h : ∀ s d, P s → s.isDue d = true → P (takeDue s d)) {s : State} (d : Due) (p : P s) :
    P (named d s) := by
  unfold named
  split
  · rename_i e; exact h s d p e
  · exact settle_keeps h p

/-- A property kept by every due event and by an operation is kept by the command of that operation. -/
theorem outside_keeps {P : State → Prop} (h : ∀ s d, P s → s.isDue d = true → P (takeDue s d)) {f : State → State}
    (k : ∀ s, P s → P (f s)) {s : State} (p : P s) : P (outside f s) := by
  unfold outside
  split
  · exact k _ (settle_keeps h p)
  · exact p

/-- One due event taken by the first of the events that are due, then whatever is due after it. -/
theorem settleFor_step {n : Nat} {s : State} {d : Due} (h : dueOrder.find? s.isDue = some d) :
    settleFor (n + 1) s = settleFor n (takeDue s d) := by simp [settleFor, h]

/-- Every command answers a next state. -/
theorem exec_next (c : Instr) (s : State) : ∃ t, exec c s = .next t := by
  cases c <;> exact ⟨_, rfl⟩

end Sys2Proof.Machine
end

