-- ==== Sys2Proof/Tests/Slice0.lean ====
section
/-! SUPPORT. The model's own tests: an ill-formed command for each check of WellFormed; the manual's worked figures; and for every
statement with hypotheses, states and operands that meet them, case by case (`test_witness_<statement>`). -/

set_option Elab.async false
namespace Sys2Proof.Tests

open Sys2Proof Sys2Proof.Machine

/-! ### Well-formedness: each check refuses an ill-formed command -/

def longPayload : List Byte := List.replicate 29 0

theorem test_wf_residues_of_a_block :
    ([.powerOff (List.replicate 9 .erased), .resetPin (List.replicate 9 .erased), .eraseComplete (List.replicate 9 .erased)] :
      List Instr).all (fun i => !i.wf) = true := by decide +kernel

theorem test_wf_memory_copies :
    ((Instr.memoryReadComplete (List.replicate 129 0) [] []).wf || (Instr.memoryReadComplete [] (List.replicate 129 0) []).wf ||
      (Instr.memoryReadComplete [] [] (List.replicate 129 0)).wf) = false := by decide +kernel

theorem test_wf_orders_name_each_once :
    ((Instr.tick32Hz Samples.inactive [.stopIn, .stopIn]).wf || (Instr.tick8Hz [.sequence, .sequence]).wf) = false := by decide

theorem test_wf_raw_values_of_a_row :
    ((Instr.rowComplete []).wf || (Instr.rowComplete [1, 2, 3, 4]).wf) = false ∧ (Instr.rowComplete [1, 2, 3]).wf = true := by decide

theorem test_wf_bits_of_a_frame : (Instr.frameDiscarded (List.replicate 330 true)).wf = false := by decide +kernel

theorem test_wf_payloads :
    ([.unknownKindFrame 0 9 4 longPayload, .presence 4 longPayload, .laneStop 4 longPayload, .laneResume 4 longPayload,
      .motorWarning 4 longPayload, .warningShown 4 longPayload, .rollersStopped 4 longPayload, .vehicleEntry 4 longPayload,
      .vehicleCancel 4 longPayload, .axleEvent 4 longPayload, .axleLoad 4 longPayload, .brakeResult 4 longPayload,
      .slipResult 4 longPayload, .certRequest 4 longPayload, .reprintRequest 4 longPayload, .certDone 4 longPayload,
      .printAnswer 4 longPayload, .laneClear 4 longPayload] : List Instr).all (fun i => !i.wf) = true := by decide

/-! ### The manual's worked figures -/

/-- R83's worked windows. -/
theorem test_slip_windows :
    [sideSlip 130 128, sideSlip 130 102, sideSlip 130 95, sideSlip 120 88, sideSlip 126 110, sideSlip 19 0] =
      [some 1, some 21, some 26, some 26, some 12, none] := by decide

/-- R85's worked rows. -/
theorem test_row_imbalance :
    [rowImbalance 80 60, rowImbalance 240 205, rowImbalance 610 540, rowImbalance 1180 1020, rowImbalance 1150 1050] =
      [none, some 14, some 11, some 13, some 8] := by decide

/-- R92's worked ratios. -/
theorem test_ratios : ratio 11443 18000 = 635 ∧ ratio 2980 18000 = 165 := by decide

/-- R86's worked revolutions 13 and 18. -/
theorem test_ovality :
    (Revolution.ovality ⟨13, true, true, 980, 1120⟩, Revolution.ovality ⟨18, true, true, 930, 1090⟩,
      Revolution.ovality ⟨14, true, true, 95, 1040⟩) = (some 12, some 14, none) := by decide

/-- R55's worked window 2: 130 edges from position 84 at 96 edges a revolution. -/
theorem test_revolution_counter :
    (List.range 130).foldl (fun c _ => RevCounter.edge c) ⟨255, 84, 96, true⟩ = ⟨1, 22, 96, true⟩ := by decide +kernel

/-- A frame of eleven dominant header bits is stuffed, sent and heard again. -/
theorem test_frame_bits : receive (WireFrame.bits ⟨0, 1, 4, [0, 0]⟩) = .heard ⟨0, 1, 4, [0, 0]⟩ := by decide +kernel

/-! ### States for the witnesses -/

def cal : Calibration := ⟨1000, 1000, 4000, 4000, 100, 100, 250, 0, 2000, 2048, 100⟩

def blk : StartUpBlock := ⟨[], [], [], 1000, 1000, 4000, 4000, 100, 100, 250, 0, 2000, 2048, 100, 96, 96, 199, 199, 49⟩

/-- Station 3 at work in a role, its start-up ended, with nothing due. -/
def work (role : Role) : State :=
  { State.reset with
    power := .running
    startUp := ⟨3, role, true, true, true, some (1, blk), true, false⟩
    bus := { Bus.reset with mode := .ready }
    eval := { Eval.reset with calib := some cal } }

/-- A vehicle entry of two axles. -/
def entry (ticket stamp : Nat) (state : EntryState) : Entry :=
  ⟨ticket, stamp, state, .light, .air, 2, [2], [1], some 600, some 18000, ⟨2024, 5, 6, 7, 8⟩, [], 0, 0,
    [AxleRecord.empty, AxleRecord.empty], none, none, none, none⟩

def withEntries (s : State) (es : List Entry) : State := s.setLane ⟨es, 9⟩

def peer (station : Nat) (role : PeerRole) : Peer := ⟨station, some role, some .idle, some 0, some .ready, 0⟩

def withPeers (s : State) (ps : List Peer) : State := s.setBus { s.bus with peers := ps }

def withQueue (s : State) (q : List QueuedFrame) : State := s.setBus { s.bus with queue := q, nextStamp := 20 }

def withLink (s : State) (l : Link) : State := s.setBus { s.bus with link := l, recessive := 12 }

def withMode (s : State) (m : BusMode) : State := s.setBus { s.bus with mode := m }

def withRoller (s : State) (r : Roller) : State := s.setRoller r

def withStreams (s : State) (x : Stream) (v : Converter) : State := s.setCapture { s.capture with s0 := x, converter := v }

def withAccepted (s : State) (x : Samples) : State := s.setFilter ⟨x, x⟩

def withLast (s : State) (l : Line) (v : Bool) : State := s.setFilter { s.filter with last := setLine s.filter.accepted l v }

def phase (p : Phase) : State :=
  withRoller (work .roller) { Roller.reset with phase := p, motors := p.turns, fixed := some ⟨501, 1⟩ }

/-- The sequence phase timer has expired in a phase. -/
def expiredIn (p : Phase) (w : Option WarnWait) : State :=
  let s := phase p
  (s.setRoller { s.roller with warnWait := w, awaited := [6] }).setTimers
    { s.timers with seqTimer := ⟨false, 0, true⟩ }

/-- One line changes at the next tick, and no other. -/
theorem onlyLine_of {s : State} {l : Line} {v : Bool} (a : s.filter.accepted = Samples.inactive)
    (b : s.filter.last = setLine Samples.inactive l v) (c : v = true) : s.onlyLine (setLine Samples.inactive l v) l := by
  subst c
  refine ⟨?_, ?_, ?_⟩
  · intro m h
    rw [a]
    cases l <;> cases m <;> first | rfl | exact absurd rfl h
  · rw [b]
  · rw [a]
    cases l <;> decide

def word (n : Nat) : List Byte := wordBytes n

def entryPayload (ticket cls brake axles pref weight : Nat) : List Byte :=
  word ticket ++ [byteOf cls, byteOf brake, byteOf axles, 2, 1] ++ word pref ++ word weight ++ word 2024 ++ [1, 2, 3, 4]

def content (seq : Nat) : CertContent :=
  ⟨⟨3, seq⟩, 501, [], .light, .air, 1, ⟨2024, 1, 2, 3, 4⟩, [], [], [AxleRecord.empty], none, none, none, .pass,
    ⟨false, false, false⟩, [⟨true, true, false, false⟩], none, none⟩

def record (seq : Nat) : SlotStore := SlotStore.record (content seq)

/-- A start-up copy that checks. -/
def copyBytes : List Byte :=
  List.replicate 38 65 ++ word 1000 ++ word 1000 ++ word 4000 ++ word 4000 ++ word 100 ++ word 100 ++ word 250 ++ word 0 ++ word 2000 ++
    word 2048 ++ word 100 ++ word 96 ++ word 96 ++ [199, 199, 49] ++ List.replicate 59 0

def goodBytes : List Byte := copyBytes ++ word (crcBytes copyBytes).toNat

/-! ### Witnesses: the step, power and start-up -/

/-- An outcome is the next state t. -/
def answers (o : Host.Outcome State Fault Refusal) (t : State) : Bool :=
  match o with
  | .next u => decide (u = t)
  | .fault _ | .refused _ => false

/-- Held in reset; running between two ticks; running before a tick. -/
theorem test_witness_StepRunsTheQueue :
    let s := (work .roller).setClock ⟨5, false, false, false⟩
    let u := (work .roller).setClock ⟨255, true, true, true⟩
    State.reset.pending = [] ∧ answers (step State.reset) State.reset = true ∧ s.pending = [] ∧ s.power = .running ∧
      answers (step s) (s.setClock ⟨6, true, true, true⟩) = true ∧ answers (step u) u = true := by decide +kernel

theorem test_witness_EventsWaitForTheirCause :
    (Instr.axleLeaves, Due.axleLeaves) ∈ namedEvents ∧ (Instr.inputFaulted 7, Due.inputFaulted 7) ∈ namedEvents ∧
      (work .plate).quiet = true ∧ State.reset.power = .held ∧ actsUnpowered .tick1Hz = false := by decide +kernel

/-- Off, held, and running under each archive operation. -/
theorem test_witness_PowerAndResetKeepTheArchive :
    let off := State.reset.setPower .off
    let s := work .roller
    off.power = .off ∧ off.archive.op = .idle ∧ State.reset.power = .held ∧ s.power ≠ .off ∧
      ArchiveOp.spares (.programRecord 0 (content 1)) 1 = true ∧ ArchiveOp.spares (.programRecord 0 (content 1)) 0 = false ∧
      ArchiveOp.spares (.programMark 31 0 4) 30 = true ∧ ArchiveOp.spares (.erasing 1 (content 1) [1]) 7 = true ∧
      ArchiveOp.spares (.erasing 1 (content 1) [1]) 8 = false ∧ ArchiveOp.spares (.erasing 1 (content 1) [1]) 15 = false ∧
      ArchiveOp.spares (.erasing 1 (content 1) [1]) 16 = true := by decide +kernel

def booting : State := State.reset.setPower .running

def written : State :=
  booting.setArchive (Archive.fresh ([record 65535, { record 1 with marks := [.mark 4, .spoiled, .unused] }, ⟨.checks ⟨3, 7⟩, .written (content 7) 0, [.unused, .unused, .unused]⟩,
    ⟨.unreadable, .damaged, [.unused, .unused, .unused]⟩] ++ List.replicate 28 SlotStore.blank))

set_option maxRecDepth 100000 in
theorem test_witness_StartUpReadsTheMemory :
    booting.quiet = true ∧ booting.startUp.memoryDone = false ∧ (goodCopy goodBytes).isSome = true ∧ goodCopy [] = none ∧
      goodCopy (goodBytes.set 3 66) = none ∧ goodBytes.length = 128 ∧ (crcBytes (goodBytes.take 126)).toNat = wordAt goodBytes 126 := by decide +kernel

set_option maxRecDepth 100000 in
/-- Slots of every kind, one with a CRC that is not its record's, the newest behind a wrap of the sequence. -/
theorem test_witness_StartUpReadsTheArchive :
    written.quiet = true ∧ written.startUp.scanDone = false ∧ written.archive.store 9 = SlotStore.blank ∧
      (written.archive.store 1).header = .checks ⟨3, 1⟩ ∧
      (written.archive.store 1).body = .written (content 1) (crcBytes (certBytes ⟨3, 1⟩ ++ (content 1).body)) ∧
      (written.archive.store 1).content = some (content 1) ∧ (written.archive.store 1).marks = [.mark 4, .spoiled, .unused] ∧
      (written.archive.store 2).header = .checks ⟨3, 7⟩ ∧
      (written.archive.store 2).body = .written (content 7) 0 ∧ crcBytes (certBytes ⟨3, 7⟩ ++ (content 7).body) ≠ 0 ∧
      (written.archive.store 3).header = .unreadable ∧ written.archive.scan.writePos = 3 ∧ written.archive.scan.nextSeq = 8 ∧
      booting.archive.scan.writePos = 0 ∧ booting.archive.scan.nextSeq = 1 := by decide +kernel

/-- Start-up at its end: by mode, own number, block and role. -/
def ending (own : Nat) (role : Role) (block : Option (Nat × StartUpBlock)) (m : BusMode) : State :=
  withMode (booting.setStartUp ⟨own, role, true, true, true, block, false, true⟩) m

theorem test_witness_StartUpEndSettlesTheStation :
    ([ending 3 .roller (some (1, blk)) .starting, ending 3 .plate (some (2, blk)) .starting, ending 3 .roller none .starting,
      ending 0 .panel (some (1, blk)) .starting, ending 3 .plate none .listenOnly] : List State).all
      (fun s => s.ready .startUpEnd && s.promptLaw) = true := by decide +kernel

/-! ### Witnesses: the transmit queue and the link -/

def presences : List QueuedFrame := (List.range 8).map fun i => ⟨.presence .roller .ready .idle 0 .ready, i⟩

def stops : List QueuedFrame := (List.range 8).map fun i => ⟨.laneStop .stopInput, i⟩

theorem test_witness_QueueRequestsFollowTheirRules :
    let a := withQueue (work .roller) stops
    let b := withQueue (work .roller) presences
    let c := withQueue (work .roller) (stops.take 7)
    let d := withLink (withQueue (work .roller) (presences.take 1)) (.transmitting ⟨.presence .roller .ready .idle 0 .ready, 0⟩)
    a.bus.canQueue = true ∧ a.bus.queue.length = 8 ∧ (∀ x ∈ a.bus.queue, x.frame.cls ≤ LaneFrame.cls .laneResume) ∧
      b.bus.canQueue = true ∧ b.bus.queue.length = 8 ∧ (∃ x ∈ b.bus.queue, LaneFrame.cls .laneResume < x.frame.cls) ∧
      (∃ q ∈ b.bus.queue, b.bus.replaceable q = true) ∧
      (∀ q ∈ c.bus.queue, q.frame.isPresence = true → c.bus.sendingStamp = some q.stamp) ∧
      (∀ q ∈ d.bus.queue, q.frame.isPresence = true → d.bus.sendingStamp = some q.stamp) ∧
      (withMode a .starting).bus.mode = .starting ∧ (withMode a .listenOnly).bus.mode = .listenOnly := by decide +kernel

/-- Room in the queue, with nothing being sent and with the head being sent; the new frame takes its place by class. -/
theorem test_witness_QueuedFramesTakeTheirPlace :
    let c := withQueue (work .roller) (presences.take 7)
    let d := withLink c (.transmitting ⟨.presence .roller .ready .idle 0 .ready, 0⟩)
    c.bus.canQueue = true ∧ c.bus.queue.length < 8 ∧ c.bus.sendingStamp = none ∧
      c.bus.queue.Pairwise (fun a b => b.before a = false) ∧ d.bus.canQueue = true ∧
      (d.bus.queue.head?.map (·.stamp)) = d.bus.sendingStamp ∧
      ((queueFrame .laneResume c).bus.queue.map (·.stamp)) = [20, 0, 1, 2, 3, 4, 5, 6] ∧
      ((queueFrame .laneResume d).bus.queue.map (·.stamp)) = [0, 20, 1, 2, 3, 4, 5, 6] := by decide +kernel

def queued : QueuedFrame := ⟨.laneStop .stopInput, 0⟩

theorem test_witness_LinkEventsActOnTheControllerAlone :
    let a := withLink (withQueue (work .roller) [queued]) .quiet
    let b := withLink (withQueue (work .roller) [queued]) (.transmitting queued)
    a.quiet = true ∧ b.quiet = true ∧ a.bus.queue.head? = some queued ∧ a.bus.link = .quiet ∧ a.bus.recessive = 12 ∧
      a.bus.mode = .ready ∧ b.bus.link = .transmitting queued ∧ a.bus.isSending = false ∧
      receive [false, false, false, false, false, false, false] = .discarded ∧ receive [] ≠ .discarded ∧
      (work .panel).bus.queue = [] := by decide +kernel

/-! ### Witnesses: heard frames -/

def fourteen : List Peer := ([1, 2, 4, 5, 6, 7, 8, 9, 10, 11, 12, 13, 14, 15] : List Nat).map fun n => peer n .desk

theorem test_witness_HeardFramesKeepThePeerList :
    let a := withPeers (work .roller) [peer 4 .panel]
    let b := withPeers ((work .roller).setStartUp { (work .roller).startUp with ownNumber := 0 }) fourteen
    a.quiet = true ∧ a.bus.isSending = false ∧ (heardOf (.axleEvent 0 [])).isSome = true ∧
      (heardOf (.laneStop 3 [0])).isSome = true ∧ a.startUp.ownNumber = 3 ∧ (a.bus.peer 4).isSome = true ∧ a.bus.peer 5 = none ∧
      b.quiet = true ∧ b.bus.peer 3 = none ∧ b.bus.peers.length = 14 ∧ readPresence [9, 0, 0, 0, 0, 0] = none := by decide +kernel

theorem test_witness_PresenceFillsThePeerEntry :
    let a := withPeers (work .roller) (fourteen.take 13)
    let p : List Byte := [0, 1, 2, 1, 245, 3]
    a.listens 15 = true ∧ a.bus.peers.length < 14 ∧ p.length = 6 ∧ byteAt p 0 = PeerRole.roller.code ∧
      byteAt p 1 = PresenceMode.stopped.code ∧ byteAt p 2 = Activity.fault.code ∧ byteAt p 5 = PrinterState.paperOut.code ∧
      a.rollerActive = true := by decide +kernel

theorem test_witness_SenselessFramesReachNoBlock :
    let a := withPeers (work .roller) [peer 4 .panel]
    a.quiet = true ∧ a.bus.isSending = false ∧ (a.bus.peer 4).isSome = true ∧
      heardOf (.unknownKindFrame 0 9 4 []) = some ⟨0, 9, 4, []⟩ ∧ (⟨0, 9, 4, []⟩ : WireFrame).sensible = false ∧
      heardOf (.axleLoad 4 [1, 2, 3, 4, 5, 6]) = some ⟨2, 5, 4, [1, 2, 3, 4, 5, 6]⟩ ∧
      (⟨2, 5, 4, [1, 2, 3, 4, 5, 6]⟩ : WireFrame).sensible = false ∧ heardOf (.printAnswer 4 []) = some ⟨2, 11, 4, []⟩ := by
  decide +kernel

theorem test_witness_LaneStopSetsTheLatch :
    (phase .test).listens 4 = true ∧ (phase .test).motorLaw = true ∧ byteAt [0] 0 = StopCause.stopInput.code ∧
      byteAt [1] 0 = StopCause.contactor.code ∧ byteAt [2] 0 = StopCause.desk.code ∧ 2 < byteAt [3] 0 := by decide +kernel

theorem test_witness_LaneResumeClearsOrAnswers :
    let a := withAccepted (work .roller) { Samples.inactive with stopIn := true }
    let b := withRoller (work .roller) { Roller.reset with welded := true }
    (withMode (work .roller) .starting).listens 4 = true ∧ (work .roller).listens 4 = true ∧ a.listens 4 = true ∧
      a.filter.accepted.stopIn = true ∧ b.listens 4 = true ∧ b.filter.accepted.stopIn = false ∧
      (b.rollerActive && b.roller.welded) = true := by decide +kernel

/-! ### Witnesses: the lane view -/

/-- Refused by each check, and ranged at each limit. -/
theorem test_witness_RegistrationIsCheckedAndRanged :
    let f := fun p => (readEntry p).check
    f (entryPayload 0 0 1 2 600 0) = none ∧ f (entryPayload 501 0 1 0 600 0) = none ∧ f (entryPayload 501 0 1 9 600 0) = none ∧
      f (entryPayload 501 3 1 2 600 0) = none ∧ f (entryPayload 501 0 2 2 600 0) = none ∧
      f (entryPayload 501 0 1 2 65535 0) = none ∧
      (f (entryPayload 501 0 1 8 0 60001)).map (fun r => (r.pref, r.weight)) = some (some 300, some 60000) ∧
      (f (entryPayload 501 0 1 1 1001 60000)).map (fun r => (r.pref, r.weight)) = some (some 1000, some 60000) ∧
      (f (entryPayload 501 0 0 2 65535 65535)).map (fun r => (r.pref, r.weight)) = some (none, none) := by decide +kernel

def fourOf (st : EntryState) : List Entry := [entry 501 1 st, entry 502 2 st, entry 503 3 st, entry 504 4 st]

theorem test_witness_VehicleEntryIsTakenIn :
    let p := entryPayload 505 0 1 2 600 0
    let a := withEntries (work .panel) [entry 501 1 .complete]
    let b := withEntries (work .panel) (fourOf .closed)
    let c := withEntries (work .panel) (fourOf .inLane)
    let d := withEntries (work .panel) (fourOf .abandoned)
    a.listens 4 = true ∧ a.tableLaw = true ∧ 17 ≤ p.length ∧ p.length ≤ 28 ∧ a.lane.stampCounter < 65535 ∧
      (work .panel).listens 4 = true ∧ (work .panel).tableLaw = true ∧ (work .panel).lane.entries = [] ∧ (work .panel).lane.find 505 = none ∧
      (work .panel).lane.stampCounter < 65535 ∧ (readEntry p).check.isSome = true ∧ a.lane.find 505 = none ∧ a.lane.entries.length < 4 ∧
      (a.lane.find 501).map (·.state) = some .complete ∧ (readEntry (entryPayload 501 0 1 2 600 0)).check.isSome = true ∧
      (readEntry (entryPayload 0 0 1 2 600 0)).check = none ∧
      b.listens 4 = true ∧ b.tableLaw = true ∧ b.lane.entries.length = 4 ∧ (∀ x ∈ b.lane.entries, x.ticket ≠ 501 → 1 < x.stamp) ∧
      c.tableLaw = true ∧ (∀ x ∈ c.lane.entries, x.state ≠ .closed ∧ x.state ≠ .abandoned) ∧
      d.tableLaw = true ∧ (∀ x ∈ d.lane.entries, x.state ≠ .closed) ∧ (b.lane.entries.map (·.stamp)).Nodup ∧
      (b.setLane { b.lane with stampCounter := 65535 }).tableLaw = true := by decide +kernel

theorem test_witness_RegisteredEntryIsRewritten :
    let s := withEntries (work .panel) [entry 501 1 .registered]
    let fewer := entryPayload 501 0 1 1 600 0
    let more := entryPayload 501 2 0 8 65535 0
    s.listens 4 = true ∧ s.tableLaw = true ∧ fewer.length = 17 ∧ (readEntry fewer).check.isSome = true ∧
      (readEntry more).check.isSome = true ∧ (s.lane.find 501).map (·.state) = some .registered ∧
      (entry 501 1 .registered).axles.length = (entry 501 1 .registered).axleCount := by decide +kernel

/-- On a station with a printer; of the fixed ticket in TEST, in EXIT and under the fault hold; of another ticket. -/
theorem test_witness_VehicleCancelAbandons :
    let s := withEntries (work .panel) [entry 501 1 .complete, entry 502 2 .closed]
    let test := withEntries (phase .test) [entry 501 1 .inLane]
    let exit := withEntries (phase .exit) [entry 501 1 .inLane]
    let hold := withEntries (withRoller (work .roller) { (phase .idle).roller with faultHold := some .noRows }) [entry 501 1 .inLane]
    s.listens 4 = true ∧ s.tableLaw = true ∧ (word 501).length = 2 ∧ wordAt (word 501) 0 = 501 ∧
      (s.lane.find 501).map (·.state) = some .complete ∧ s.printerActive = true ∧
      ([test, exit, hold] : List State).all (fun u => u.listens 4 && u.tableLaw && u.rollerActive &&
        decide (u.roller.fixed.map (·.ticket) = some 501) && decide ((u.lane.find 501).map (·.state) = some .inLane)) = true ∧
      test.roller.motors = true ∧ hold.roller.faultHold.isSome = true ∧ s.roller.fixed.map (·.ticket) ≠ some 501 := by decide +kernel

/-- Axle numbers at the ends of their range, both events, both roles, and codes past the tables. -/
theorem test_witness_AxleEventMovesTheEntry :
    let s := withEntries (work .panel) [entry 501 1 .registered, entry 502 2 .closed]
    s.listens 4 = true ∧ s.tableLaw = true ∧ ([word 501 ++ [1, 0, 0], word 501 ++ [2, 1, 1], word 501 ++ [3, 1, 0],
      word 501 ++ [0, 1, 0], word 501 ++ [1, 2, 0], word 501 ++ [1, 1, 2], word 502 ++ [1, 1, 0]] : List (List Byte)).all
        (fun p => p.length == 5) = true := by decide +kernel

def resultPayload (axle kind reason : Nat) : List Byte :=
  word 501 ++ [byteOf axle, byteOf kind, byteOf reason] ++ word 15001 ++ word 4000 ++ word 6001 ++ word 6000 ++ word 10000 ++ word 9999 ++
    [101, 255, 100] ++ word 50 ++ word 60

theorem test_witness_ResultsWriteTheirParts :
    let s := withEntries (work .panel) [entry 501 1 .inLane, entry 502 2 .closed]
    s.listens 4 = true ∧ s.tableLaw = true ∧ (s.lane.find 501).map (·.state) = some .inLane ∧
      ((entry 501 1 .inLane).axle? 2).isSome = true ∧ (word 501 ++ [2] ++ word 15001 ++ word 0).length = 7 ∧
      (word 501 ++ [2] ++ word 65000).length = 5 ∧ (resultPayload 2 1 2).length = 24 ∧
      byteAt (resultPayload 2 1 2) 3 = TestKind.parking.code ∧ byteAt (resultPayload 2 0 0) 4 = EndReason.slip.code ∧
      wordAt (word 0) 0 = 0 ∧ s.lane.find 509 = none ∧
      (s.lane.find 502).any (fun e => e.state = .closed ∨ e.state = .abandoned ∨ e.axleCount < 1) = true ∧
      (∀ k ∈ [TestKind.service, .parking], byteAt (resultPayload 2 2 0) 3 ≠ k.code) ∧
      (∀ r ∈ [EndReason.slip, .release, .time], byteAt (resultPayload 2 0 3) 4 ≠ r.code) := by decide +kernel

def figures : Figures := ⟨⟨2500, 2400⟩, none, some 5, none, none, ⟨50, 60⟩⟩

def done : AxleRecord := ⟨none, some ⟨figures, .time⟩, some ⟨figures, .release⟩, some 12⟩

/-- The last result missing, of each kind; the rewrite of a REGISTERED entry that drops its parking axle; a PLATE that leaves the list. -/
theorem test_witness_ResultsCompleteTheEntry :
    let whole : AxleRecord := { done with load := some ⟨4000, 4000⟩ }
    let of := fun (r : Role) (a : AxleRecord) => withEntries (work r) [{ entry 501 1 .inLane with axles := [a, whole] }]
    let load := of .plate done
    let brake := of .panel { whole with service := none }
    let slip := of .plate { whole with slip := none }
    let none' := withEntries (work .panel) [entry 501 1 .registered]
    let again := withEntries (work .panel) [{ entry 501 1 .registered with axles := [whole, { whole with parking := none }] }]
    let leaves := withPeers (withEntries (work .panel) [{ entry 501 1 .inLane with axles := [{ whole with slip := none }, whole] }])
      [{ peer 2 .plate with age := 5 }]
    let p := word 501 ++ [1] ++ word 4000 ++ word 4100
    ([load, brake, slip, none', again] : List State).all (fun s => s.listens 4 && s.tableLaw && s.printerActive) = true ∧
      p.length = 7 ∧ (word 501 ++ [1] ++ word 3).length = 5 ∧ (resultPayload 1 0 1).length = 24 ∧
      byteAt (resultPayload 1 0 1) 3 = TestKind.service.code ∧ byteAt (resultPayload 1 0 1) 4 = EndReason.release.code ∧
      wordAt p 0 = 501 ∧ byteAt p 2 = 1 ∧ (none'.lane.find 501).map (·.state) = some .registered ∧
      (readEntry (entryPayload 501 0 1 2 600 0)).check.isSome = true ∧
      leaves.tableLaw = true ∧ leaves.ready .peerAbsent = true := by decide +kernel

theorem test_witness_ClosesFollowTheirTables :
    let s := withEntries (work .panel) [entry 501 1 .complete, entry 502 2 .abandoned]
    let p := word 501 ++ [3, 0, 7, 1]
    s.tableLaw = true ∧ s.listens 4 = true ∧ p.length = 6 ∧ byteAt p 5 = Verdict.fail.code := by decide +kernel

/-- In TEST; under the fault hold with its axle weighed; with a crossing in each standing. -/
theorem test_witness_LaneClearSweepsTheLane :
    let plate := fun c m => (work .plate).setPlate ⟨c, some ⟨501, 1⟩, m, true, true, false⟩
    let hold := withRoller (work .roller) { (phase .idle).roller with faultHold := some .noRows, weighed := true }
    hold.listens 4 = true ∧ hold.rollerActive = true ∧ hold.roller.fixed.isSome = true ∧ (withEntries (phase .test) (fourOf .inLane)).listens 4 = true ∧ (phase .test).rollerActive = true ∧
      (phase .test).printerActive = true ∧
      ([plate .clear .unmeasured, plate .onPlate .measuring, plate .onPlate .draining, plate .onPlate .unmeasured] : List State).all
        (fun s => s.listens 4 && s.plateActive) = true := by decide +kernel

theorem test_witness_ExpectedVehicleIsTheOldestOpen :
    let v : LaneView := ⟨[entry 501 7 .registered, entry 502 2 .inLane, { entry 503 1 .inLane with rollerPassed := 2 }], 9⟩
    (∀ x ∈ v.entries, (x.state = .registered ∨ x.state = .inLane) → x.passed .roller < x.axleCount → x ≠ entry 502 2 .inLane →
      2 < x.stamp) ∧ entry 502 2 .inLane ∈ v.entries ∧
      (∀ e ∈ fourOf .complete, ¬((e.state = .registered ∨ e.state = .inLane) ∧ e.passed .plate < e.axleCount)) := by decide +kernel

/-! ### Witnesses: lane clock, filter, counters, timers -/

/-- The four signals at the ends of their half periods, with the ticks of those counts. -/
theorem test_divided_signals :
    (([0, 4, 8, 16, 32, 64, 128, 255] : List Nat).map fun n =>
      ([.hz32, .hz8, .hz2, .hz1] : List Divided).map fun d => (Clock.level ⟨n, false, false, false⟩ d, decide (d ∈ ticksAt n))) =
    [[(false, true), (false, true), (false, true), (false, true)], [(true, false), (false, false), (false, false), (false, false)],
     [(false, true), (false, false), (false, false), (false, false)], [(false, true), (true, false), (false, false), (false, false)],
     [(false, true), (false, true), (false, false), (false, false)], [(false, true), (false, true), (true, false), (false, false)],
     [(false, true), (false, true), (false, true), (true, false)], [(true, false), (true, false), (true, false), (true, false)]] := by
  decide +kernel

theorem test_witness_TicksSampleTheLines :
    (Divided.hz2, 128) ∈ [(Divided.hz32, 8), (.hz8, 32), (.hz2, 128), (.hz1, 256)] ∧
      (withLast (work .roller) .dim true).quiet = true ∧ (work .roller).quiet = true := by decide +kernel

theorem test_witness_StopInputSetsAndClearsTheLatch :
    let s := withLast (work .roller) .stopIn true
    s.quiet = true ∧ s.motorLaw = true ∧ s.bus.mode ≠ .starting ∧ s.onlyLine (setLine Samples.inactive .stopIn true) .stopIn :=
  ⟨by decide +kernel, by decide +kernel, by decide +kernel, onlyLine_of rfl rfl rfl⟩

theorem test_witness_StopInputReleased :
    let s := (withLast (withAccepted (work .roller) { Samples.inactive with stopIn := true }) .stopIn false).setBus
      { (work .roller).bus with latch := ⟨true, some .stopInput, some 3, true⟩ }
    s.quiet = true ∧ s.motorLaw = true ∧ s.bus.mode ≠ .starting ∧ s.onlyLine Samples.inactive .stopIn ∧
      s.bus.latch.localCause = true :=
  ⟨by decide +kernel, by decide +kernel, by decide +kernel,
    ⟨by intro m h; cases m <;> first | rfl | exact absurd rfl h, rfl, by decide⟩, rfl⟩

/-- In STARTING, and at the end of start-up with the input active and inactive. -/
theorem test_witness_StopInputInStartUp :
    let s := withLast (withMode (work .roller) .starting) .stopIn true
    let e := ending 3 .roller (some (1, blk)) .starting
    s.quiet = true ∧ s.motorLaw = true ∧ s.bus.mode = .starting ∧ s.onlyLine (setLine Samples.inactive .stopIn true) .stopIn ∧
      ((withAccepted e { Samples.inactive with stopIn := true }).ready .startUpEnd && e.ready .startUpEnd) = true :=
  ⟨by decide +kernel, by decide +kernel, by decide +kernel, onlyLine_of rfl rfl rfl, by decide +kernel⟩

theorem test_witness_WindowClosesAtTheTick :
    let s := (phase .warn).setTimers { (phase .warn).timers with seqTimer := ⟨true, 1, false⟩, certTimer := ⟨true, 2, false⟩ }
    let t := withAccepted (withRoller (work .roller) { Roller.reset with wheelCount := 6 })
      { Samples.inactive with wheelL := true, wheelR := true }
    s.quiet = true ∧ s.roller.phase ≠ .spinUp ∧ (work .panel).rollerActive = false ∧ t.quiet = true ∧ t.rollerActive = true ∧
      t.roller.phase = .idle ∧ t.idleHeld = false := by decide +kernel

def withPrompt (s : State) (p : PromptEntry) : State :=
  s.setGuidance { s.guidance with prompts := s.guidance.prompts ++ [p], displayed := some .laneReady }

/-- WARNING_FROM_PEER of a sender, RAISED and confirmed, as a MOTOR_WARNING leaves it. -/
def warned (s : State) (sender : Nat) : State :=
  let t := withPrompt s ⟨.warningFromPeer,
    { station := some sender, ticket := some 501, axle := some 1, kind := some .service }, false, 0, 240, false⟩
  t.setGuidance { t.guidance with displayed := some .warningFromPeer }

/-- A station in WARN whose awaited panel leaves the list; a PANEL station that shows the warning of the peer that leaves. -/
theorem test_witness_PeersAgeAndLeave :
    let s := withPeers (phase .warn) [{ peer 4 .plate with age := 4 }, { peer 6 .panel with age := 5 }]
    let w := withPeers (warned (work .panel) 5) [{ peer 5 .roller with age := 5 }, { peer 6 .roller with age := 5 }]
    (w.ready .peerAbsent && w.peerLaw && w.promptLaw && w.guidance.isRaised .warningFromPeer) = true ∧
      (∀ q ∈ w.bus.peers, 5 ≤ q.age → 5 ≤ q.station) ∧ (w.bus.peer 5).map (·.age) = some 5 ∧
      (w.guidance.find .warningFromPeer).any (fun e => e.fields.station = some 5) = true ∧
    (withPeers (work .roller) [{ peer 4 .panel with age := 4 }]).quiet = true ∧ s.ready .peerAbsent = true ∧
      s.peerLaw = true ∧
      (∀ q ∈ s.bus.peers, 5 ≤ q.age → 6 ≤ q.station) ∧ (s.bus.peer 6).map (·.age) = some 5 ∧ s.rollerActive = true ∧ s.roller.phase = .warn := by
  decide +kernel

theorem test_witness_EdgesAreCounted :
    let s := (work .roller).setCounters ⟨4095, 4094, 0, 0, ⟨255, 95, 96, true⟩, ⟨0, 94, 96, true⟩⟩
    s.quiet = true ∧ s.counters.revL.running = true ∧ s.counters.revL.position + 1 = s.counters.revL.compare ∧
      s.counters.revR.position + 1 < s.counters.revR.compare ∧ (work .roller).counters.revL.running = false := by decide +kernel

def pageStream : Stream :=
  { Stream.reset with config := ⟨[0, 1], .pt0, .page, 2, false⟩, running := true, runNumber := 5, rails := [3, 0]
                      bufA := { Buffer.fresh with rows := [] } }

theorem test_witness_PacingEventsRequestRows :
    let s := (withStreams (work .roller) pageStream .idle).setTimers { (work .roller).timers with pt0 := ⟨0, 499, true⟩ }
    s.quiet = true ∧ s.timers.pt0.running = true ∧ s.timers.pt1.running = false ∧ s.capture.s0.running = true ∧
      s.capture.s0.requests < 255 := by decide +kernel

theorem test_witness_ToneAndDimmerFollowTheirTimers :
    let s := (work .panel).setTimers { (work .panel).timers with tone := ⟨0, 24, true, false⟩, dimmer := ⟨199, 199, 49, true, some 199, 199, 49⟩ }
    s.quiet = true ∧ s.timers.tone.running = true ∧ s.timers.dimmer.running = true ∧ s.timers.dimmer.q ≤ s.timers.dimmer.p ∧
      s.timers.dimmer.q < s.timers.dimmer.counter ∧ (work .panel).timers.tone.running = false ∧
      (work .panel).timers.dimmer.running = false := by decide +kernel

/-! ### Witnesses: capture -/

theorem test_witness_ConverterTakesTheNextWork :
    let s := withStreams (work .roller) { pageStream with requests := 1 } .idle
    let t := s.setCapture { s.capture with oneOffs := [1, 3] }
    s.ready .converterStart = true ∧ s.captureLaw = true ∧ s.capture.oneOffs = [] ∧ t.ready .converterStart = true ∧
      t.captureLaw = true ∧ t.capture.oneOffs ≠ [] := by decide +kernel

def rowOf : Converter := .row .s0 5 [0, 1] 7 8 [3, 0] false

def oneRow : Row := ⟨1, 2, [300, 301]⟩

def heldPage : Page := ⟨.s0, true, 5, 4, [0, 1], false, false, [oneRow]⟩

/-- Into the LATEST cell, buffers A and B, a page dropped and one kept; and a row that is discarded. -/
theorem test_witness_RowsEnterTheirStream :
    let latest := withStreams (work .roller)
      { pageStream with config := ⟨[0, 1], .pt0, .latest, 2, false⟩, bufA := Buffer.clear } rowOf
    let first := withStreams (work .roller) pageStream rowOf
    let last := { pageStream with bufA := { Buffer.fresh with rows := [oneRow] } }
    let dropped := withStreams (work .roller) { last with bufB := { Buffer.clear with state := .held } } rowOf
    let kept := (withStreams (work .roller) last rowOf).setEval { (work .roller).eval with slot := some heldPage }
    let second := withStreams (work .roller)
      { pageStream with bufA := { Buffer.clear with state := .held }, bufB := { Buffer.fresh with rows := [oneRow] } } rowOf
    let stopped := withStreams (work .roller) { pageStream with runNumber := 6 } (.row .s0 5 [0, 1] 7 8 [3, 0] true)
    ([latest, first, dropped, kept, second] : List State).all
        (fun s => s.quiet && s.captureLaw && decide (s.capture.converter = rowOf)) = true ∧
      stopped.quiet = true ∧ stopped.captureLaw = true ∧
      (first.capture.s0.buffer false).state = .filling ∧ (second.capture.s0.buffer true).state = .filling ∧
      first.capture.s0.bufA.rows.length + 1 < first.capture.s0.config.pageLength ∧
      kept.capture.s0.config.pageLength ≤ kept.capture.s0.bufA.rows.length + 1 ∧ kept.capture.s0.bufB.state = .empty ∧
      kept.eval.slot.isSome = true ∧ dropped.capture.s0.bufB.state ≠ .empty := by decide +kernel

/-- A page in A that is wanted, and one in B that is not. -/
theorem test_witness_WantedPageIsHandedOver :
    let full := { Buffer.fresh with rows := [oneRow] }
    let last := { pageStream with bufA := full, seqCounter := 4294967295, lastDelivered := 4294967294 }
    let s := (withStreams (work .roller) last rowOf).setEval { (work .roller).eval with context := .testing, wantS0 := some 5 }
    let u := withStreams (work .roller) { last with bufA := Buffer.clear, bufB := full } rowOf
    ([s, u] : List State).all (fun s => s.quiet && s.captureLaw && decide (s.capture.converter = rowOf ∧ s.eval.slot = none ∧
        s.capture.s0.config.mode = .page)) = true ∧
      s.capture.s0.bufA.state = .filling ∧ s.capture.s0.bufB.state = .empty ∧ u.capture.s0.bufB.state = .filling ∧
      u.capture.s0.bufA.state = .empty ∧ s.capture.s0.config.pageLength ≤ s.capture.s0.bufA.rows.length + 1 ∧
      s.eval.wants .s0 s.capture.s0.runNumber = true ∧ u.eval.wants .s0 u.capture.s0.runNumber = false := by decide +kernel

/-- An input in two columns; a row discarded, its stream started anew. -/
theorem test_witness_RailValuesAreCounted :
    let twice : Converter := .row .s0 5 [1, 1] 7 8 [3, 3] false
    let s := withStreams (work .roller) { pageStream with config := ⟨[1, 1], .pt0, .page, 2, false⟩ } twice
    let d := withStreams (work .roller) { pageStream with runNumber := 6 } (.row .s0 5 [0, 1] 7 8 [3, 0] true)
    s.quiet = true ∧ s.captureLaw = true ∧ s.capture.converter = twice ∧ s.capture.s0.runNumber = 5 ∧ d.quiet = true ∧
      d.captureLaw = true ∧ d.capture.s0.runNumber ≠ 5 ∧
      ([8, 4087] : List Raw).length = 2 ∧ (8 : Raw).toNat ≤ 8 ∧ 4087 ≤ (4087 : Raw).toNat ∧
      ¬((9 : Raw).toNat ≤ 8 ∨ 4087 ≤ (4086 : Raw).toNat) := by decide +kernel

theorem test_witness_InputFaultsComeAndGo :
    let s := (phase .test).setCapture { (phase .test).capture with faultDue := [4] }
    let p := (work .plate).setCapture { (work .plate).capture with faultDue := [0] }
    let t := (work .roller).setCapture { (work .roller).capture with faulted := [1, 5], converter := .oneOff 1 }
    s.captureLaw = true ∧ s.ready (.inputFaulted 4) = true ∧ s.rollerActive = true ∧ s.roller.faultHold = none ∧
      p.ready (.inputFaulted 0) = true ∧ p.plateActive = true ∧ t.captureLaw = true ∧ t.quiet = true ∧
      t.capture.converter = .oneOff 1 := by decide +kernel

/-! ### Witnesses: evaluation -/

/-- A window at 25 % and 20 pulses, and one at 24 %. -/
theorem test_witness_SlipStopAfterTwoSlippingWindows :
    let s := ((phase .test).setCounters { Counters.reset with dl := 20, sl := 15, dr := 25, sr := 19 }).setEval
      { (work .roller).eval with context := .testing, acc := { TestAcc.clear with slipCount := 1 } }
    s.quiet = true ∧ s.rollerActive = true ∧ s.roller.phase ≠ .spinUp ∧ s.eval.context = .testing ∧ s.eval.acc.slipFound = false ∧
      25 ≤ 100 * (s.counters.dl - s.counters.sl) / s.counters.dl ∧
      ¬(25 ≤ 100 * (s.counters.dr - s.counters.sr) / s.counters.dr) := by decide +kernel

theorem test_witness_RatiosFollowTheirSums :
    let light := { entry 501 1 .complete with weight := none }
    let zero := { light with axles := [{ done with load := some ⟨0, 0⟩ }, { done with load := some ⟨0, 0⟩ }] }
    let full := { light with axles := [{ done with load := some ⟨4000, 1⟩ }, { done with load := some ⟨3, 2⟩ }] }
    (entry 501 1 .complete).weight = some 18000 ∧ light.weight = none ∧ (∃ a ∈ light.axles, a.load = none) ∧
      zero.denominator = some 0 ∧ full.denominator = some 4006 ∧ (∀ a ∈ full.axles, a.load.isSome = true ∧ a.service.isSome = true) ∧
      (∀ n ∈ full.parkingSet, ((full.axle? n).bind (·.parking)).isSome = true) ∧ full.parkingSet ≠ [] := by decide +kernel

theorem test_witness_VerdictFollowsItsCases :
    let open' := entry 501 1 .inLane
    let low := { entry 501 1 .complete with serviceRatio := some 579, parkingRatio := some 160, steeredSet := [] }
    let good := { low with serviceRatio := some 580 }
    open'.formVerdict false = .incomplete ∧ low.formVerdict true = .fail ∧ good.formVerdict true = .pass := by decide +kernel

/-- A page that is passed over, a TEST page, the two WEIGH pages and the ZERO page. -/
theorem test_witness_EvaluatedPagesTakeEffect :
    let ev := { (work .roller).eval with slot := some heldPage, wantS0 := some 5, zt := some ⟨100, 100⟩ }
    let passed := (work .roller).setEval { ev with wantS0 := some 6, context := .testing }
    let test := (phase .test).setEval { ev with context := .testing }
    let weigh := (phase .weigh).setEval { ev with context := .weighing, zt := none }
    let loads := (phase .weigh).setEval
      { ev with context := .weighing, slot := some { heldPage with stream := .s1 }, wantS0 := none, wantS1 := some 5 }
    let zero := (phase .zero).setEval { ev with context := .zeroing }
    ([passed, test, weigh, loads, zero] : List State).all (·.quiet) = true ∧ passed.eval.wants .s0 5 = false ∧
      ([test, weigh, zero] : List State).all (·.eval.wants .s0 5) = true ∧ loads.eval.wants .s1 5 = true ∧
      zero.rollerActive = true ∧ loads.roller.phase = .weigh ∧ zero.roller.phase = .zero ∧ weigh.eval.loads = none := by decide +kernel

/-- A row in the middle of a test, one that opens a revolution, and a release row; a page in TESTING and one in DRAINING. -/
theorem test_witness_RowsFeedTheAccumulators :
    let side : SideAcc := ⟨1180, some 500, some 14, 4, some ⟨255, true, true, 980, 1120⟩, none⟩
    let a : TestAcc := ⟨side, side, some 14, true, 3, false, false, 0, false, false, 9, none⟩
    let b := a.takeRow ⟨500, 460, none⟩ 0 0 true false true
    let ev := { (work .roller).eval with slot := some heldPage, wantS0 := some 5, zt := some ⟨100, 100⟩ }
    let test := (phase .test).setEval { ev with context := .testing }
    let drain := (phase .stopping).setEval { ev with context := .draining }
    b.releaseFound = true ∧ b.left.oval = some 12 ∧ (⟨500, 460, none⟩ : LiveRow).isRelease 1180 1180 ∧
      ([test, drain] : List State).all (fun s => s.quiet && s.eval.wants .s0 5) = true ∧
      drain.eval.acc.rows + heldPage.rows.length ≠ 0 :=
  ⟨by decide +kernel, by decide +kernel, .inl (by decide), by decide +kernel, by decide +kernel⟩

/-- With the record requested, the last page in the slot, rows taken and none, AIR and not; with a page still to come; not requested. -/
theorem test_witness_RecordIsFormedWhenTheRunIsDrained :
    let ev := { (work .roller).eval with
      context := .draining, slot := some heldPage, wantS0 := some 5, loads := some ⟨4000, 4100⟩, zt := some ⟨100, 100⟩
      rr := some ⟨40, 50⟩, requested := true, test := ⟨.service, true, some 600⟩ }
    let s := (phase .stopping).setEval ev
    let r := (phase .result).setEval { ev with test := ⟨.parking, false, none⟩ }
    let e := (phase .stopping).setEval { ev with slot := some { heldPage with rows := [] } }
    let more := s.setCapture { s.capture with s0 := { s.capture.s0 with bufA := ⟨.full, [oneRow], 5, 5, true, [0, 1]⟩ } }
    let early := (phase .stopping).setEval { ev with requested := false }
    ([s, r, e, more, early] : List State).all (fun s => s.quiet && s.rollerActive && decide (s.roller.faultHold = none)) = true ∧
      s.lastPageInSlot heldPage 5 ∧ referable 180 600 ∧ ¬referable 179 600 ∧ ¬referable 59 75 ∧
      (more.capture.s0.buffer false).state = .full :=
  ⟨by decide +kernel, ⟨rfl, by intro b _ h; cases b <;> exact absurd h (by decide)⟩, ⟨by decide, by decide⟩,
    fun h => absurd h.2 (by decide), fun h => absurd h.1 (by decide), rfl⟩

/-- A page while the wheel rolls; the last page of a drained crossing, with an entry pending and without, with rows and without. -/
theorem test_witness_SlipIsFormedWhenTheCrossingIsDrained :
    let ev := { (work .plate).eval with slot := some heldPage, wantS0 := some 5 }
    let s := ((work .plate).setPlate ⟨.onPlate, some ⟨501, 1⟩, .draining, true, false, false⟩).setEval { ev with context := .crossingDrain }
    let next := s.setPlate { s.plate with pendingEntry := true }
    let none' := s.setEval { s.eval with slot := some { heldPage with rows := [] } }
    let rolling := (work .plate).setEval { ev with context := .crossing }
    ([s, next, none'] : List State).all (fun s => s.quiet && s.plateActive && s.tableLaw && s.eval.wants .s0 5) = true ∧
      rolling.quiet = true ∧ rolling.eval.wants .s0 5 = true ∧ s.lastPageInSlot heldPage 5 ∧
      peakWith (some (-169)) 169 = some (-169) ∧ cal.moved ⟨0, 0, [1700]⟩ = -679 :=
  ⟨by decide +kernel, by decide +kernel, by decide +kernel, ⟨rfl, by intro b _ h; cases b <;> exact absurd h (by decide)⟩,
    by decide, by decide +kernel⟩

/-! ### Witnesses: the roller sequence -/

theorem test_witness_AxleOnRollersIsWeighed :
    (withRoller (work .roller) { Roller.reset with wheelCount := 8 }).ready .axleOn = true := by decide +kernel

theorem test_witness_WarningEndsInSpinUpOrFails :
    (expiredIn .warn (some .hornAlone)).ready .warnHorn = true ∧ (expiredIn .warn (some .runOut)).ready .runOut = true ∧
      (expiredIn .warn (some .confirming)).ready .warnTimeout = true := by decide +kernel

/-- The run-out's expiry with a welded contactor found at the same tick. -/
theorem test_witness_WeldedContactorComesBeforeTheExpiry :
    let x := expiredIn .warn (some .runOut)
    let s := x.setRoller { x.roller with weldedCount := 8 }
    s.motorLaw = true ∧ s.isDue .welded = true ∧ (∀ d ∈ dueOrder, d ≠ .welded → s.isDue d = false) ∧ s.roller.phase = .warn ∧
      s.timers.seqTimer.expired = true := by decide +kernel

theorem test_witness_SpinUpSucceedsOrFaults :
    let up := { (phase .spinUp).roller with fbL := true, fbR := true }
    let s := (withRoller (work .roller) up).setCounters { Counters.reset with dl := 90, dr := 90 }
    let f := withRoller (work .roller) { (phase .spinUp).roller with feedbackCount := 4 }
    let w := withRoller (work .roller) { Roller.reset with weldedCount := 8 }
    s.quiet = true ∧ s.rollerActive = true ∧ s.roller.phase = .spinUp ∧ s.roller.fbL = true ∧ s.roller.fbR = true ∧
      9 * cal.nnom / 10 ≤ s.counters.dl ∧ (expiredIn .spinUp none).ready .spinUpTimeout = true ∧
      (expiredIn .spinUp none).motorLaw = true ∧ f.ready .feedbackCount = true ∧ f.motorLaw = true ∧ w.ready .welded = true ∧
      w.motorLaw = true := by decide +kernel

/-- A change of one line from a level, every other line standing as it is. -/
theorem onlyLine_from {s : State} {x y : Samples} {l : Line} (a : s.filter.accepted = y) (b : s.filter.last = x)
    (c : ∀ m ∈ allLines, m ≠ l → lineLevel x m = lineLevel y m) (d : lineLevel x l ≠ lineLevel y l) : s.onlyLine x l := by
  subst a b
  exact ⟨fun m h => c m (by cases m <;> decide) h, rfl, d⟩

/-- Feedback confirmed and lost, with the motors running and with a welded contactor, and a wheel that leaves. -/
theorem test_witness_LinesActOnTheSequence :
    let one := setLine Samples.inactive .fbL true
    let inn := fun (p : Phase) => withLast (phase p) .fbL true
    let out := fun (s : State) => s.setFilter ⟨one, Samples.inactive⟩
    let run := out (withRoller (work .roller) { (phase .test).roller with fbL := true })
    let weld := out (withRoller (work .roller) { Roller.reset with faultHold := some .welded, welded := true })
    let wheel := fun (p : Phase) => (phase p).setFilter ⟨setLine Samples.inactive .wheelR true, Samples.inactive⟩
    ([inn .spinUp, inn .positioned, run, weld, wheel .test, wheel .stopping] : List State).all
        (fun s => s.quiet && s.rollerActive && s.motorLaw) = true ∧
      (inn .spinUp).roller.motors = true ∧ (inn .positioned).roller.motors = false ∧ (inn .spinUp).onlyLine one .fbL ∧
      run.roller.motors = true ∧ run.roller.fbL = true ∧ run.onlyLine Samples.inactive .fbL ∧ weld.onlyLine Samples.inactive .fbL ∧
      (wheel .test).onlyLine Samples.inactive .wheelR ∧ (wheel .stopping).onlyLine Samples.inactive .wheelR :=
  ⟨by decide +kernel, rfl, rfl, onlyLine_of rfl rfl rfl, rfl, rfl, onlyLine_from rfl rfl (by decide) (by decide),
    onlyLine_from rfl rfl (by decide) (by decide), onlyLine_from rfl rfl (by decide) (by decide),
    onlyLine_from rfl rfl (by decide) (by decide)⟩

theorem test_witness_TestEndsUnderItsReason :
    let ev := { (work .roller).eval with context := .testing, acc := { TestAcc.clear with rows := 40, releaseDue := true } }
    let s := (phase .test).setEval ev
    let t := (phase .test).setEval { ev with acc := { TestAcc.clear with rows := 40, slipDue := true } }
    (expiredIn .test none).ready .testLimit = true ∧ (expiredIn .test none).motorLaw = true ∧ (expiredIn .test none).measures = true ∧
      s.ready .release = true ∧ s.motorLaw = true ∧ 0 < s.eval.acc.rows ∧ t.ready .slipStop = true ∧
      ((phase .stopping).setEval ev).ready .release = true ∧ ((phase .stopping).setEval ev).motorLaw = true := by decide +kernel

theorem test_witness_ResultIsWrittenAndTheAxleLeaves :
    let r := { (phase .stopping).roller with rollDown := 2, held := some ⟨.service, ⟨4000, 4100⟩, figures⟩, endReason := some .release }
    let s := withEntries (withRoller (work .roller) r) [entry 501 1 .inLane]
    let l := withRoller (work .roller) { (phase .exit).roller with wheelCount := 8 }
    s.ready .rollDown = true ∧ s.roller.held.isSome = true ∧ (s.lane.find s.roller.axle.ticket).map (·.state) = some .inLane ∧
      ((entry 501 1 .inLane).axle? s.roller.axle.axle).isSome = true ∧ l.ready .axleLeaves = true ∧
      (withRoller (work .roller) { r with held := none }).ready .rollDown = true := by decide +kernel

theorem test_witness_KeysActByPhase :
    let start := withLast (phase .positioned) .keyStart true
    let idle := withLast (work .roller) .keyStart true
    let next := withLast (phase .positioned) .keyNext true
    let abort := withLast (phase .test) .keyAbort true
    let hold := withLast (withRoller (work .roller) { Roller.reset with faultHold := some .noRows }) .keyAbort true
    let owed := withLast (withRoller (work .roller)
      { Roller.reset with fixed := some ⟨501, 1⟩, weighed := true, faultHold := some .noRows, releaseOwed := true }) .keyAbort true
    let weld := withLast (withRoller (work .roller) { Roller.reset with faultHold := some .welded, welded := true }) .keyAbort true
    (([start, idle, next, abort, hold, owed, weld] : List State).all (fun s => s.quiet && s.rollerActive) = true) ∧
      start.onlyLine (setLine Samples.inactive .keyStart true) .keyStart ∧
      idle.onlyLine (setLine Samples.inactive .keyStart true) .keyStart ∧
      next.onlyLine (setLine Samples.inactive .keyNext true) .keyNext ∧
      abort.onlyLine (setLine Samples.inactive .keyAbort true) .keyAbort ∧
      hold.onlyLine (setLine Samples.inactive .keyAbort true) .keyAbort ∧
      owed.onlyLine (setLine Samples.inactive .keyAbort true) .keyAbort ∧
      weld.onlyLine (setLine Samples.inactive .keyAbort true) .keyAbort :=
  ⟨by decide +kernel, onlyLine_of rfl rfl rfl, onlyLine_of rfl rfl rfl, onlyLine_of rfl rfl rfl, onlyLine_of rfl rfl rfl,
    onlyLine_of rfl rfl rfl, onlyLine_of rfl rfl rfl, onlyLine_of rfl rfl rfl⟩

/-- RESULT with its result written: REPEAT, and NEXT with a parking test owed and with none. -/
theorem test_witness_KeysInResult :
    let at' := fun (k : Nat) (l : Line) => withLast (withEntries (withRoller (work .roller)
      { (phase .result).roller with fixed := some ⟨501, k⟩, resultWritten := true }) [entry 501 1 .inLane]) l true
    (([at' 1 .keyRepeat, at' 2 .keyNext, at' 1 .keyNext] : List State).all (fun s => s.quiet && s.rollerActive) = true) ∧
      (at' 1 .keyRepeat).onlyLine (setLine Samples.inactive .keyRepeat true) .keyRepeat ∧
      (at' 2 .keyNext).onlyLine (setLine Samples.inactive .keyNext true) .keyNext ∧
      (at' 2 .keyNext).parkingTestOwed ∧ ¬(at' 1 .keyNext).parkingTestOwed :=
  ⟨by decide +kernel, onlyLine_of rfl rfl rfl, onlyLine_of rfl rfl rfl, ⟨entry 501 1 .inLane, rfl, by decide, rfl⟩, by
    rintro ⟨e, h, m, -⟩
    cases h
    exact absurd m (by decide)⟩

/-! ### Witnesses: the plate sequence -/

def onPlateWith (c : Crossing) (m : Measure) : State := (work .plate).setPlate ⟨c, some ⟨501, 1⟩, m, true, false, false⟩

theorem test_witness_CrossingsBeginAndEnd :
    let inn := fun s => withLast s .plateEntry true
    let out := fun s => withLast s .plateExit true
    (([inn (work .plate), inn (onPlateWith .reversing .unmeasured), inn (onPlateWith .onPlate .draining),
        inn (onPlateWith .onPlate .measuring), inn (onPlateWith .onPlate .unmeasured), out (work .plate),
        out (onPlateWith .reversing .unmeasured), out (onPlateWith .onPlate .measuring), out (onPlateWith .onPlate .unmeasured),
        out (onPlateWith .onPlate .draining)] : List State).all (fun s => s.quiet && s.plateActive) = true) ∧
      (inn (work .plate)).onlyLine (setLine Samples.inactive .plateEntry true) .plateEntry ∧
      (inn (onPlateWith .onPlate .measuring)).onlyLine (setLine Samples.inactive .plateEntry true) .plateEntry ∧
      (out (onPlateWith .onPlate .measuring)).onlyLine (setLine Samples.inactive .plateExit true) .plateExit ∧
      (((onPlateWith .onPlate .measuring).setTimers { Timers.reset with seqTimer := ⟨false, 0, true⟩ }).ready .crossingTimeout &&
        ((onPlateWith .onPlate .unmeasured).setTimers { Timers.reset with seqTimer := ⟨false, 0, true⟩ }).ready .crossingTimeout) = true :=
  ⟨by decide +kernel, onlyLine_of rfl rfl rfl, onlyLine_of rfl rfl rfl, onlyLine_of rfl rfl rfl, by decide +kernel⟩

/-- A lane stop and a cancel of the fixed ticket while the crossing is measured. -/
theorem test_witness_CrossingsGoOnUnmeasured :
    let s := withEntries (onPlateWith .onPlate .measuring) [entry 501 1 .inLane]
    s.listens 4 = true ∧ s.plateActive = true ∧ byteAt [2] 0 = StopCause.desk.code ∧ s.bus.latch.stopped = false ∧
      (word 501).length = 2 ∧ s.plate.axle.ticket = wordAt (word 501) 0 ∧ (s.lane.find 501).map (·.state) = some .inLane := by
  decide +kernel

/-! ### Witnesses: the guidance unit -/

/-- A warning heard on a PANEL station, refused, and on a ROLLER station; its end at its sender, at another station, and with no warning;
its confirmation, with a panel still awaited and with none. -/
theorem test_witness_WarningsAreShownAndConfirmed :
    let w := withRoller (work .roller) { (phase .warn).roller with awaited := [4, 6], warnWait := some .confirming }
    let last := withRoller (work .roller) { (phase .warn).roller with awaited := [4], warnWait := some .confirming }
    let r := warned (work .panel) 4
    let other := warned (work .panel) 7
    let p := [3] ++ word 501 ++ [1]
    (work .panel).listens 4 = true ∧ byteAt (word 501 ++ [1, 1]) 3 = TestKind.parking.code ∧ (work .panel).isPanel = true ∧
      byteAt (word 501 ++ [1, 0]) 3 = TestKind.service.code ∧ (word 501 ++ [1, 1]).length = 4 ∧ p.length = 4 ∧
      2 ≤ byteAt (word 501 ++ [1, 2]) 3 ∧ (word 501 ++ [1]).length = 3 ∧
      ([r, other, work .panel] : List State).all (fun s => s.listens 4 && s.promptLaw && decide (s.startUp.ownNumber = 3)) = true ∧
      (r.guidance.find .warningFromPeer).any (fun e => e.fields.station = some 4) = true ∧
      (other.guidance.find .warningFromPeer).any (fun e => e.fields.station = some 4) = false ∧
      other.guidance.isRaised .warningFromPeer = true ∧ w.listens 4 = true ∧ w.isPanel = false ∧ w.roller.phase = .warn ∧
      w.rollerActive = true ∧ byteAt p 0 = 3 ∧ w.roller.fixed = some ⟨wordAt p 1, byteAt p 3⟩ ∧ 4 ∈ w.roller.awaited ∧
      last.listens 4 = true ∧ last.roller.awaited = [4] := by decide +kernel

/-- R133, R145: a ROLLERS_STOPPED of the sender before the minimum show time leaves the warning LOWERING; another station's is ignored (R143). -/
theorem test_rollers_stopped :
    ([(4, 4), (7, 4)] : List (Nat × BitVec 4)).map (fun x =>
      match exec (.rollersStopped x.2 (word 501 ++ [1])) (withPeers (warned (work .panel) x.1) [peer 4 .roller]) with
      | .next t => (t.guidance.find .warningFromPeer).map (·.lowering)
      | _ => none) = [some true, some false] := by decide +kernel

theorem test_witness_GuidanceEventsActOnThePanel :
    let s := (work .panel).setGuidance { (work .panel).guidance with showDue := true }
    let r := withPrompt (work .panel) ⟨.entryRejected, { ticket := some 501 }, false, 3, 0, false⟩
    let w := withPrompt (work .panel) ⟨.warningFromPeer, { station := some 4 }, false, 3, 0, false⟩
    let h := (work .panel).setGuidance { (work .panel).guidance with horn := ⟨.single, false, .single, 0, .low⟩ }
    let p := (work .panel).setGuidance { (work .panel).guidance with sending := true, waiting := true }
    s.ready .minimumShow = true ∧ r.ready .rejectedLife = true ∧ w.ready .warningLife = true ∧ h.ready .singleEnd = true ∧
      p.quiet = true ∧ (work .panel).quiet = true ∧ (work .panel).guidance.sending = false := by decide +kernel

/-- A new horn request and none, and a lane entry with a busy roller, with an expected vehicle, and with neither. -/
theorem test_witness_GuidanceTicks :
    let s := withPrompt (work .panel) ⟨.wait, { station := some 5 }, false, 15, 0, false⟩
    let new := s.setGuidance { s.guidance with horn := ⟨.single, true, .off, 0, .low⟩ }
    let busy := withPeers s [peer 1 .desk, { peer 5 .roller with activity := some .testing, ticket := some 501 }]
    let free := withEntries s [entry 502 1 .registered]
    ([s, new, busy, free] : List State).all (fun s => s.quiet && s.isPanel && s.promptLaw && !s.rollerActive &&
        decide (s.guidance.displayed = some .laneReady)) = true ∧
      new.guidance.horn.isNew = true ∧ s.guidance.horn.isNew = false ∧ (s.lane.expected .roller).ticket = 0 ∧
      (busy.bus.peers.find? (fun q => q.role = some .roller ∧ q.activity = some .testing ∧ q.ticket ≠ some 0)).map (·.station) = some 5 ∧
      (free.lane.expected .roller).ticket = 502 ∧ (s.guidance.find .laneReady).isSome = true := by decide +kernel

/-! ### Witnesses: the certificate unit and the archive -/

def withCert (s : State) (u : Cert) : State := s.setCert u

def withJobs (s : State) (js : List Job) : State := s.setCert { s.cert with jobs := js }

def waiting (t : Nat) : Job := ⟨.ticket t, 4, .queued⟩

def sheet : Cert :=
  { Cert.reset with
    jobs := [⟨.ticket 501, 4, .printing⟩]
    source := some (content 1)
    output := [⟨[65], false⟩]
    composed := 1 }

def archived (s : State) : State :=
  s.setArchive (Archive.scan { s.archive with storage := [record 1, { record 2 with body := .damaged }] ++ List.replicate 30 SlotStore.blank })

set_option maxRecDepth 100000 in
theorem test_witness_RequestsAreJudgedByTheirFirstCase :
    let s := withPeers (withEntries (work .panel) [entry 501 1 .complete, entry 502 2 .abandoned]) [peer 4 .desk]
    let queued := withJobs s [⟨.ticket 501, 0, .printing⟩, waiting 504, waiting 505, waiting 506]
    let full := withJobs s [⟨.ticket 507, 0, .printing⟩, waiting 504, waiting 505, waiting 506]
    let a := archived s
    let d := a.setArchive { a.archive with storage := a.archive.storage.set 0 { record 1 with body := .damaged } }
    let erasing := a.setArchive { a.archive with op := .erasing 0 (content 7) [0] }
    let twice := s.setArchive (Archive.scan { s.archive with storage := a.archive.storage.set 5 (record 1) })
    let bare := fun (s : State) => s.setStartUp { s.startUp with printer := false }
    ([s, queued, full, a, d, erasing, twice, bare s, bare a, bare d] : List State).all (fun s => s.listens 4 && (s.bus.peer 4).isSome && s.started && s.bus.canQueue) = true ∧
      byteAt ([3] ++ word 501) 0 = s.startUp.ownNumber ∧ byteAt ([9] ++ word 501) 0 ≠ s.startUp.ownNumber ∧
      (s.lane.find 502).all (fun e => e.state = .abandoned) = true ∧ (s.lane.find 501).any (fun e => e.state ≠ .abandoned) = true ∧
      4 ≤ full.cert.jobs.length ∧ a.archive.lookup ⟨3, 1⟩ = some 0 ∧ (a.archive.store 0).content = some (content 1) ∧ d.archive.lookup ⟨3, 1⟩ = some 0 ∧
      (d.archive.store 0).content = none ∧
      erasing.archive.lookup ⟨3, 1⟩ = none ∧ twice.archive.lookup ⟨3, 1⟩ = some 0 ∧ (twice.archive.row 5).number = some ⟨3, 1⟩ ∧
      s.archive.lookup ⟨3, 1⟩ = none ∧ (a.archive.row 0).marks < 3 := by decide +kernel

set_option maxRecDepth 100000 in
theorem test_witness_JobsStartWithTheirContent :
    let s := withJobs (withEntries (work .panel) [entry 501 1 .complete]) [waiting 501]
    let gone := withJobs (work .panel) [waiting 501]
    let r := withJobs (archived (work .panel)) [⟨.certificate ⟨3, 1⟩, 4, .queued⟩]
    let unknown := withJobs (archived (work .panel)) [⟨.certificate ⟨3, 9⟩, 4, .queued⟩]
    s.ready .certificateStart = true ∧ gone.ready .certificateStart = true ∧ r.ready .reprintStart = true ∧
      unknown.ready .reprintStart = true ∧ r.archive.lookup ⟨3, 1⟩ = some 0 ∧ unknown.archive.lookup ⟨3, 9⟩ = none := by decide +kernel

set_option maxRecDepth 100000 in
/-- The archive at the start of a CERTIFICATE job: at an ERASED slot, before one, at a block erased and not, and busy. -/
theorem test_witness_RecordWritesBegin :
    let a := (archived (work .panel)).archive
    let s := fun a => (withJobs (withEntries (work .panel) [entry 501 1 .complete]) [waiting 501]).setArchive a
    let busy := fun n => { a with op := .programMark 0 0 4, requests := List.replicate n (.mark ⟨3, 1⟩ 4) }
    ([a, { a with writePos := 1 }, { a with writePos := 8 }, { a with writePos := 0 }, busy 3, busy 4] : List Archive).all
        (fun a => (s a).ready .certificateStart && (s a).archiveLaw) = true ∧
      a.writePos = 2 ∧ (a.row 1).state ≠ .erased ∧ (a.row 2).state = .erased ∧
      (∀ m, m < 8 → (a.row (8 + m)).state = .erased) ∧ (a.row 0).state ≠ .erased := by decide +kernel

theorem test_witness_LinesAreHandedAndPagesPass :
    let s := withCert (work .panel) sheet
    let lead := withCert (work .panel) { sheet with lead := some false }
    let sent := withCert (work .panel) { sheet with sending := some (.line 0, printBytes [65]) }
    let more := withCert (work .panel) { sheet with sending := some (.line 0, printBytes [65]), compose := [[66]] }
    ([s, lead, sent, more] : List State).all (fun s => s.quiet && s.printerActive) = true ∧ s.cert.sending = none ∧
      s.cert.headIs .printing = true ∧ sent.cert.output.length = 0 + 1 ∧ sent.cert.current ≠ .fail ∧ sent.cert.compose = [] ∧
      more.cert.compose ≠ [] := by decide +kernel

set_option maxRecDepth 100000 in
/-- The last line of a REPRINT, whose slot has a place left, has none, is gone, or is out of reach of a busy archive; and its mark's end. -/
theorem test_witness_ReprintsAskForTheirMark :
    let a := (archived (work .panel)).archive
    let s := fun (n : Nat) (a : Archive) => (withCert (work .panel) { sheet with
      jobs := [⟨.certificate ⟨3, n⟩, 4, .printing⟩], sending := some (.line 0, printBytes [65]) }).setArchive a
    let full := a.setRow 0 ⟨.record, some ⟨3, 1⟩, 2, 3⟩
    let busy := fun n => { a with op := .programRecord 5 (content 5), requests := List.replicate n (.mark ⟨3, 1⟩ 4) }
    let x := s 1 { a with op := .programMark 0 0 4 }
    let done := x.setCert { x.cert with sending := none, output := [] }
    ([s 1 a, s 9 a, s 1 full, s 1 (busy 3), s 1 (busy 4), done] : List State).all
        (fun s => s.quiet && s.printerActive && s.archiveLaw && s.cert.source.isSome) = true ∧
      a.op = .idle ∧ a.lookup ⟨3, 1⟩ = some 0 ∧ (a.row 0).used < 3 ∧ (a.store 0).marks[0]? = some .unused ∧ a.lookup ⟨3, 9⟩ = none ∧
      full.lookup ⟨3, 1⟩ = some 0 ∧ 3 ≤ (full.row 0).used ∧ (s 1 a).cert.output.length = 0 + 1 ∧ (s 1 a).cert.compose = [] ∧
      (s 1 a).cert.current ≠ .fail ∧ done.cert.output = [] := by decide +kernel

theorem test_witness_PaperOutHoldsThePage :
    let s := withCert (work .panel) sheet
    let out := withCert (work .panel) { sheet with jobs := [⟨.ticket 501, 4, .paperWait⟩], paperOut := true, current := .fail }
    let late := out.setTimers { out.timers with certTimer := ⟨false, 0, true⟩ }
    s.quiet = true ∧ s.printerActive = true ∧ s.cert.paperOut = false ∧ s.cert.headIs .printing = true ∧ s.cert.output ≠ [] ∧
      out.quiet = true ∧ out.cert.paperOut = true ∧ out.cert.headIs .paperWait = true ∧ late.ready .paperWait = true := by decide +kernel

set_option maxRecDepth 100000 in
theorem test_witness_ArchiveOperationsComplete :
    let a := (archived (work .panel)).archive
    let s := fun op => (archived (work .panel)).setArchive { a with op := op }
    ([s (.programRecord 31 (content 3)), s (.programMark 0 0 4), s (.erasing 0 (content 3) [0])] : List State).all
        (fun s => s.quiet && s.archiveLaw) = true ∧ a.writePos / 8 = 0 ∧
      (List.replicate 8 Residue.erased)[a.writePos % 8]? = some .erased := by decide +kernel

/-! ### Witnesses: the laws and the wire -/

/-- The least frame and the longest, of fields at their limits. -/
theorem test_witness_FramesSurviveTheWire :
    let a : WireFrame := ⟨0, 0, 0, []⟩
    let b : WireFrame := ⟨3, 31, 15, List.replicate 28 255⟩
    b.cls < 4 ∧ b.kind < 32 ∧ b.source < 16 ∧ b.payload.length ≤ 28 ∧ receive a.bits = .heard a ∧ receive b.bits = .heard b := by
  decide +kernel

/-- A step of a state that keeps every law: the premises of EveryStepKeepsTheMotorLaw, ListLaws and PromptCountAndCaptureLaws together. -/
theorem test_witness_EveryStepKeepsTheLaws :
    let s := (work .roller).setPending [.pulseEdge .sl]
    let listed := (withPeers (work .roller) [peer 2 .plate, peer 4 .panel, peer 15 .desk]).setPending [.presence 9 [2, 0, 0, 0, 0, 0]]
    s.motorLaw = true ∧ s.queueLaw = true ∧ s.tableLaw = true ∧ s.jobLaw = true ∧ s.promptLaw = true ∧ s.archiveLaw = true ∧
      s.captureLaw = true ∧ s.countLaw = true ∧ s.peerLaw = true ∧
      answers (step s) ((work .roller).setCounters { (work .roller).counters with sl := 1 }) = true ∧ listed.peerLaw = true ∧
      (match step listed with
        | .next t => t.peerLaw && decide (t.bus.peers.map (·.station) = [2, 4, 9, 15])
        | _ => false) = true ∧
      (withPeers (work .roller) [peer 4 .panel, peer 2 .plate]).peerLaw = false ∧ (withPeers (work .roller) [peer 3 .panel]).peerLaw = false ∧
      (withPeers State.reset [peer 4 .panel]).peerLaw = false := by decide +kernel

end Sys2Proof.Tests
end

