-- ==== Sys2Proof/Proofs/AxleEvents.lean ====
section
/-! PROOFS. A heard frame reaches its blocks with the vehicle table as it was, and what an AXLE_EVENT does to that table (R9, R26, R37). -/

namespace Sys2Proof.Machine

/-! ### The passage of a heard frame to the blocks (R26, R37) -/

/-- The blocks that the clash check, the peer list and the peer heard report can change; the vehicle table is none of them. -/
abbrev passageBlocks : List Block := [.bus, .timers, .roller, .guidance, .cert]

theorem setBus_passage (s : State) (x : Bus) : s.onlyChanges passageBlocks (s.setBus x) := by
  intro b hb
  cases b with
  | bus => simp at hb
  | _ => rfl

theorem setRoller_passage (s : State) (x : Roller) : Within passageBlocks s (s.setRoller x) :=
  (Within.setRoller s x).mono (by simp)

theorem raise_passage (p : Prompt) (f : PromptFields) (s : State) : Within passageBlocks s (raise p f s) :=
  (raise_within p f s).mono (by simp)

theorem lower_passage (p : Prompt) (s : State) : Within passageBlocks s (lower p s) := (lower_within p s).mono (by simp)

theorem holdChanged_passage (wasHeld : Bool) (s : State) : Within passageBlocks s (holdChanged wasHeld s) :=
  Within.ite (Within.after (Within.ite (lower_passage _ _) (raise_passage _ _ _)) (setRoller_passage s _)) (Within.refl _ s)

theorem removeAwaited_passage (n : Nat) (s : State) : Within passageBlocks s (removeAwaited n s) :=
  Within.ite (Within.ite (Within.after ((startSeqTimer_within _ _).mono (by simp)) (setRoller_passage s _))
    (setRoller_passage s _)) (Within.refl _ s)

/-- A role clash that begins or ends touches the roller sequence and its prompts: no axle is fixed or reported. -/
theorem judgeRoleClash_passage (s : State) : Within passageBlocks s (judgeRoleClash s) := by
  unfold judgeRoleClash
  dsimp only
  split
  · exact Within.ite (Within.refl _ s)
      (Within.after (holdChanged_passage _ _) (Within.after (raise_passage _ _ _) (setRoller_passage s _)))
  · exact Within.ite
      (Within.after (holdChanged_passage _ _) (Within.after (lower_passage _ _) (setRoller_passage s _))) (Within.refl _ s)

theorem peerHeard_passage (n : Nat) (isPresence : Bool) (s : State) : Within passageBlocks s (peerHeard n isPresence s) := by
  refine Within.after ((recheck_within _).mono (by simp)) (Within.after ((judgeEntry_within _).mono (by simp)) ?_)
  refine Within.ite ?_ (Within.refl _ s)
  exact Within.after (judgeRoleClash_passage _) (Within.ite (removeAwaited_passage n s) (Within.refl _ s))

theorem enterPeer_passage (n : Nat) (isPresence : Bool) (fields : Option (PeerRole × Activity × Nat × PrinterState)) (s : State) :
    s.onlyChanges passageBlocks (enterPeer n isPresence fields s) :=
  State.onlyChanges_ite (State.onlyChanges_after (peerHeard_passage _ _ _).1 (setBus_passage s _)) (setBus_passage s _)

theorem clash_passage (s : State) : s.onlyChanges passageBlocks (clash s) :=
  State.onlyChanges_ite (s.onlyChanges_refl _) (State.onlyChanges_after (raise_passage _ _ _).1 (setBus_passage s _))

/-- R26: a frame that makes sense, from a station and heard while not sending, reaches its blocks, whoever sent it; before that only the
clash check and the peer list with its report have acted. -/
theorem hearFrame_delivers {f : WireFrame} {s : State} (listening : s.bus.isSending = false) (station : f.source ≠ 0)
    (sense : f.sensible = true) (deliver : State → State) :
    ∃ r, s.onlyChanges passageBlocks r ∧ hearFrame f deliver s = deliver r := by
  simp only [hearFrame, listening, station, sense, if_true, if_false, Bool.false_eq_true]
  refine ⟨_, ?_, rfl⟩
  exact State.onlyChanges_after (State.onlyChanges_ite (clash_passage _) (enterPeer_passage _ _ _ _)) (setBus_passage s _)

/-- The same of a command that brings a frame to a listening station. -/
theorem heard_delivers {cls kind : Nat} {src : BitVec 4} {p : List Byte} {s : State} (listens : s.listens src = true)
    (length : kindLength cls kind p.length = some true) (deliver : State → State) :
    ∃ r, s.onlyChanges passageBlocks r ∧ heard cls kind src p deliver s = .next (deliver r) := by
  simp only [State.listens, Bool.and_eq_true, Bool.not_eq_true', decide_eq_true_eq] at listens
  obtain ⟨⟨quiet, listening⟩, source⟩ := listens
  have station : src.toNat ≠ 0 := fun z => source (BitVec.eq_of_toNat_eq z)
  obtain ⟨r, passage, delivered⟩ := hearFrame_delivers (f := ⟨cls, kind, src.toNat, p⟩) listening station
    (by simp [WireFrame.sensible, length]) deliver
  exact ⟨r, passage, by rw [heard, outside_quiet quiet, delivered]⟩

/-! ### Look-up in a table that keeps its law (R1) -/

/-- No ticket stands twice and none is 0, so the look-up of a ticket finds every entry of it. -/
theorem find_eq_some_iff {s : State} (law : s.tableLaw = true) {n : Nat} {e : Entry} :
    s.lane.find n = some e ↔ e ∈ s.lane.entries ∧ e.ticket = n := by
  simp only [State.tableLaw, Bool.and_eq_true, decide_eq_true_eq, List.all_eq_true] at law
  obtain ⟨⟨-, nodup⟩, nonzero⟩ := law
  have found {x : Entry} (h : s.lane.find n = some x) : x ∈ s.lane.entries ∧ x.ticket = n := by
    unfold LaneView.find at h
    split at h
    · cases h
    · exact ⟨List.mem_of_find?_eq_some h, by simpa using List.find?_some h⟩
  refine ⟨found, fun ⟨mem, ticket⟩ => ?_⟩
  have stands : (s.lane.find n).isSome = true := by
    have : n ≠ 0 := ticket ▸ nonzero e mem
    simp only [LaneView.find, this, if_false, List.find?_isSome]
    exact ⟨e, mem, by simpa using ticket⟩
  obtain ⟨x, hx⟩ := Option.isSome_iff_exists.mp stands
  obtain ⟨mem', ticket'⟩ := found hx
  rw [hx, List.inj_on_of_nodup_map nodup mem' mem (ticket'.trans ticket.symm)]

/-! ### Axle events (R9) -/

theorem Entry.takesResults_iff {e : Entry} : e.takesResults = true ↔ e.state ≠ .closed ∧ e.state ≠ .abandoned := by
  unfold Entry.takesResults Entry.isOpen
  cases e.state <;> decide

/-- The entry on which an event or result of a ticket and axle acts: the entry of the ticket, where it passes the checks. -/
theorem live_eq_some_iff {s : State} (law : s.tableLaw = true) {n axle : Nat} {e : Entry} :
    s.lane.live n axle = some e ↔
      (e ∈ s.lane.entries ∧ e.ticket = n) ∧ e.state ≠ .closed ∧ e.state ≠ .abandoned ∧ 1 ≤ axle ∧ axle ≤ e.axleCount := by
  rw [← find_eq_some_iff law]
  unfold LaneView.live
  cases s.lane.find n with
  | none => simp
  | some x =>
    simp only [Bool.and_eq_true, Entry.takesResults_iff, decide_eq_true_eq, Option.ite_none_right_eq_some, Option.some.injEq]
    constructor
    · rintro ⟨⟨⟨⟨a, b⟩, c⟩, d⟩, rfl⟩; exact ⟨rfl, a, b, c, d⟩
    · rintro ⟨rfl, a, b, c, d⟩; exact ⟨⟨⟨⟨a, b⟩, c⟩, d⟩, rfl⟩

/-- An axle event moves REGISTERED to IN_LANE, and a LEFT raises the passed count of its role (R9). -/
theorem Entry.axleEvent_eq (e : Entry) (axle : Nat) (ev : AxleEventKind) (role : MeasuringRole) :
    e.axleEvent axle ev role =
      { e with
        state := if e.state = .registered then .inLane else e.state
        rollerPassed := if ev = .left ∧ role = .roller then max e.rollerPassed axle else e.rollerPassed
        platePassed := if ev = .left ∧ role = .plate then max e.platePassed axle else e.platePassed } := by
  have entered : (if e.state = .registered then { e with state := .inLane } else e) =
      { e with state := if e.state = .registered then .inLane else e.state } := by split <;> rfl
  simp only [Entry.axleEvent, entered]
  cases ev with
  | arrived => simp
  | left => cases role <;> simp

/-- Where no entry meets the checks, the table stands. -/
theorem map_ite_of_forall_not {P : Entry → Prop} [DecidablePred P] (f : Entry → Entry) {es : List Entry} (h : ∀ e ∈ es, ¬P e) :
    es.map (fun e => if P e then f e else e) = es :=
  (List.map_congr_left fun e he => if_neg (h e he)).trans (List.map_id' es)

/-- An axle event, heard or local, acts on every entry that passes its checks and on no other: the entries keep their places, and the stamp
counter its value. -/
theorem axleEvent_map {s : State} (law : s.tableLaw = true) (n axle : Nat) (ev : AxleEventKind) (role : MeasuringRole) :
    s.lane.axleEvent n axle ev role =
      { s.lane with entries := s.lane.entries.map fun e =>
          if e.ticket = n ∧ e.state ≠ .closed ∧ e.state ≠ .abandoned ∧ 1 ≤ axle ∧ axle ≤ e.axleCount
          then e.axleEvent axle ev role else e } := by
  unfold LaneView.axleEvent
  split
  next x live =>
    obtain ⟨⟨mem, ticket⟩, checks⟩ := (live_eq_some_iff law).mp live
    unfold LaneView.update
    congr 1
    refine List.map_congr_left fun e he => ?_
    by_cases same : e.ticket = n
    · have found := (find_eq_some_iff law).mpr ⟨he, same⟩
      rw [(find_eq_some_iff law).mpr ⟨mem, ticket⟩] at found
      cases found
      rw [if_pos same, if_pos ⟨same, checks⟩]
    · rw [if_neg same, if_neg fun h => same h.1]
  next absent =>
    have ignored : ∀ e ∈ s.lane.entries,
        ¬(e.ticket = n ∧ e.state ≠ .closed ∧ e.state ≠ .abandoned ∧ 1 ≤ axle ∧ axle ≤ e.axleCount) := by
      rintro e he ⟨same, checks⟩
      exact absurd ((live_eq_some_iff law).mpr ⟨⟨he, same⟩, checks⟩) (by simp [absent])
    rw [map_ite_of_forall_not _ ignored]

theorem readAxleEvent_eq_some_iff {n : Nat} {ev : AxleEventKind} : readAxleEvent n = some ev ↔ n = ev.code := by
  match n with
  | 0 | 1 | _ + 2 => cases ev <;> simp [readAxleEvent, AxleEventKind.code]

theorem readMeasuringRole_eq_some_iff {n : Nat} {role : MeasuringRole} : readMeasuringRole n = some role ↔ n = role.code := by
  match n with
  | 0 | 1 | _ + 2 => cases role <;> simp [readMeasuringRole, MeasuringRole.code]

/-- The codes 0 and 1 name an event (R180). -/
theorem readAxleEvent_of_le_one {n : Nat} (h : n ≤ 1) : ∃ ev, readAxleEvent n = some ev :=
  match n, h with
  | 0, _ => ⟨.arrived, rfl⟩
  | 1, _ => ⟨.left, rfl⟩

/-- The codes 0 and 1 name a measuring role (R180). -/
theorem readMeasuringRole_of_le_one {n : Nat} (h : n ≤ 1) : ∃ role, readMeasuringRole n = some role :=
  match n, h with
  | 0, _ => ⟨.roller, rfl⟩
  | 1, _ => ⟨.plate, rfl⟩

theorem AxleEventKind.code_le_one (ev : AxleEventKind) : ev.code ≤ 1 := by cases ev <;> decide

theorem MeasuringRole.code_le_one (role : MeasuringRole) : role.code ≤ 1 := by cases role <;> decide

theorem AxleEventKind.code_eq_one_iff {ev : AxleEventKind} : ev.code = 1 ↔ ev = .left := by cases ev <;> decide

theorem MeasuringRole.code_eq_zero_iff {role : MeasuringRole} : role.code = 0 ↔ role = .roller := by cases role <;> decide

theorem MeasuringRole.code_eq_one_iff {role : MeasuringRole} : role.code = 1 ↔ role = .plate := by cases role <;> decide

/-- The payload of an AXLE_EVENT at the table: its codes are read, and the event acts as any axle event does (R9). -/
theorem onAxleEvent_lane {s : State} (law : s.tableLaw = true) (p : List Byte) :
    (onAxleEvent p s).lane = { s.lane with
      entries := s.lane.entries.map fun e =>
        if e.ticket = wordAt p 0 ∧ e.state ≠ .closed ∧ e.state ≠ .abandoned ∧ 1 ≤ byteAt p 2 ∧ byteAt p 2 ≤ e.axleCount ∧
            byteAt p 3 ≤ 1 ∧ byteAt p 4 ≤ 1
        then { e with
          state := if e.state = .registered then .inLane else e.state
          rollerPassed := if byteAt p 3 = 1 ∧ byteAt p 4 = 0 then max e.rollerPassed (byteAt p 2) else e.rollerPassed
          platePassed := if byteAt p 3 = 1 ∧ byteAt p 4 = 1 then max e.platePassed (byteAt p 2) else e.platePassed }
        else e } := by
  unfold onAxleEvent
  split
  next ev role event reporter =>
    rw [readAxleEvent_eq_some_iff.mp event, readMeasuringRole_eq_some_iff.mp reporter]
    simp only [State.setLane_fields, axleEvent_map law, Entry.axleEvent_eq, AxleEventKind.code_le_one, MeasuringRole.code_le_one,
      AxleEventKind.code_eq_one_iff, MeasuringRole.code_eq_zero_iff, MeasuringRole.code_eq_one_iff, and_true]
  next unread =>
    have ignored : ∀ e ∈ s.lane.entries, ¬(e.ticket = wordAt p 0 ∧ e.state ≠ .closed ∧ e.state ≠ .abandoned ∧
        1 ≤ byteAt p 2 ∧ byteAt p 2 ≤ e.axleCount ∧ byteAt p 3 ≤ 1 ∧ byteAt p 4 ≤ 1) := by
      rintro e - ⟨-, -, -, -, -, event, reporter⟩
      obtain ⟨ev, hev⟩ := readAxleEvent_of_le_one event
      obtain ⟨role, hrole⟩ := readMeasuringRole_of_le_one reporter
      exact unread ev role hev hrole
    rw [map_ite_of_forall_not _ ignored]

/-- Settles O18: the frame reaches the lane view with the table as it was, and there `onAxleEvent_lane` says what becomes of it. -/
theorem axleEventMovesTheEntry : Obligations.AxleEventMovesTheEntry := by
  intro s src p listens law length
  obtain ⟨r, passage, delivered⟩ := heard_delivers (cls := 2) (kind := 4) (src := src) (p := p) listens
    (by simp [kindLength, length]) (onAxleEvent p)
  have lane : r.lane = s.lane := passage .lane (by simp)
  have law' : r.tableLaw = true := by rwa [State.tableLaw, lane]
  have after := onAxleEvent_lane law' p
  rw [lane] at after
  exact ⟨_, delivered, by rw [after], by rw [after]⟩

end Sys2Proof.Machine
end

