-- ==== Sys2Proof/Proofs/VehicleRatios.lean ====
section
/-! PROOFS. The denominator, the two ratios and the verdict of a zero denominator, as the vehicle computation writes them (R91 to R93). -/

namespace Sys2Proof.Machine

/-! ### A sum that is formed only when every part is present (R91, R92) -/

/-- The common shape of the load, service and parking sums: the sum of the parts, formed only when no part is absent. -/
def partSum {α : Type} (part : α → Option Nat) : List α → Option Nat
  | [] => some 0
  | x :: xs =>
    match part x, partSum part xs with
    | some v, some t => some (v + t)
    | _, _ => none

theorem partSum_of_present {α : Type} {part : α → Option Nat} {xs : List α} (present : ∀ x ∈ xs, (part x).isSome = true) :
    partSum part xs = some (xs.map fun x => (part x).getD 0).sum := by
  induction xs with
  | nil => rfl
  | cons x xs ih =>
    obtain ⟨here, later⟩ := List.forall_mem_cons.mp present
    obtain ⟨v, hv⟩ := Option.isSome_iff_exists.mp here
    simp [partSum, hv, ih later]

theorem partSum_of_absent {α : Type} {part : α → Option Nat} {xs : List α} (absent : ∃ x ∈ xs, part x = none) :
    partSum part xs = none := by
  induction xs with
  | nil => simp at absent
  | cons x xs ih =>
    rcases List.or_exists_of_exists_mem_cons absent with here | later
    · simp [partSum, here]
    · simp [partSum, ih later]

theorem loadSum_eq_partSum (axles : List AxleRecord) : loadSum axles = partSum (fun a => a.load.map fun w => w.l + w.r) axles := by
  induction axles with
  | nil => rfl
  | cons a as ih => rw [loadSum, partSum, ← ih]; cases a.load <;> cases loadSum as <;> rfl

theorem BrakeResult.serviceForce_eq (b : BrakeResult) :
    b.serviceForce = (b.figures.fref.map fun f => f.l + f.r).getD (b.figures.fmax.l + b.figures.fmax.r) := by
  unfold BrakeResult.serviceForce
  cases b.figures.fref <;> rfl

theorem serviceSum_eq_partSum (axles : List AxleRecord) : serviceSum axles = partSum (fun a => a.service.map fun r =>
    (r.figures.fref.map fun f => f.l + f.r).getD (r.figures.fmax.l + r.figures.fmax.r)) axles := by
  simp only [← BrakeResult.serviceForce_eq]
  induction axles with
  | nil => rfl
  | cons a as ih => rw [serviceSum, partSum, ← ih]; cases a.service <;> cases serviceSum as <;> rfl

theorem Entry.parkingSum_eq_partSum (e : Entry) (axles : List Nat) : e.parkingSum axles =
    partSum (fun n => ((e.axle? n).bind (·.parking)).map fun r => r.figures.fmax.l + r.figures.fmax.r) axles := by
  induction axles with
  | nil => rfl
  | cons n ns ih => rw [Entry.parkingSum, partSum, ← ih]; cases (e.axle? n).bind (·.parking) <;> cases e.parkingSum ns <;> rfl

/-! ### The denominator (R91) -/

theorem Entry.denominator_of_designWeight {e : Entry} {w : Nat} (air : e.brake = .air) (weight : e.weight = some w) :
    e.denominator = some w := by
  rw [Entry.denominator, air, weight]

theorem Entry.denominator_of_loads {e : Entry} (other : e.brake ≠ .air ∨ e.weight = none) : e.denominator = loadSum e.axles := by
  unfold Entry.denominator
  split
  next w air weight => simp [air, weight] at other
  next => rfl

/-! ### The ratios (R92) -/

/-- D is not formed, or is 0: neither ratio can be formed. -/
theorem Entry.ratioOf_of_no_denominator {e : Entry} (none_or_zero : e.denominator = none ∨ e.denominator = some 0)
    (sum : Option Nat) : e.ratioOf sum = none := by
  rcases none_or_zero with absent | zero
  · cases sum <;> simp [Entry.ratioOf, absent]
  · cases sum <;> simp [Entry.ratioOf, zero]

theorem Entry.ratioOf_none (e : Entry) : e.ratioOf none = none := rfl

theorem Entry.ratioOf_some {e : Entry} {d : Nat} (formed : e.denominator = some d) (positive : 0 < d) (sum : Nat) :
    e.ratioOf (some sum) = some (min 9999 (1000 * sum / d)) := by
  simp [Entry.ratioOf, formed, positive.ne', ratio]

theorem Entry.formParkingRatio_of_nil {e : Entry} (empty : e.parkingSet = []) : e.formParkingRatio = none := by
  simp [Entry.formParkingRatio, empty]

theorem Entry.formParkingRatio_of_ne_nil {e : Entry} (some_axle : e.parkingSet ≠ []) :
    e.formParkingRatio = e.ratioOf (e.parkingSum e.parkingSet) := by
  simp [Entry.formParkingRatio, some_axle]

theorem Entry.formParkingRatio_of_ratioOf_none {e : Entry} (unformed : e.ratioOf (e.parkingSum e.parkingSet) = none) :
    e.formParkingRatio = none := by
  simp [Entry.formParkingRatio, unformed]

/-! ### What the vehicle computation writes (R19, R93) -/

theorem Entry.computed_serviceRatio (e : Entry) (slip : Bool) : (e.computed slip).serviceRatio = e.formServiceRatio := by
  simp only [Entry.computed, Entry.withVerdict]
  split <;> rfl

theorem Entry.computed_parkingRatio (e : Entry) (slip : Bool) : (e.computed slip).parkingRatio = e.formParkingRatio := by
  simp only [Entry.computed, Entry.withVerdict]
  split <;> rfl

theorem Entry.computed_state (e : Entry) (slip : Bool) : (e.computed slip).state = e.state := by
  simp only [Entry.computed, Entry.withVerdict]
  split <;> rfl

/-- The verdict written is that of the entry with its new ratios. -/
theorem Entry.computed_verdict_of_complete {e : Entry} (complete : e.state = .complete) (slip : Bool) :
    (e.computed slip).verdict = some ((e.computed slip).formVerdict slip) := by
  simp only [Entry.computed, Entry.withVerdict, complete, if_true]
  rfl

/-- A COMPLETE entry has no completeness test before it, and an absent service ratio is the first case that fails (R93). -/
theorem Entry.formVerdict_of_no_serviceRatio {e : Entry} (complete : e.state = .complete) (absent : e.serviceRatio = none)
    (slip : Bool) : e.formVerdict slip = .fail := by
  simp [Entry.formVerdict, complete, absent, belowMinimum]

/-- Settles O37: each sum is a `partSum`, formed exactly when no part is absent, and a ratio needs its sum and a denominator above 0. -/
theorem ratiosFollowTheirSums : Obligations.RatiosFollowTheirSums := by
  intro e slip
  simp only [Entry.computed_serviceRatio, Entry.computed_parkingRatio]
  refine ⟨fun w => Entry.denominator_of_designWeight, fun other => ⟨fun present => ?loadsHeld, fun absent => ?loadMissing⟩,
    fun unusable => ⟨Entry.ratioOf_of_no_denominator unusable _,
      Entry.formParkingRatio_of_ratioOf_none (Entry.ratioOf_of_no_denominator unusable _)⟩,
    fun complete zero => ?zeroFails, fun d formed positive =>
      ⟨fun present => ?serviceHeld, fun absent => ?serviceMissing, fun some_axle present => ?parkingHeld, fun absent => ?parkingMissing⟩⟩
  case loadsHeld =>
    rw [Entry.denominator_of_loads other, loadSum_eq_partSum, partSum_of_present (by simpa using present)]
  case loadMissing =>
    rw [Entry.denominator_of_loads other, loadSum_eq_partSum, partSum_of_absent (by simpa using absent)]
  case zeroFails =>
    have absent : (e.computed slip).serviceRatio = none :=
      (e.computed_serviceRatio slip).trans (Entry.ratioOf_of_no_denominator (.inr zero) _)
    rw [Entry.computed_verdict_of_complete complete,
      Entry.formVerdict_of_no_serviceRatio ((e.computed_state slip).trans complete) absent]
  case serviceHeld =>
    rw [Entry.formServiceRatio, serviceSum_eq_partSum, partSum_of_present (by simpa using present),
      Entry.ratioOf_some formed positive]
  case serviceMissing =>
    rw [Entry.formServiceRatio, serviceSum_eq_partSum, partSum_of_absent (by simpa using absent), Entry.ratioOf_none]
  case parkingHeld =>
    rw [Entry.formParkingRatio_of_ne_nil some_axle, Entry.parkingSum_eq_partSum,
      partSum_of_present (by simpa only [Option.isSome_map] using present), Entry.ratioOf_some formed positive]
  case parkingMissing =>
    rcases absent with empty | absent
    · exact Entry.formParkingRatio_of_nil empty
    · apply Entry.formParkingRatio_of_ratioOf_none
      rw [Entry.parkingSum_eq_partSum, partSum_of_absent (by simpa only [Option.map_eq_none_iff] using absent), Entry.ratioOf_none]

end Sys2Proof.Machine
end

section
/-! The list, prompt, count and capture laws: which laws an operation keeps. -/

namespace Sys2Proof.Machine

/-! ### Keeping the laws -/

/-- From `s` to `t` every law of the lists, prompts, counts and capture chain that holds goes on holding, each by itself. -/
structure Lawful (s t : State) : Prop where
  queue : s.queueLaw = true → t.queueLaw = true
  table : s.tableLaw = true → t.tableLaw = true
  jobs : s.jobLaw = true → t.jobLaw = true
  archive : s.archiveLaw = true → t.archiveLaw = true
  peers : s.peerLaw = true → t.peerLaw = true
  prompts : s.promptLaw = true → t.promptLaw = true
  counts : s.countLaw = true → t.countLaw = true
  chain : s.captureLaw = true → t.captureLaw = true

theorem Lawful.refl (s : State) : Lawful s s := ⟨id, id, id, id, id, id, id, id⟩

/-- Along two operations, from the outermost inwards. -/
theorem Lawful.after {s t u : State} (k : Lawful t u) (h : Lawful s t) : Lawful s u :=
  ⟨k.queue ∘ h.queue, k.table ∘ h.table, k.jobs ∘ h.jobs, k.archive ∘ h.archive, k.peers ∘ h.peers, k.prompts ∘ h.prompts,
    k.counts ∘ h.counts, k.chain ∘ h.chain⟩

theorem Lawful.ite {s t u : State} {c : Prop} [Decidable c] (h : Lawful s t) (k : Lawful s u) : Lawful s (if c then t else u) := by
  split
  · exact h
  · exact k

/-- A step that is skipped in one case. -/
theorem Lawful.skip {s t u : State} {c : Prop} [Decidable c] (k : Lawful t u) (h : Lawful s t) : Lawful s (if c then t else u) :=
  Lawful.ite h (k.after h)

/-- A step that is taken in one case. -/
theorem Lawful.when {s t u : State} {c : Prop} [Decidable c] (k : Lawful t u) (h : Lawful s t) : Lawful s (if c then u else t) :=
  Lawful.ite (k.after h) h

theorem Lawful.foldl {α : Type} {f : State → α → State} (h : ∀ s a, Lawful s (f s a)) :
    ∀ (as : List α) (s : State), Lawful s (as.foldl f s)
  | [], s => Lawful.refl s
  | a :: as, s => (Lawful.foldl h as (f s a)).after (h s a)

/-! ### What each law reads -/

theorem State.queueLaw_iff {s : State} : s.queueLaw = true ↔
    s.bus.queue.length ≤ Config.queueSize ∧ (s.bus.canQueue = true ∨ s.bus.queue = []) ∧
    (s.startUp.ended = true ∨ s.bus.canQueue = false) ∧ (s.startUp.endDue = false ∨ s.startUp.ended = false) := by
  simp [State.queueLaw, and_assoc]

theorem State.tableLaw_congr {s t : State} (h : t.lane.entries = s.lane.entries) : t.tableLaw = s.tableLaw := by
  simp [State.tableLaw, h]

theorem State.jobLaw_congr {s t : State} (h : t.cert.jobs = s.cert.jobs) : t.jobLaw = s.jobLaw := by simp [State.jobLaw, h]

theorem State.archiveLaw_congr {s t : State} (h : t.archive = s.archive) : t.archiveLaw = s.archiveLaw := by
  simp [State.archiveLaw, h]

theorem State.promptLaw_congr {s t : State} (h : t.guidance.prompts = s.guidance.prompts) : t.promptLaw = s.promptLaw := by
  simp [State.promptLaw, h, Guidance.isRaised]

theorem State.countLaw_congr {s t : State} (h : t.clock = s.clock) (k : t.counters = s.counters) : t.countLaw = s.countLaw := by
  simp [State.countLaw, h, k]

theorem State.captureLaw_congr {s t : State} (h : t.capture = s.capture) (k : t.eval.slot = s.eval.slot) :
    t.captureLaw = s.captureLaw := by simp [State.captureLaw, h, k]

theorem State.peerLaw_congr {s t : State} (h : t.bus.peers = s.bus.peers) (k : t.startUp.ownNumber = s.startUp.ownNumber)
    (p : t.power = s.power) : t.peerLaw = s.peerLaw := by simp [State.peerLaw, h, k, State.isRunning, p]

/-- Requests to queue keep the transmit queue's laws (R30, R31). -/
theorem queueLaw_of_queued {s t : State} (b : s.bus.Queued t.bus) (u : t.startUp = s.startUp) (h : s.queueLaw = true) :
    t.queueLaw = true := by
  have can : t.bus.canQueue = s.bus.canQueue := Bus.onlyQueues_canQueue b.only
  rw [State.queueLaw_iff] at h ⊢
  obtain ⟨size, shut, ended, due⟩ := h
  refine ⟨b.size size, ?_, by rw [u, can]; exact ended, by rw [u]; exact due⟩
  cases open' : s.bus.canQueue with
  | true => exact Or.inl (can.trans open')
  | false => exact Or.inr ((b.shut open').trans (shut.resolve_left (by simp [open'])))

/-- An operation keeps the laws of the blocks outside its frame; those inside are named one by one. -/
theorem Within.lawful {bs : List Block} {s t : State} (h : Within bs s t)
    (outer : Block.power ∉ bs ∧ Block.startUp ∉ bs ∧ Block.clock ∉ bs ∧ Block.counters ∉ bs)
    (table : .lane ∈ bs → s.tableLaw = true → t.tableLaw = true)
    (jobs : .cert ∈ bs → s.jobLaw = true → t.jobLaw = true)
    (archive : .archive ∈ bs → s.archiveLaw = true → t.archiveLaw = true)
    (prompts : .guidance ∈ bs → s.promptLaw = true → t.promptLaw = true)
    (chain : .capture ∈ bs ∨ .eval ∈ bs → s.captureLaw = true → t.captureLaw = true) : Lawful s t where
  queue := queueLaw_of_queued h.2 (h.same .startUp outer.2.1)
  table := by
    by_cases m : Block.lane ∈ bs
    · exact table m
    · rw [State.tableLaw_congr (congrArg _ (h.same .lane m))]; exact id
  jobs := by
    by_cases m : Block.cert ∈ bs
    · exact jobs m
    · rw [State.jobLaw_congr (congrArg _ (h.same .cert m))]; exact id
  archive := by
    by_cases m : Block.archive ∈ bs
    · exact archive m
    · rw [State.archiveLaw_congr (h.same .archive m)]; exact id
  peers := by
    have own : t.startUp.ownNumber = s.startUp.ownNumber := congrArg _ (h.same .startUp outer.2.1)
    rw [State.peerLaw_congr (Bus.onlyQueues_fields h.2.only).2.2.2.1 own (h.same .power outer.1)]
    exact id
  prompts := by
    by_cases m : Block.guidance ∈ bs
    · exact prompts m
    · rw [State.promptLaw_congr (congrArg _ (h.same .guidance m))]; exact id
  counts := by rw [State.countLaw_congr (h.same .clock outer.2.2.1) (h.same .counters outer.2.2.2)]; exact id
  chain := by
    by_cases m : Block.capture ∈ bs ∨ Block.eval ∈ bs
    · exact chain m
    · have m := not_or.mp m
      rw [State.captureLaw_congr (h.same .capture m.1) (congrArg _ (h.same .eval m.2))]; exact id

theorem queueFrame_lawful (f : LaneFrame) (s : State) : Lawful s (queueFrame f s) := (queueFrame_within f s).lawful (by simp) (by simp) (by simp) (by simp) (by simp) (by simp)

theorem requestPresence_lawful (s : State) : Lawful s (requestPresence s) := (requestPresence_within s).lawful (by simp) (by simp) (by simp) (by simp) (by simp) (by simp)

theorem setRoller_lawful (s : State) (x : Roller) : Lawful s (s.setRoller x) := (Within.setRoller s x).lawful (by simp) (by simp) (by simp) (by simp) (by simp) (by simp)

theorem setPlate_lawful (s : State) (x : Plate) : Lawful s (s.setPlate x) := (Within.setPlate s x).lawful (by simp) (by simp) (by simp) (by simp) (by simp) (by simp)

theorem setTimers_lawful (s : State) (x : Timers) : Lawful s (s.setTimers x) := (Within.setTimers s x).lawful (by simp) (by simp) (by simp) (by simp) (by simp) (by simp)

theorem setPins_lawful (s : State) (x : Pins) : Lawful s (s.setPins x) := (Within.setPins s x).lawful (by simp) (by simp) (by simp) (by simp) (by simp) (by simp)

theorem setEval_lawful (s : State) {x : Eval} (h : x.slot = s.eval.slot) : Lawful s (s.setEval x) :=
  (Within.setEval s x).lawful (outer := by simp) (table := by simp) (jobs := by simp) (archive := by simp) (prompts := by simp) (chain := fun _ => by rw [State.captureLaw_congr (s := s) (t := s.setEval x) rfl h]; exact id)

theorem setLane_lawful (s : State) {x : LaneView} (h : s.tableLaw = true → (s.setLane x).tableLaw = true) :
    Lawful s (s.setLane x) := (Within.setLane s x).lawful (outer := by simp) (jobs := by simp) (archive := by simp) (prompts := by simp) (chain := by simp) (table := fun _ => h)

theorem setCert_lawful (s : State) {x : Cert} (h : s.jobLaw = true → (s.setCert x).jobLaw = true) :
    Lawful s (s.setCert x) := (Within.setCert s x).lawful (outer := by simp) (table := by simp) (archive := by simp) (prompts := by simp) (chain := by simp) (jobs := fun _ => h)

/-- A change of the certificate unit that leaves the print jobs as they are. -/
theorem setCert_jobs_lawful (s : State) {x : Cert} (h : x.jobs = s.cert.jobs) : Lawful s (s.setCert x) :=
  setCert_lawful s (by rw [State.jobLaw_congr (s := s) (t := s.setCert x) h]; exact id)

theorem presenceIfChanged_lawful {s t : State} (r : State) (h : Lawful s t) : Lawful s (presenceIfChanged r t) :=
  Lawful.ite h ((requestPresence_lawful t).after h)

/-! ### The prompt set (R130, R133) -/

theorem State.promptLaw_iff {s : State} : s.promptLaw = true ↔
    (s.guidance.prompts.map (·.prompt)).Nodup ∧ s.guidance.isRaised .laneReady = true := by simp [State.promptLaw]

theorem confirmShown_names (s : State) :
    (confirmShown s).guidance.prompts.map (·.prompt) = s.guidance.prompts.map (·.prompt) := by
  unfold confirmShown
  split
  · simp only [State.setGuidance_fields, Guidance.confirmed, List.map_map]
    refine List.map_congr_left fun e _ => ?_
    simp only [Function.comp]
    split <;> rfl
  · rfl

theorem showDisplayed_names (s : State) :
    (showDisplayed s).guidance.prompts.map (·.prompt) = s.guidance.prompts.map (·.prompt) := by
  unfold showDisplayed
  rw [confirmShown_names]
  simp [Guidance.prompts_requestHorn, composePanel_prompts]

/-- The choice made again takes prompts out of the set at most. -/
theorem rechoose_names (s : State) :
    ((rechoose s).guidance.prompts.map (·.prompt)).Sublist (s.guidance.prompts.map (·.prompt)) := by
  unfold rechoose
  split
  · exact List.Sublist.refl _
  · dsimp only
    split
    · exact List.Sublist.refl _
    · rw [showDisplayed_names]
      simp only [State.setGuidance_fields, dropHiddenLowering]
      exact List.filter_sublist.map _

/-- An operation on prompts that keeps each prompt's place single and LANE_READY raised. -/
theorem Within.prompts_lawful {s t : State} (h : Within promptBlocks s t)
    (nodup : (s.guidance.prompts.map (·.prompt)).Nodup → (t.guidance.prompts.map (·.prompt)).Nodup)
    (ready : s.guidance.isRaised .laneReady = true → t.guidance.isRaised .laneReady = true) : Lawful s t :=
  h.lawful (outer := by simp) (table := by simp) (jobs := by simp) (archive := by simp) (chain := by simp) (prompts := fun _ => by
    rw [State.promptLaw_iff, State.promptLaw_iff]
    exact fun k => ⟨nodup k.1, ready k.2⟩)

theorem rechoose_lawful (s : State) : Lawful s (rechoose s) :=
  (rechoose_within s).prompts_lawful (fun h => h.sublist (rechoose_names s)) (by rw [rechoose_isRaised]; exact id)

theorem showDisplayed_lawful (s : State) : Lawful s (showDisplayed s) :=
  (showDisplayed_within s).prompts_lawful (by rw [showDisplayed_names]; exact id) (by rw [showDisplayed_isRaised]; exact id)

theorem composePanel_lawful (s : State) : Lawful s (composePanel s) :=
  (composePanel_within s).prompts_lawful (by rw [composePanel_prompts]; exact id)
    (by rw [Guidance.isRaised_congr (composePanel_prompts s)]; exact id)

/-- A change of the guidance unit that takes prompts out of the set at most, and none that is RAISED. -/
theorem setGuidance_lawful (s : State) {g : Guidance}
    (names : (g.prompts.map (·.prompt)).Sublist (s.guidance.prompts.map (·.prompt)))
    (ready : s.guidance.isRaised .laneReady = true → g.isRaised .laneReady = true) : Lawful s (s.setGuidance g) :=
  (setGuidance_within s g).prompts_lawful (fun h => h.sublist names) ready

/-- A change of the guidance unit that leaves the prompt set. -/
theorem setGuidance_same_lawful (s : State) {g : Guidance} (h : g.prompts = s.guidance.prompts) : Lawful s (s.setGuidance g) :=
  setGuidance_lawful s (by rw [h]) (by rw [Guidance.isRaised_congr h]; exact id)

theorem Guidance.raised_nodup {g : Guidance} (h : (g.prompts.map (·.prompt)).Nodup) (p : Prompt) (f : PromptFields) (life : Nat)
    (confirm : Bool) : ((g.raised p f life confirm).prompts.map (·.prompt)).Nodup := by
  simp only [Guidance.raised, Guidance.without, List.map_append, List.map_cons, List.map_nil]
  rw [List.nodup_append]
  refine ⟨h.sublist (List.filter_sublist.map _), by simp, fun a ha b hb => ?_⟩
  obtain ⟨e, he, rfl⟩ := List.mem_map.mp ha
  rw [List.mem_singleton.mp hb]
  simpa using (List.mem_filter.mp he).2

theorem raiseWith_lawful (p : Prompt) (f : PromptFields) (life : Nat) (confirm : Bool) (s : State) :
    Lawful s (raiseWith p f life confirm s) := by
  refine (raiseWith_within p f life confirm s).prompts_lawful (fun h => ?_) (fun h => by rw [raiseWith_isRaised]; simp [h])
  have base := (Guidance.raised_nodup h p f life confirm).sublist
    (rechoose_names (s.setGuidance (s.guidance.raised p f life confirm)))
  unfold raiseWith
  dsimp only
  split
  · rw [showDisplayed_names]; exact base
  · exact base

theorem raise_lawful (p : Prompt) (f : PromptFields) (s : State) : Lawful s (raise p f s) := raiseWith_lawful p f 0 false s

theorem updateFields_lawful (p : Prompt) (f : PromptFields) (s : State) : Lawful s (updateFields p f s) := by
  refine (updateFields_within p f s).prompts_lawful (fun h => ?_) (by rw [updateFields_isRaised]; exact id)
  have names : (s.guidance.prompts.map fun e => if e.prompt = p then { e with fields := f } else e).map (·.prompt) =
      s.guidance.prompts.map (·.prompt) := by
    rw [List.map_map]
    refine List.map_congr_left fun e _ => ?_
    simp only [Function.comp]
    split <;> rfl
  unfold updateFields
  dsimp only
  split
  · rw [composePanel_prompts]; simpa only [State.setGuidance_fields, names] using h
  · simpa only [State.setGuidance_fields, names] using h

/-- A lower takes prompts out of the set at most. -/
theorem lower_names (p : Prompt) (s : State) :
    ((lower p s).guidance.prompts.map (·.prompt)).Sublist (s.guidance.prompts.map (·.prompt)) := by
  unfold lower
  split
  · exact List.Sublist.refl _
  · split
    · exact List.Sublist.refl _
    · split
      · simp only [State.setGuidance_fields, List.map_map]
        rw [List.map_congr_left (g := (·.prompt)) fun e _ => by simp only [Function.comp]; split <;> rfl]
      · refine (rechoose_names _).trans ?_
        simp only [State.setGuidance_fields, Guidance.without]
        exact List.filter_sublist.map _

theorem lower_lawful (p : Prompt) (s : State) : Lawful s (lower p s) := by
  refine (lower_within p s).prompts_lawful (fun h => h.sublist (lower_names p s)) (fun h => ?_)
  rw [lower_isRaised, h]
  by_cases hp : p = .laneReady <;> simp [hp, eq_comm]

theorem lowerAll_lawful : ∀ (ps : List Prompt) (s : State), Lawful s (lowerAll ps s)
  | [], s => Lawful.refl s
  | p :: ps, s => (lowerAll_lawful ps _).after (lower_lawful p s)

theorem raiseOrUpdate_lawful (p : Prompt) (f : PromptFields) (s : State) : Lawful s (raiseOrUpdate p f s) :=
  Lawful.ite (Lawful.ite (Lawful.refl s) (updateFields_lawful p f s)) (raise_lawful p f s)

theorem lowerIfRaised_lawful (p : Prompt) (s : State) : Lawful s (lowerIfRaised p s) :=
  Lawful.ite (lower_lawful p s) (Lawful.refl s)

theorem judgeEntry_lawful (s : State) : Lawful s (judgeEntry s) := by
  unfold judgeEntry
  refine Lawful.ite (Lawful.refl s) ?_
  dsimp only
  split
  · exact (lowerIfRaised_lawful _ _).after (raiseOrUpdate_lawful _ _ s)
  · exact Lawful.ite ((lowerIfRaised_lawful _ _).after (lowerIfRaised_lawful _ s))
      ((raiseOrUpdate_lawful _ _ _).after (lowerIfRaised_lawful _ s))

theorem refreshPanel_lawful (s : State) : Lawful s (refreshPanel s) := by
  unfold refreshPanel
  split
  · exact setGuidance_same_lawful s (s.guidance.prompts_due _)
  · exact Lawful.refl s

theorem panelSent_lawful (s : State) : Lawful s (panelSent s) := by
  unfold panelSent
  exact Lawful.ite (Lawful.refl s) (Lawful.ite (setGuidance_same_lawful s (by rfl)) (setGuidance_same_lawful s (by rfl)))

theorem firstDisplay_lawful (s : State) : Lawful s (firstDisplay s) :=
  (showDisplayed_lawful _).after (setGuidance_same_lawful s (by rfl))

theorem guidanceTick1_lawful (s : State) : Lawful s (guidanceTick1 s) := (judgeEntry_lawful _).after (refreshPanel_lawful s)

theorem lowerForTicket_lawful (ticket : Nat) (p : Prompt) (s : State) : Lawful s (lowerForTicket ticket p s) := by
  unfold lowerForTicket
  split
  · exact Lawful.ite (lower_lawful p s) (Lawful.refl s)
  · exact Lawful.refl s

theorem guidanceTicketGone_lawful (ticket : Nat) (s : State) : Lawful s (guidanceTicketGone ticket s) :=
  (judgeEntry_lawful _).after ((lowerForTicket_lawful _ _ _).after ((lowerForTicket_lawful _ _ _).after (lowerForTicket_lawful _ _ s)))

theorem guidanceLaneClear_lawful (s : State) : Lawful s (guidanceLaneClear s) := (judgeEntry_lawful _).after (lowerAll_lawful _ s)

theorem lowerWarningOf_lawful (sender : Nat) (s : State) : Lawful s (lowerWarningOf sender s) := by
  unfold lowerWarningOf
  split
  · exact Lawful.ite (lower_lawful _ s) (Lawful.refl s)
  · exact Lawful.refl s

theorem showTimeMet_lawful (s : State) : Lawful s (showTimeMet s) := by
  refine (rechoose_lawful _).after (setGuidance_lawful s (List.filter_sublist.map _) fun h => ?_)
  simp only [Guidance.isRaised, List.any_filter, List.any_eq_true] at h ⊢
  obtain ⟨e, m, r⟩ := h
  exact ⟨e, m, by simp at r; simp [r]⟩

theorem hornTick_lawful (shown : Prompt) (s : State) : Lawful s (hornTick shown s) := by
  unfold hornTick
  exact Lawful.ite ((setTimers_lawful _ _).after (setGuidance_same_lawful s (by rfl)))
    (Lawful.ite (setGuidance_same_lawful s (by rfl)) (Lawful.refl s))

theorem singleEnd_lawful (s : State) : Lawful s (singleEnd s) := (setTimers_lawful _ _).after (setGuidance_same_lawful s (by rfl))

/-- A window's counts leave every prompt in its place, RAISED or LOWERING as it was. -/
theorem Guidance.countWindow_entry (shown : Prompt) (e : PromptEntry) :
    let e' := if e.prompt = shown then { e with showCount := min Config.showWindows (e.showCount + 1) } else e
    let e'' := if (e'.prompt = .entryRejected || e'.prompt = .warningFromPeer) && !e'.lowering then { e' with life := e'.life - 1 } else e'
    e''.prompt = e.prompt ∧ e''.lowering = e.lowering := by
  dsimp only
  split <;> split <;> exact ⟨rfl, rfl⟩

theorem countWindow_lawful (shown : Prompt) (s : State) : Lawful s (s.setGuidance (s.guidance.countWindow shown)) := by
  have names : (s.guidance.countWindow shown).prompts.map (·.prompt) = s.guidance.prompts.map (·.prompt) := by
    simp only [Guidance.countWindow, List.map_map]
    exact List.map_congr_left fun e _ => (Guidance.countWindow_entry shown e).1
  refine setGuidance_lawful s (by rw [names]) fun h => ?_
  · rw [← h]
    simp only [Guidance.isRaised, Guidance.countWindow, List.any_map]
    congr 1
    funext e
    obtain ⟨hp, hl⟩ := Guidance.countWindow_entry shown e
    simp only [Function.comp, hp, hl]

theorem guidanceTick8_lawful (s : State) : Lawful s (guidanceTick8 s) := by
  unfold guidanceTick8
  split
  · exact Lawful.refl s
  · exact (composePanel_lawful _).after ((hornTick_lawful _ _).after (countWindow_lawful _ s))

end Sys2Proof.Machine
end

section
/-! The capture chain's laws (R59, R60, R67, R69): what the operations on streams, pages and the converter keep. -/

namespace Sys2Proof.Machine

/-! ### Streams of the capture block -/

@[simp] theorem Capture.stream_setStream_same (c : Capture) (i : StreamId) (x : Stream) : (c.setStream i x).stream i = x := by
  cases i <;> rfl

theorem Capture.stream_setStream_other (c : Capture) {i j : StreamId} (h : j ≠ i) (x : Stream) :
    (c.setStream i x).stream j = c.stream j := by
  cases i <;> cases j <;> simp_all [Capture.stream, Capture.setStream]

@[simp] theorem Capture.setStream_rest (c : Capture) (i : StreamId) (x : Stream) :
    (c.setStream i x).gateOpen = c.gateOpen ∧ (c.setStream i x).faulted = c.faulted ∧ (c.setStream i x).oneOffs = c.oneOffs ∧
    (c.setStream i x).faultDue = c.faultDue ∧ (c.setStream i x).converter = c.converter := by
  cases i <;> exact ⟨rfl, rfl, rfl, rfl, rfl⟩

theorem mem_allStreams (i : StreamId) : i ∈ allStreams := by cases i <;> decide

/-! ### Buffers of a stream -/

theorem Stream.bufferLaw_iff {x : Stream} : x.bufferLaw = true ↔
    (x.bufA.state = .filling → x.bufB.state ≠ .filling) ∧
    (x.bufA.state = .filling ∨ x.bufB.state = .filling → x.running = true ∧ x.config.mode = .page ∧ x.waiting = false) ∧
    (x.waiting = true → x.running = true ∧ x.config.mode = .page) := by
  simp only [Stream.bufferLaw, Bool.and_eq_true, Bool.or_eq_true, Bool.not_eq_true', beq_iff_eq, Bool.and_eq_false_iff,
    Bool.or_eq_false_iff, beq_eq_false_iff_ne]
  constructor
  · rintro ⟨⟨two, fills⟩, waits⟩
    refine ⟨fun a b => ?_, fun f => ?_, fun w => waits.resolve_left (by simp [w])⟩
    · exact two.elim (fun n => n a) (fun n => n b)
    · have := fills.resolve_left (fun n => f.elim n.1 n.2)
      exact ⟨this.1.1, this.1.2, this.2⟩
  · rintro ⟨two, fills, waits⟩
    refine ⟨⟨?_, ?_⟩, ?_⟩
    · by_cases a : x.bufA.state = .filling
      · exact Or.inr (two a)
      · exact Or.inl a
    · by_cases f : x.bufA.state = .filling ∨ x.bufB.state = .filling
      · exact Or.inr ⟨⟨(fills f).1, (fills f).2.1⟩, (fills f).2.2⟩
      · exact Or.inl (not_or.mp f)
    · cases w : x.waiting
      · exact Or.inl rfl
      · exact Or.inr (waits w)

/-- A stream that does not run has no FILLING buffer and waits for none (R60). -/
theorem Stream.bufferLaw_stopped {x : Stream} (h : x.bufferLaw = true) (r : x.running = false) :
    x.bufA.state ≠ .filling ∧ x.bufB.state ≠ .filling ∧ x.waiting = false := by
  obtain ⟨-, fills, waits⟩ := Stream.bufferLaw_iff.mp h
  refine ⟨fun a => ?_, fun b => ?_, ?_⟩
  · simpa [r] using fills (Or.inl a)
  · simpa [r] using fills (Or.inr b)
  · by_contra w
    simpa [r] using waits (by simpa using w)

theorem Stream.bufferLaw_of_idle {x : Stream} (a : x.bufA.state ≠ .filling) (b : x.bufB.state ≠ .filling) (w : x.waiting = false) :
    x.bufferLaw = true := Stream.bufferLaw_iff.mpr ⟨fun f => absurd f a, fun f => (f.elim a b).elim, fun f => by simp [w] at f⟩

/-- A running stream in PAGE mode, none of whose buffers is FILLING, takes a buffer or waits (R59 step 4). -/
theorem Stream.takeBuffer_law {x : Stream} (a : x.bufA.state ≠ .filling) (b : x.bufB.state ≠ .filling) (r : x.running = true)
    (m : x.config.mode = .page) (held : Bool) : (x.takeBuffer held).bufferLaw = true := by
  rw [Stream.bufferLaw_iff]
  unfold Stream.takeBuffer
  split
  · simp [Buffer.fresh, r, m, b]
  · split
    · simp [Buffer.fresh, r, m, a]
    · simp [a, b, r, m]

theorem Stream.release_law {x : Stream} (h : x.bufferLaw = true) (inB held : Bool) : (x.release inB held).bufferLaw = true := by
  obtain ⟨two, fills, waits⟩ := Stream.bufferLaw_iff.mp h
  have none : x.waiting = true → x.bufA.state ≠ .filling ∧ x.bufB.state ≠ .filling := fun w =>
    ⟨fun f => by simpa [w] using (fills (Or.inl f)).2.2, fun f => by simpa [w] using (fills (Or.inr f)).2.2⟩
  unfold Stream.release
  dsimp only
  split
  · rename_i w
    cases inB
    · exact Stream.takeBuffer_law (x := x.setBuffer false Buffer.clear) nofun (none w).2 (waits w).1 (waits w).2 held
    · exact Stream.takeBuffer_law (x := x.setBuffer true Buffer.clear) (none w).1 nofun (waits w).1 (waits w).2 held
  · rename_i w
    cases inB <;> simp [Stream.bufferLaw_iff, Stream.setBuffer, Buffer.clear] <;> exact ⟨fun f => fills (by simp [f]), waits⟩

theorem Stream.handOver_law {x : Stream} (h : x.bufferLaw = true) (inB : Bool) : (x.handOver inB).bufferLaw = true := by
  obtain ⟨two, fills, waits⟩ := Stream.bufferLaw_iff.mp h
  cases inB <;> simp [Stream.bufferLaw_iff, Stream.handOver, Stream.setBuffer] <;>
    exact ⟨fun f => fills (by simp [f]), waits⟩

theorem Buffer.stopped_not_filling (b : Buffer) (run seq : Nat) (columns : List Nat) :
    (b.stopped run seq columns).state ≠ .filling := by
  unfold Buffer.stopped
  split
  · assumption
  · split <;> simp [Buffer.clear, Buffer.closed]

theorem Stream.stop_law (x : Stream) : x.stop.bufferLaw = true :=
  Stream.bufferLaw_of_idle (Buffer.stopped_not_filling _ _ _ _) (Buffer.stopped_not_filling _ _ _ _) rfl

theorem Stream.configure_law {x : Stream} (h : x.bufferLaw = true) (r : x.running = false) (k : StreamConfig) (held : Bool) :
    (x.configure k held).bufferLaw = true := by
  obtain ⟨a, b, w⟩ := Stream.bufferLaw_stopped h r
  unfold Stream.configure
  dsimp only
  split
  · exact Stream.bufferLaw_of_idle a b w
  · split
    · rename_i m
      exact Stream.takeBuffer_law (x := { x with
        config := k.stored, running := true, runNumber := (x.runNumber + 1) % 256, rails := List.replicate k.columns.length 0 })
        a b rfl m held
    · exact Stream.bufferLaw_of_idle a b w

/-! ### FULL pages -/

/-- How many of a stream's buffers are FULL. -/
def Stream.fulls (x : Stream) : Nat := (if x.bufA.state = .full then 1 else 0) + (if x.bufB.state = .full then 1 else 0)

theorem Stream.fulls_le (x : Stream) : x.fulls ≤ 2 := by unfold Stream.fulls; split <;> split <;> simp

theorem Stream.fullBuffer_eq_none {x : Stream} : x.fullBuffer = none ↔ x.fulls = 0 := by
  unfold Stream.fullBuffer Stream.fulls
  by_cases a : x.bufA.state = .full <;> by_cases b : x.bufB.state = .full <;> simp [a, b]

theorem Stream.fullBuffer_state {x : Stream} {inB : Bool} (h : x.fullBuffer = some inB) : (x.buffer inB).state = .full := by
  unfold Stream.fullBuffer at h
  by_cases a : x.bufA.state = .full <;> by_cases b : x.bufB.state = .full <;> simp [a, b] at h
  · cases inB <;> simp [Stream.buffer, a, b]
  · subst h; exact a
  · subst h; exact b

theorem Stream.takeBuffer_fulls (x : Stream) (held : Bool) : (x.takeBuffer held).fulls = x.fulls := by
  unfold Stream.takeBuffer
  split
  · rename_i a; simp [Stream.fulls, Buffer.fresh, a]
  · split
    · rename_i b; simp [Stream.fulls, Buffer.fresh, b]
    · rfl

/-- A FULL page handed over and passed over at once is one FULL page less. -/
theorem Stream.passOver_fulls {x : Stream} {inB : Bool} (h : (x.buffer inB).state = .full) (held : Bool) :
    ((x.handOver inB).release inB held).fulls + 1 = x.fulls := by
  have cleared : (((x.handOver inB).setBuffer inB Buffer.clear).fulls) + 1 = x.fulls := by
    cases inB <;> simp [Stream.buffer] at h <;> simp [Stream.fulls, Stream.handOver, Stream.setBuffer, Buffer.clear, h, Nat.add_comm]
  unfold Stream.release
  dsimp only
  split
  · rw [Stream.takeBuffer_fulls]; exact cleared
  · exact cleared

/-- How many buffers of the capture block are FULL. -/
def Capture.fulls (c : Capture) : Nat := c.s0.fulls + c.s1.fulls + c.s2.fulls + c.s3.fulls

theorem Capture.fulls_le (c : Capture) : c.fulls ≤ 8 := by
  have a := c.s0.fulls_le
  have b := c.s1.fulls_le
  have d := c.s2.fulls_le
  have e := c.s3.fulls_le
  unfold Capture.fulls
  omega

theorem Capture.fulls_setStream (c : Capture) (i : StreamId) (x : Stream) :
    (c.setStream i x).fulls + (c.stream i).fulls = c.fulls + x.fulls := by
  cases i <;> simp only [Capture.fulls, Capture.setStream, Capture.stream] <;> omega

theorem Capture.nextFull_eq_none {c : Capture} : c.nextFull = none ↔ c.fulls = 0 := by
  simp only [Capture.nextFull, allStreams, List.findSome?_eq_none_iff, List.mem_cons, List.not_mem_nil, or_false, Option.map_eq_none_iff,
    Stream.fullBuffer_eq_none, forall_eq_or_imp, forall_eq, Capture.stream, Capture.fulls]
  omega

theorem Capture.nextFull_state {c : Capture} {i : StreamId} {inB : Bool} (h : c.nextFull = some (i, inB)) :
    ((c.stream i).buffer inB).state = .full := by
  obtain ⟨j, _, e⟩ := List.exists_of_findSome?_eq_some h
  obtain ⟨b, hb, e⟩ := Option.map_eq_some_iff.mp e
  cases e
  exact Stream.fullBuffer_state hb

/-! ### The laws of the chain -/

/-- The capture block's laws but for the hand-over: the sets in rising order, the streams' buffers. -/
structure Capture.Ordered (c : Capture) : Prop where
  faulted : c.faulted.Pairwise (· < ·)
  oneOffs : c.oneOffs.Pairwise (· < ·)
  buffers : ∀ i, (c.stream i).bufferLaw = true

/-- While the unit holds no page no buffer is FULL (R69). -/
def HandedOver (c : Capture) (e : Eval) : Prop := e.slot.isSome = true ∨ c.nextFull = none

theorem State.captureLaw_iff {s : State} : s.captureLaw = true ↔ s.capture.Ordered ∧ HandedOver s.capture s.eval := by
  simp only [State.captureLaw, Bool.and_eq_true, Bool.or_eq_true, decide_eq_true_eq, List.all_eq_true, Option.isNone_iff_eq_none]
  constructor
  · rintro ⟨⟨⟨given, faulted⟩, oneOffs⟩, buffers⟩
    exact ⟨⟨faulted, oneOffs, fun i => buffers i (mem_allStreams i)⟩, given⟩
  · rintro ⟨⟨faulted, oneOffs, buffers⟩, given⟩
    exact ⟨⟨⟨given, faulted⟩, oneOffs⟩, fun i _ => buffers i⟩

@[simp] theorem Capture.stream_withConverter (c : Capture) (v : Converter) (i : StreamId) :
    ({ c with converter := v } : Capture).stream i = c.stream i := by cases i <;> rfl

theorem Capture.Ordered.withConverter {c : Capture} (h : c.Ordered) (v : Converter) : ({ c with converter := v } : Capture).Ordered :=
  ⟨h.faulted, h.oneOffs, fun i => by rw [Capture.stream_withConverter]; exact h.buffers i⟩

/-- A stream rewritten within its buffer laws. -/
theorem Capture.Ordered.setStream {c : Capture} (h : c.Ordered) {i : StreamId} {x : Stream} (k : x.bufferLaw = true) :
    (c.setStream i x).Ordered where
  faulted := by simpa using h.faulted
  oneOffs := by simpa using h.oneOffs
  buffers := fun j => by
    by_cases e : j = i
    · subst e; simpa using k
    · rw [Capture.stream_setStream_other c e]; exact h.buffers j

theorem Capture.stream_congr {c d : Capture} (h : d.s0 = c.s0 ∧ d.s1 = c.s1 ∧ d.s2 = c.s2 ∧ d.s3 = c.s3) (i : StreamId) :
    d.stream i = c.stream i := by
  obtain ⟨h0, h1, h2, h3⟩ := h
  cases i
  · exact h0
  · exact h1
  · exact h2
  · exact h3

theorem Capture.nextFull_congr {c d : Capture} (h : ∀ i, (d.stream i).fulls = (c.stream i).fulls) (n : c.nextFull = none) :
    d.nextFull = none := by
  rw [Capture.nextFull_eq_none] at n ⊢
  have h0 : d.s0.fulls = c.s0.fulls := h .s0
  have h1 : d.s1.fulls = c.s1.fulls := h .s1
  have h2 : d.s2.fulls = c.s2.fulls := h .s2
  have h3 : d.s3.fulls = c.s3.fulls := h .s3
  simp only [Capture.fulls, h0, h1, h2, h3]
  exact n

theorem Capture.Ordered.release {c : Capture} (h : c.Ordered) (i : StreamId) (inB : Bool) : (c.release i inB).Ordered :=
  h.setStream (Stream.release_law (h.buffers i) inB _)

/-- A page passed over: one FULL page less, the block ordered as before. -/
theorem Capture.passOver_fulls {c : Capture} {i : StreamId} {inB : Bool} (h : ((c.stream i).buffer inB).state = .full) :
    ((c.setStream i ((c.stream i).handOver inB)).release i inB).fulls + 1 = c.fulls := by
  have passed := Stream.passOver_fulls h ((c.setStream i ((c.stream i).handOver inB)).heldByOther i)
  have first := c.fulls_setStream i ((c.stream i).handOver inB)
  have second := (c.setStream i ((c.stream i).handOver inB)).fulls_setStream i
    (((c.stream i).handOver inB).release inB ((c.setStream i ((c.stream i).handOver inB)).heldByOther i))
  unfold Capture.release
  simp only [Capture.stream_setStream_same] at second ⊢
  omega

/-- The hand-over keeps the block ordered, and its fuel covers the FULL pages there are (R69, R78). -/
theorem handOverPages_law : ∀ (fuel : Nat) (c : Capture) (e : Eval), c.Ordered → c.fulls < fuel →
    (handOverPages fuel (c, e)).1.Ordered ∧ HandedOver (handOverPages fuel (c, e)).1 (handOverPages fuel (c, e)).2
  | 0, _, _, _, n => absurd n (Nat.not_lt_zero _)
  | fuel + 1, c, e, h, n => by
    unfold handOverPages
    split
    · rename_i held; exact ⟨h, Or.inl held⟩
    · split
      · rename_i none; exact ⟨h, Or.inr none⟩
      · rename_i i inB next
        have kept : (c.setStream i ((c.stream i).handOver inB)).Ordered := h.setStream (Stream.handOver_law (h.buffers i) inB)
        dsimp only
        split
        · exact ⟨kept, Or.inl rfl⟩
        · have fewer := Capture.passOver_fulls (Capture.nextFull_state next)
          exact handOverPages_law fuel _ e (kept.release i inB) (by omega)

theorem handOver_law {c : Capture} (h : c.Ordered) (e : Eval) :
    (handOver (c, e)).1.Ordered ∧ HandedOver (handOver (c, e)).1 (handOver (c, e)).2 :=
  handOverPages_law 9 c e h (Nat.lt_succ_of_le c.fulls_le)

/-- The hand-over touches no stream's RUNNING item. -/
theorem Stream.takeBuffer_running (x : Stream) (held : Bool) : (x.takeBuffer held).running = x.running := by
  unfold Stream.takeBuffer
  split
  · rfl
  · split <;> rfl

theorem Stream.release_running (x : Stream) (inB held : Bool) : (x.release inB held).running = x.running := by
  unfold Stream.release
  dsimp only
  split
  · rw [Stream.takeBuffer_running]; cases inB <;> rfl
  · cases inB <;> rfl

theorem Capture.running_setStream {c : Capture} {i : StreamId} {x : Stream} (h : x.running = (c.stream i).running) (j : StreamId) :
    ((c.setStream i x).stream j).running = (c.stream j).running := by
  by_cases e : j = i
  · subst e; simpa using h
  · rw [Capture.stream_setStream_other c e]

theorem handOverPages_running : ∀ (fuel : Nat) (c : Capture) (e : Eval) (j : StreamId),
    ((handOverPages fuel (c, e)).1.stream j).running = (c.stream j).running
  | 0, _, _, _ => rfl
  | fuel + 1, c, e, j => by
    unfold handOverPages
    split
    · rfl
    · split
      · rfl
      · rename_i i inB next
        have first : (((c.setStream i ((c.stream i).handOver inB))).stream j).running = (c.stream j).running :=
          Capture.running_setStream (by cases inB <;> rfl) j
        dsimp only
        split
        · exact first
        · rw [handOverPages_running fuel _ e j, Capture.release, Capture.running_setStream (Stream.release_running _ _ _) j, first]

/-- After a stop the stream does not run, and the block's laws hold as before (R60). -/
theorem stopStream_law {c : Capture} {e : Eval} (h : c.Ordered) (g : HandedOver c e) (i : StreamId) :
    (stopStream i (c, e)).1.Ordered ∧ HandedOver (stopStream i (c, e)).1 (stopStream i (c, e)).2 ∧
    ((stopStream i (c, e)).1.stream i).running = false := by
  unfold stopStream
  dsimp only
  split
  · have ordered := (h.setStream (i := i) (Stream.stop_law (c.stream i))).withConverter (c.converter.discardOf i)
    obtain ⟨o, g'⟩ := handOver_law ordered e
    refine ⟨o, g', ?_⟩
    rw [handOver, handOverPages_running, Capture.stream_withConverter, Capture.stream_setStream_same]
    rfl
  · rename_i r; exact ⟨h, g, by simpa using r⟩

theorem Stream.configure_fulls (x : Stream) (k : StreamConfig) (held : Bool) : (x.configure k held).fulls = x.fulls := by
  unfold Stream.configure
  dsimp only
  split
  · rfl
  · split
    · rw [Stream.takeBuffer_fulls]; rfl
    · rfl

/-- A stream rewritten with as many FULL buffers leaves the hand-over as it is. -/
theorem HandedOver.setStream {c : Capture} {e : Eval} (g : HandedOver c e) {i : StreamId} {x : Stream}
    (h : x.fulls = (c.stream i).fulls) : HandedOver (c.setStream i x) e :=
  g.imp id (Capture.nextFull_congr fun j => by
    by_cases eq : j = i
    · subst eq; simpa using h
    · rw [Capture.stream_setStream_other c eq])

theorem writeStreamOn_law {c : Capture} {e : Eval} (h : c.Ordered) (g : HandedOver c e) (i : StreamId) (k : StreamConfig) :
    (writeStreamOn i k (c, e)).1.Ordered ∧ HandedOver (writeStreamOn i k (c, e)).1 (writeStreamOn i k (c, e)).2 := by
  obtain ⟨o, g', r⟩ := stopStream_law h g i
  exact ⟨o.setStream (Stream.configure_law (o.buffers i) r k _), g'.setStream (Stream.configure_fulls _ _ _)⟩

/-- A change of the capture chain within its laws. -/
theorem setChain_lawful (s : State) {ce : Capture × Eval}
    (h : s.capture.Ordered → HandedOver s.capture s.eval → ce.1.Ordered ∧ HandedOver ce.1 ce.2) : Lawful s (s.setChain ce) :=
  (setChain_within s ce).lawful (outer := by simp) (table := by simp) (jobs := by simp) (archive := by simp) (prompts := by simp) (chain := fun _ => by
    rw [State.captureLaw_iff, State.captureLaw_iff]
    exact fun k => h k.1 k.2)

theorem setCapture_lawful (s : State) {c : Capture} (h : s.capture.Ordered → c.Ordered)
    (f : ∀ i, (c.stream i).fulls = (s.capture.stream i).fulls) : Lawful s (s.setCapture c) :=
  (Within.setCapture s c).lawful (outer := by simp) (table := by simp) (jobs := by simp) (archive := by simp) (prompts := by simp) (chain := fun _ => by
    rw [State.captureLaw_iff, State.captureLaw_iff]
    exact fun k => ⟨h k.1, k.2.imp id (Capture.nextFull_congr f)⟩)

theorem writeStream_lawful (i : StreamId) (k : StreamConfig) (s : State) : Lawful s (writeStream i k s) :=
  setChain_lawful s fun h g => writeStreamOn_law h g i k

/-- A change of the capture block that leaves its streams. -/
theorem setCapture_streams_lawful (s : State) {c : Capture}
    (streams : c.s0 = s.capture.s0 ∧ c.s1 = s.capture.s1 ∧ c.s2 = s.capture.s2 ∧ c.s3 = s.capture.s3)
    (faulted : s.capture.faulted.Pairwise (· < ·) → c.faulted.Pairwise (· < ·))
    (oneOffs : s.capture.oneOffs.Pairwise (· < ·) → c.oneOffs.Pairwise (· < ·)) : Lawful s (s.setCapture c) :=
  setCapture_lawful s
    (fun h => ⟨faulted h.faulted, oneOffs h.oneOffs, fun i => by rw [Capture.stream_congr streams]; exact h.buffers i⟩)
    (fun i => by rw [Capture.stream_congr streams])

theorem setGate_lawful (b : Bool) (s : State) : Lawful s (setGate b s) := setCapture_streams_lawful s ⟨rfl, rfl, rfl, rfl⟩ id id

/-! ### Sets in rising order (R71, R72) -/

theorem insertNat_rising {n : Nat} {l : List Nat} (h : l.Pairwise (· < ·)) (m : n ∉ l) : (insertNat n l).Pairwise (· < ·) := by
  have mem : ∀ {l : List Nat} {x : Nat}, x ∈ insertNat n l → x = n ∨ x ∈ l := by
    intro l x
    induction l with
    | nil => simp [insertNat]
    | cons y ys ih =>
      unfold insertNat
      split
      · simp
      · simp only [List.mem_cons]
        rintro (rfl | e)
        · exact Or.inr (Or.inl rfl)
        · exact (ih e).imp id Or.inr
  induction l with
  | nil => simp [insertNat]
  | cons y ys ih =>
    obtain ⟨above, rest⟩ := List.pairwise_cons.mp h
    simp only [List.mem_cons, not_or] at m
    unfold insertNat
    split
    · rename_i le
      refine List.pairwise_cons.mpr ⟨fun x hx => ?_, h⟩
      rcases List.mem_cons.mp hx with rfl | hx
      · omega
      · exact Nat.lt_of_le_of_lt le (above x hx)
    · refine List.pairwise_cons.mpr ⟨fun x hx => ?_, ih rest m.2⟩
      rcases mem hx with rfl | hx
      · omega
      · exact above x hx

theorem addNat_rising (n : Nat) {l : List Nat} (h : l.Pairwise (· < ·)) : (addNat n l).Pairwise (· < ·) := by
  unfold addNat
  split
  · exact h
  · rename_i m; exact insertNat_rising h (by simpa using m)

theorem Capture.abortKey_lawful (s : State) : Lawful s (s.setCapture s.capture.abortKey) := by
  refine setCapture_streams_lawful s ⟨rfl, rfl, rfl, rfl⟩ id fun h => ?_
  have go : ∀ (ns l : List Nat), l.Pairwise (· < ·) →
      (ns.foldl (fun d n => if s.capture.converter = .oneOff n then d else addNat n d) l).Pairwise (· < ·) := by
    intro ns
    induction ns with
    | nil => exact fun _ h => h
    | cons n ns ih =>
      intro l h
      rw [List.foldl_cons]
      split
      · exact ih _ h
      · exact ih _ (addNat_rising n h)
  exact go _ _ h

theorem Capture.fault_lawful (n : Nat) (s : State) : Lawful s (s.setCapture (s.capture.fault n)) :=
  setCapture_streams_lawful s ⟨rfl, rfl, rfl, rfl⟩ (addNat_rising n) id

/-! ### Requests and the converter (R61, R63, R64) -/

theorem Capture.pace_lawful (t : PacingTimer) (s : State) : Lawful s (s.setCapture (s.capture.pace t)) := by
  have same (i : StreamId) : (s.capture.requested t i).bufferLaw = (s.capture.stream i).bufferLaw ∧
      (s.capture.requested t i).fulls = (s.capture.stream i).fulls := by
    unfold Capture.requested
    dsimp only
    split <;> exact ⟨rfl, rfl⟩
  have stream (i : StreamId) : (s.capture.pace t).stream i = s.capture.requested t i := by cases i <;> rfl
  refine setCapture_lawful s (fun h => ⟨h.faulted, h.oneOffs, fun i => ?_⟩) fun i => ?_
  · rw [stream, (same i).1]; exact h.buffers i
  · rw [stream, (same i).2]

theorem Capture.start_lawful (l r : Nat) (s : State) : Lawful s (s.setCapture (s.capture.start l r)) := by
  unfold Capture.start
  split
  · rename_i n ns e
    exact setCapture_streams_lawful s ⟨rfl, rfl, rfl, rfl⟩ id fun h => by rw [e] at h; exact (List.pairwise_cons.mp h).2
  · split
    · exact setCapture_streams_lawful s ⟨rfl, rfl, rfl, rfl⟩ id id
    · rename_i i _
      have taken (h : s.capture.Ordered) :
          (s.capture.setStream i { s.capture.stream i with requests := (s.capture.stream i).requests - 1 }).Ordered :=
        h.setStream (h.buffers i)
      refine setCapture_lawful s (fun h => (taken h).withConverter _) fun j => ?_
      rw [Capture.stream_withConverter]
      by_cases e : j = i
      · subst e; simp [Stream.fulls]
      · rw [Capture.stream_setStream_other _ e]

theorem Stream.complete_law {x : Stream} {inB : Bool} (h : x.bufferLaw = true) (f : (x.buffer inB).state = .filling) :
    (x.complete inB).bufferLaw = true := by
  obtain ⟨two, fills, waits⟩ := Stream.bufferLaw_iff.mp h
  unfold Stream.complete
  cases inB
  · have run := fills (Or.inl f)
    have other := two f
    dsimp only
    split <;> simp [Stream.bufferLaw_iff, Stream.setBuffer, Buffer.fresh, Buffer.closed, run, other]
  · have run := fills (Or.inr f)
    have other : x.bufA.state ≠ .filling := fun a => two a f
    dsimp only
    split <;> simp [Stream.bufferLaw_iff, Stream.setBuffer, Buffer.fresh, Buffer.closed, run, other]

theorem Stream.addRow_law {x : Stream} {inB : Bool} (h : x.bufferLaw = true) (f : (x.buffer inB).state = .filling) (r : Row) :
    (x.addRow inB r).bufferLaw = true := by
  have grown : (x.setBuffer inB { x.buffer inB with rows := (x.buffer inB).rows ++ [r] }).bufferLaw = true := by
    cases inB <;> exact h
  unfold Stream.addRow
  dsimp only
  split
  · exact Stream.complete_law grown (by cases inB <;> exact f)
  · exact grown

theorem Stream.enter_law {x : Stream} (h : x.bufferLaw = true) (r : Row) : (x.enter r).bufferLaw = true := by
  unfold Stream.enter
  split
  · exact h
  · split
    · rename_i a; exact Stream.addRow_law (inB := false) h a r
    · split
      · rename_i b; exact Stream.addRow_law (inB := true) h b r
      · exact h

theorem completeRow_law {c : Capture} {e : Eval} (h : c.Ordered) (g : HandedOver c e) (raws : List Nat) :
    (completeRow raws (c, e)).1.Ordered ∧ HandedOver (completeRow raws (c, e)).1 (completeRow raws (c, e)).2 := by
  unfold completeRow
  dsimp only
  split
  · rename_i i run columns stampL stampR rails discard _
    refine handOver_law ?_ e
    have entered : ∀ y : Stream, y.bufferLaw = true → ∀ row : Row, (if discard = true then y else y.enter row).bufferLaw = true := by
      intro y hy row
      split
      · exact hy
      · exact Stream.enter_law hy row
    have kept := h.setStream (i := i) (entered
      (if (c.stream i).runNumber = run
        then { c.stream i with rails := (checkRails columns rails (columns.mapIdx fun k _ => raws.getD k 0)).1 } else c.stream i)
      (by split <;> exact h.buffers i) ⟨stampL, stampR, columns.mapIdx fun k _ => raws.getD k 0⟩)
    have idle := kept.withConverter .idle
    exact ⟨idle.faulted, idle.oneOffs, fun j => by rw [Capture.stream_congr ⟨rfl, rfl, rfl, rfl⟩]; exact idle.buffers j⟩
  · exact ⟨h, g⟩
  · exact ⟨h, g⟩

theorem takeRow_lawful (raws : List Raw) (s : State) : Lawful s (takeRow raws s) :=
  setChain_lawful s fun h g => completeRow_law h g _

/-! ### The evaluation unit's slot (R76, R77) -/

theorem Eval.beginZero_slot (e : Eval) (c : Capture) : (e.beginZero c).slot = e.slot := by
  unfold Eval.beginZero; split <;> rfl

theorem Eval.beginTest_slot (e : Eval) (c : Capture) (t : TestSetup) : (e.beginTest c t).slot = e.slot := by
  unfold Eval.beginTest; split <;> rfl

theorem Eval.endTest_slot (e : Eval) : (e.endTest).slot = e.slot := by
  unfold Eval.endTest; split <;> rfl

theorem Eval.requestRecord_slot (e : Eval) : (e.requestRecord).slot = e.slot := by
  unfold Eval.requestRecord; split <;> rfl

theorem Eval.discardTest_slot (e : Eval) : (e.discardTest).slot = e.slot := by
  unfold Eval.discardTest; split <;> rfl

theorem Eval.beginCrossing_slot (e : Eval) (c : Capture) : (e.beginCrossing c).slot = e.slot := by
  unfold Eval.beginCrossing; split <;> rfl

theorem Eval.endCrossing_slot (e : Eval) : (e.endCrossing).slot = e.slot := by
  unfold Eval.endCrossing; split <;> rfl

theorem Eval.discardCrossing_slot (e : Eval) : (e.discardCrossing).slot = e.slot := by
  unfold Eval.discardCrossing; split <;> rfl

theorem drain_slot (c : Capture) (e : Eval) : (drain c e).1.slot = e.slot := by
  unfold drain
  split
  · split
    · dsimp only; split <;> rfl
    · rfl
  · split
    · dsimp only; split <;> rfl
    · rfl
  · rfl

theorem Eval.takePage_slot (e : Eval) (k : Calibration) (p : Page) : (e.takePage k p).1.slot = e.slot := by
  unfold Eval.takePage; split <;> rfl

theorem evalBeginWeigh_lawful (s : State) : Lawful s (evalBeginWeigh s) := setEval_lawful s (by rfl)

theorem evalBeginZero_lawful (s : State) : Lawful s (evalBeginZero s) := setEval_lawful s (s.eval.beginZero_slot _)

theorem evalBeginTest_lawful (t : TestSetup) (s : State) : Lawful s (evalBeginTest t s) := setEval_lawful s (s.eval.beginTest_slot _ t)

theorem evalEndTest_lawful (s : State) : Lawful s (evalEndTest s) := setEval_lawful s s.eval.endTest_slot

theorem evalDiscardTest_lawful (s : State) : Lawful s (evalDiscardTest s) := setEval_lawful s s.eval.discardTest_slot

theorem evalDiscardAxle_lawful (s : State) : Lawful s (evalDiscardAxle s) := setEval_lawful s (by rfl)

theorem evalBeginCrossing_lawful (s : State) : Lawful s (evalBeginCrossing s) := setEval_lawful s (s.eval.beginCrossing_slot _)

theorem evalDiscardCrossing_lawful (s : State) : Lawful s (evalDiscardCrossing s) := setEval_lawful s s.eval.discardCrossing_slot

theorem evalRequestRecord_lawful (s : State) : Lawful s (evalRequestRecord s).1 :=
  setEval_lawful s ((drain_slot _ _).trans s.eval.requestRecord_slot)

theorem evalEndCrossing_lawful (s : State) : Lawful s (evalEndCrossing s).1 :=
  setEval_lawful s ((drain_slot _ _).trans s.eval.endCrossing_slot)

theorem evalWindow_lawful (w : WindowSample) (s : State) : Lawful s (evalWindow w s) :=
  Lawful.ite (setEval_lawful s (by rfl)) (Lawful.refl s)

theorem completeEvaluation_law {c : Capture} {e : Eval} (h : c.Ordered) (g : HandedOver c e) :
    (completeEvaluation (c, e)).1.1.Ordered ∧ HandedOver (completeEvaluation (c, e)).1.1 (completeEvaluation (c, e)).1.2 := by
  unfold completeEvaluation
  dsimp only
  split
  · exact ⟨h, g⟩
  · rename_i p _
    have given := fun e' : Eval => handOver_law (h.release p.stream p.inB) e'
    split
    · exact given _
    · refine ⟨(given _).1, ?_⟩
      simpa only [HandedOver, drain_slot] using (given _).2

end Sys2Proof.Machine
end

section
/-! The laws of the vehicle table, the print job queue and the archive (R1, R147, R163, R164, R166): what the operations keep. -/

namespace Sys2Proof.Machine

/-! ### The print job queue (R147) -/

theorem State.jobLaw_iff {s : State} :
    s.jobLaw = true ↔ s.cert.jobs.length ≤ Config.jobQueueSize ∧ ∀ j ∈ s.cert.jobs.tail, j.state = .queued := by
  simp [State.jobLaw]

/-- A change of the print jobs that keeps their laws. -/
theorem setJobs_lawful (s : State) {x : Cert}
    (h : s.cert.jobs.length ≤ Config.jobQueueSize → (∀ j ∈ s.cert.jobs.tail, j.state = .queued) →
      x.jobs.length ≤ Config.jobQueueSize ∧ ∀ j ∈ x.jobs.tail, j.state = .queued) : Lawful s (s.setCert x) :=
  setCert_lawful s (by
    rw [State.jobLaw_iff, State.jobLaw_iff]
    exact fun k => h k.1 k.2)

theorem addJob_lawful (sub : Subject) (r : Nat) {s : State} (room : s.cert.jobs.length < Config.jobQueueSize) :
    Lawful s (addJob sub r s) := by
  refine setJobs_lawful s fun _ queued => ⟨by simpa using room, fun j hj => ?_⟩
  cases e : s.cert.jobs with
  | nil => simp [e] at hj
  | cons x xs =>
    simp only [e, List.cons_append, List.tail_cons, List.mem_append, List.mem_singleton] at hj
    rcases hj with hj | rfl
    · exact queued j (by simpa [e] using hj)
    · rfl

theorem recheckTicket_lawful (t : Nat) (s : State) : Lawful s (recheckTicket t s) := by
  unfold recheckTicket
  split
  · refine Lawful.ite ?_ (setCert_jobs_lawful s (by rfl))
    split
    · rename_i wants
      exact addJob_lawful _ _ (by simp [State.wantsJob] at wants; exact wants.2)
    · exact Lawful.refl s
  · exact setCert_jobs_lawful s (by rfl)

theorem recheck_lawful (s : State) : Lawful s (recheck s) :=
  Lawful.ite (Lawful.foldl (fun s t => recheckTicket_lawful t s) _ s) (Lawful.refl s)

theorem answer_lawful (r : Nat) (sub : Subject) (o : AnswerOutcome) (s : State) : Lawful s (answer r sub o s) :=
  Lawful.ite (Lawful.refl s) (queueFrame_lawful _ s)

theorem certChange_lawful {f : State → State} {s : State} (h : Lawful s (f s)) : Lawful s (certChange f s) := by
  unfold certChange
  dsimp only
  split
  · exact h
  · exact (recheck_lawful _).after ((requestPresence_lawful _).after h)

theorem dropHead_lawful (s : State) : Lawful s (dropHead s) := by
  refine (recheck_lawful _).after (certChange_lawful (setJobs_lawful s fun size queued => ⟨?_, fun j hj => ?_⟩))
  · exact Nat.le_trans (by simp) size
  · exact queued j (List.mem_of_mem_tail hj)

theorem refuseHead_lawful (r : Nat) (sub : Subject) (o : AnswerOutcome) (s : State) : Lawful s (refuseHead r sub o s) :=
  (dropHead_lawful _).after (answer_lawful r sub o s)

theorem failJob_lawful (s : State) : Lawful s (failJob s) := by
  unfold failJob
  split
  · exact (dropHead_lawful _).after ((answer_lawful _ _ _ _).after (setCert_jobs_lawful s (by rfl)))
  · exact Lawful.refl s

theorem certTicketComplete_lawful (t : Nat) (s : State) : Lawful s (certTicketComplete t s) :=
  Lawful.ite ((recheck_lawful _).after (setCert_jobs_lawful s (by rfl))) (Lawful.refl s)

/-- Jobs taken out of the queue leave no more jobs, and none behind the head that was not behind it. -/
theorem tail_filter_subset (p : Job → Bool) (l : List Job) {j : Job} (h : j ∈ (l.filter p).tail) : j ∈ l.tail := by
  cases l with
  | nil => simp at h
  | cons x xs =>
    rw [List.filter_cons] at h
    split at h
    · exact List.mem_of_mem_filter h
    · exact List.mem_of_mem_filter (List.mem_of_mem_tail h)

theorem removeQueued_lawful (p : Job → Bool) (s : State) : Lawful s (removeQueued p s) := by
  refine (Lawful.foldl (fun s j => answer_lawful _ _ _ s) _ _).after (setJobs_lawful s fun size queued => ⟨?_, fun j hj => ?_⟩)
  · exact Nat.le_trans (List.length_filter_le _ _) size
  · exact queued j (tail_filter_subset _ _ hj)

theorem certTicketGone_lawful (t : Nat) (s : State) : Lawful s (certTicketGone t s) := by
  refine Lawful.ite (Lawful.after ?_ (removeQueued_lawful (fun j => j.subject == .ticket t) s)) (Lawful.refl s)
  exact setCert_jobs_lawful _ (by rfl)

theorem certLaneClear_lawful (s : State) : Lawful s (certLaneClear s) := by
  refine Lawful.ite (Lawful.after ?_ (removeQueued_lawful (fun _ => true) s)) (Lawful.refl s)
  exact setCert_jobs_lawful _ (by rfl)

/-- Jobs rewritten one by one, each in its state, keep the queue's laws. -/
theorem mapJobs_lawful (s : State) {x : Cert} (f : Job → Job) (h : x.jobs = s.cert.jobs.map f) (k : ∀ j, (f j).state = j.state) :
    Lawful s (s.setCert x) := by
  refine setJobs_lawful s fun size queued => ?_
  rw [h]
  refine ⟨by simpa using size, fun j hj => ?_⟩
  rw [← List.map_tail] at hj
  obtain ⟨i, hi, rfl⟩ := List.mem_map.mp hj
  rw [k, queued i hi]

theorem certRequest_lawful (r t : Nat) (s : State) : Lawful s (certRequest r t s) := by
  unfold certRequest
  refine Lawful.ite (Lawful.refl s) (Lawful.ite (answer_lawful _ _ _ s) (Lawful.ite (answer_lawful _ _ _ s) ?_))
  refine Lawful.ite (mapJobs_lawful s _ rfl fun j => by split <;> rfl) ?_
  split
  · exact answer_lawful _ _ _ s
  · rename_i room; exact addJob_lawful _ _ (Nat.not_le.mp room)

theorem reprintRequest_lawful (r : Nat) (n : CertNo) (s : State) : Lawful s (reprintRequest r n s) := by
  unfold reprintRequest
  refine Lawful.ite (Lawful.refl s) ?_
  dsimp only
  split
  · exact answer_lawful _ _ _ s
  · refine Lawful.ite (answer_lawful _ _ _ s) ?_
    split
    · exact answer_lawful _ _ _ s
    · rename_i room; exact addJob_lawful _ _ (Nat.not_le.mp room)

/-- The head job's state may be any. -/
theorem setHeadState_lawful (s : State) {x : Cert} (st : JobState) (h : x.jobs = s.cert.jobs) :
    Lawful s (s.setCert (x.setHeadState st)) := by
  refine setJobs_lawful s fun size queued => ?_
  unfold Cert.setHeadState
  cases e : s.cert.jobs with
  | nil => simp [h, e]
  | cons j js =>
    rw [e] at size queued
    simp only [h, e]
    exact ⟨size, queued⟩

/-! ### The vehicle table (R1) -/

theorem State.tableLaw_iff {s : State} : s.tableLaw = true ↔
    s.lane.entries.length ≤ Config.tableSize ∧ (s.lane.entries.map (·.ticket)).Nodup ∧ ∀ e ∈ s.lane.entries, e.ticket ≠ 0 := by
  simp [State.tableLaw, and_assoc]

/-- A table with the same tickets in the same places. -/
theorem sameTickets_lawful (s : State) {x : LaneView} (h : x.entries.map (·.ticket) = s.lane.entries.map (·.ticket)) :
    Lawful s (s.setLane x) := by
  refine setLane_lawful s ?_
  rw [State.tableLaw_iff, State.tableLaw_iff]
  rintro ⟨size, nodup, named⟩
  have len : x.entries.length = s.lane.entries.length := by simpa using congrArg List.length h
  refine ⟨len ▸ size, (congrArg List.Nodup h).mpr nodup, fun e he => ?_⟩
  have mem : e.ticket ∈ s.lane.entries.map (·.ticket) := h ▸ List.mem_map_of_mem he
  obtain ⟨d, hd, eq⟩ := List.mem_map.mp mem
  exact eq ▸ named d hd

/-- A rewrite of a ticket's entries that leaves their ticket keeps every ticket in its place. -/
theorem LaneView.update_tickets (v : LaneView) (t : Nat) {f : Entry → Entry} (h : ∀ e, e.ticket = t → (f e).ticket = t) :
    (v.update t f).entries.map (·.ticket) = v.entries.map (·.ticket) := by
  simp only [LaneView.update, List.map_map]
  refine List.map_congr_left fun e _ => ?_
  simp only [Function.comp]
  split
  · rename_i eq; rw [h e eq, eq]
  · rfl

theorem LaneView.find_ticket {v : LaneView} {t : Nat} {e : Entry} (h : v.find t = some e) : e.ticket = t := by
  unfold LaneView.find at h
  split at h
  · cases h
  · simpa using List.find?_some h

theorem Entry.tested_ticket (e : Entry) (slip : Bool) : (e.tested slip).ticket = e.ticket := by
  unfold Entry.tested; split <;> rfl

theorem Entry.computed_ticket (e : Entry) (slip : Bool) : (e.computed slip).ticket = e.ticket := by
  unfold Entry.computed; dsimp only; split <;> rfl

theorem Entry.recomputed_ticket (e : Entry) (slip : Bool) (r : AxleResult) : (e.recomputed slip r).ticket = e.ticket := by
  unfold Entry.recomputed
  split
  · split <;> rfl
  · exact e.computed_ticket slip

theorem Entry.axleEvent_ticket (e : Entry) (axle : Nat) (ev : AxleEventKind) (role : MeasuringRole) :
    (e.axleEvent axle ev role).ticket = e.ticket := by
  unfold Entry.axleEvent
  dsimp only
  split <;> split <;> rfl

theorem storeTested_lawful {t : Nat} {e : Entry} (h : e.ticket = t) (s : State) : Lawful s (storeTested t e s) := by
  have stored : Lawful s (s.setLane (s.lane.update t fun _ => e.tested s.slipRequired)) :=
    sameTickets_lawful s (s.lane.update_tickets t fun _ _ => (e.tested_ticket _).trans h)
  unfold storeTested
  exact Lawful.ite ((certTicketComplete_lawful t _).after stored) stored

theorem LaneView.live_ticket {v : LaneView} {t a : Nat} {e : Entry} (h : v.live t a = some e) : e.ticket = t := by
  unfold LaneView.live at h
  split at h
  · rename_i found
    split at h
    · cases h; exact LaneView.find_ticket found
    · cases h
  · cases h

theorem takeResult_lawful (t a : Nat) (r : AxleResult) (s : State) : Lawful s (takeResult t a r s) := by
  unfold takeResult
  split
  · rename_i e found
    have ticket : e.ticket = t := LaneView.live_ticket found
    exact storeTested_lawful ((Entry.recomputed_ticket (e.write a r) _ _).trans ticket) s
  · exact Lawful.refl s

theorem retestAll_lawful (s : State) : Lawful s (retestAll s) := by
  refine Lawful.foldl (fun s t => ?_) _ s
  unfold retestEntry
  split
  · rename_i found; exact storeTested_lawful (LaneView.find_ticket found) s
  · exact Lawful.refl s

theorem ticketDropped_lawful (t : Nat) (s : State) : Lawful s (ticketDropped t s) :=
  (guidanceTicketGone_lawful t _).after (certTicketGone_lawful t s)

theorem laneAxleEvent_lawful (t a : Nat) (ev : AxleEventKind) (role : MeasuringRole) (s : State) :
    Lawful s (s.setLane (s.lane.axleEvent t a ev role)) := by
  refine sameTickets_lawful s ?_
  unfold LaneView.axleEvent
  split
  · exact s.lane.update_tickets t fun e h => (e.axleEvent_ticket _ _ _).trans h
  · rfl

theorem localAxleEvent_lawful (a : FixedAxle) (ev : AxleEventKind) (role : MeasuringRole) (s : State) :
    Lawful s (localAxleEvent a ev role s) := (laneAxleEvent_lawful _ _ _ _ _).after (queueFrame_lawful _ s)

theorem closeLocal_lawful (t : Nat) (n : CertNo) (v : Verdict) (s : State) : Lawful s (s.setLane (s.lane.closeLocal t n v)) := by
  refine sameTickets_lawful s ?_
  unfold LaneView.closeLocal
  split
  · split
    · rfl
    · exact s.lane.update_tickets t fun _ h => h
  · rfl

theorem closeHeard_lawful (t : Nat) (n : CertNo) (v : Verdict) (s : State) : Lawful s (s.setLane (s.lane.closeHeard t n v)) := by
  refine sameTickets_lawful s ?_
  unfold LaneView.closeHeard
  split
  · split
    · exact s.lane.update_tickets t fun _ h => h
    · rfl
  · rfl

theorem cancel_lawful (t : Nat) (s : State) : Lawful s (s.setLane (s.lane.cancel t)) :=
  sameTickets_lawful s (s.lane.update_tickets t fun _ h => h)

theorem clearLane_lawful (s : State) : Lawful s (clearLane s) := by
  have cleared : (s.setLane LaneView.reset).tableLaw = true := by rw [State.tableLaw_iff]; simp [LaneView.reset]
  unfold clearLane
  exact Lawful.after (Lawful.foldl (fun s t => ticketDropped_lawful t s) _ _) (setLane_lawful s fun _ => cleared)

/-! ### New entries (R1, R5, R7) -/

theorem insertByStamp_perm (e : Entry) (l : List Entry) : (insertByStamp e l).Perm (e :: l) := by
  induction l with
  | nil => exact List.Perm.refl _
  | cons x xs ih =>
    unfold insertByStamp
    split
    · exact List.Perm.refl _
    · exact (ih.cons x).trans (List.Perm.swap e x xs)

theorem byStamp_perm (l : List Entry) : (byStamp l).Perm l := by
  induction l with
  | nil => exact List.Perm.refl _
  | cons e es ih => exact (insertByStamp_perm e _).trans (ih.cons e)

/-- The renumbering leaves the tickets, in some order (R1). -/
theorem LaneView.renumbered_tickets (v : LaneView) : (v.renumbered.entries.map (·.ticket)).Perm (v.entries.map (·.ticket)) := by
  unfold LaneView.renumbered
  split
  · exact List.Perm.refl _
  · have same : ((byStamp v.entries).mapIdx fun i (e : Entry) => { e with stamp := i }).map Entry.ticket =
        (byStamp v.entries).map Entry.ticket := by
      apply List.ext_getElem <;> simp
    dsimp only
    rw [same]
    exact (byStamp_perm _).map _

/-- A ticket added to a table that has room and does not hold it (R1, R7). -/
theorem addEntry_tableLaw (s : State) {v : LaneView} {r : Registration} (size : v.entries.length < Config.tableSize)
    (nodup : (v.entries.map (·.ticket)).Nodup) (named : ∀ e ∈ v.entries, e.ticket ≠ 0) (new : r.ticket ∉ v.entries.map (·.ticket))
    (ticket : r.ticket ≠ 0) : (s.setLane (v.add r)).tableLaw = true := by
  have perm : ((v.add r).entries.map (·.ticket)).Perm (r.ticket :: v.entries.map (·.ticket)) := by
    unfold LaneView.add
    simp only [List.map_append]
    exact List.perm_append_comm.trans (v.renumbered_tickets.cons _)
  rw [State.tableLaw_iff]
  refine ⟨?_, perm.nodup_iff.mpr (List.nodup_cons.mpr ⟨new, nodup⟩), fun e he => ?_⟩
  · have len := perm.length_eq
    simp only [List.length_map, List.length_cons] at len
    simp only [State.setLane_fields, len]
    omega
  · rcases List.mem_cons.mp (perm.mem_iff.mp (List.mem_map_of_mem he)) with h | h
    · rw [h]; exact ticket
    · obtain ⟨d, hd, eq⟩ := List.mem_map.mp h
      exact eq ▸ named d hd

theorem LaneView.not_mem_of_find_none {v : LaneView} {t : Nat} (z : t ≠ 0) (h : v.find t = none) : t ∉ v.entries.map (·.ticket) := by
  rw [LaneView.find, if_neg z, List.find?_eq_none] at h
  intro m
  obtain ⟨e, he, rfl⟩ := List.mem_map.mp m
  exact h e he (by simp)

theorem oldest_mem {l : List Entry} {e : Entry} (h : oldest l = some e) : e ∈ l := by
  induction l generalizing e with
  | nil => cases h
  | cons x xs ih =>
    unfold oldest at h
    split at h
    · cases h; exact List.mem_cons_self
    · rename_i y rest
      split at h
      · cases h; exact List.mem_cons_of_mem _ (ih rest)
      · cases h; exact List.mem_cons_self

theorem LaneView.oldestIn_mem {v : LaneView} {st : EntryState} {e : Entry} (h : v.oldestIn st = some e) :
    e ∈ v.entries ∧ e.state = st := by
  have m := List.mem_filter.mp (oldest_mem h)
  exact ⟨m.1, by simpa using m.2⟩

/-- An entry that is discarded for a new one stands in the table (R7). -/
theorem LaneView.place_discard {v : LaneView} {old : Nat} (h : v.place = .discard old) : ∃ e ∈ v.entries, e.ticket = old := by
  unfold LaneView.place at h
  split at h
  · cases h
  · split at h
    · rename_i e found; cases h; exact ⟨e, (LaneView.oldestIn_mem found).1, rfl⟩
    · split at h
      · rename_i e found; cases h; exact ⟨e, (LaneView.oldestIn_mem found).1, rfl⟩
      · cases h

theorem makeEntry_lawful {r : Registration} {s : State} (ticket : r.ticket ≠ 0) (new : s.lane.find r.ticket = none) :
    Lawful s (makeEntry r s) := by
  have absent := LaneView.not_mem_of_find_none ticket new
  unfold makeEntry
  split
  · rename_i place
    have room : s.lane.entries.length < Config.tableSize := by
      unfold LaneView.place at place
      split at place
      · assumption
      · split at place
        · cases place
        · split at place <;> cases place
    refine (lowerIfRaised_lawful _ _).after (setLane_lawful s ?_)
    rw [State.tableLaw_iff]
    rintro ⟨-, nodup, named⟩
    exact addEntry_tableLaw s room nodup named absent ticket
  · rename_i old place
    refine (lowerIfRaised_lawful _ _).after ((ticketDropped_lawful _ _).after (setLane_lawful s ?_))
    rw [State.tableLaw_iff]
    rintro ⟨size, nodup, named⟩
    obtain ⟨e, he, eq⟩ := LaneView.place_discard place
    have sub : (s.lane.without old).entries.Sublist s.lane.entries := List.filter_sublist
    have fewer : (s.lane.without old).entries.length < s.lane.entries.length :=
      List.length_filter_lt_length_iff_exists.mpr ⟨e, he, by simp [eq]⟩
    exact addEntry_tableLaw s (by omega) (nodup.sublist (sub.map _)) (fun d hd => named d (sub.mem hd))
      (fun m => absent ((sub.map _).mem m)) ticket
  · exact raise_lawful _ _ s

theorem EntryFields.check_ticket {f : EntryFields} {r : Registration} (h : f.check = some r) : r.ticket ≠ 0 := by
  unfold EntryFields.check at h
  split at h
  · split at h
    · cases h
    · rename_i ok; cases h; simp at ok; exact ok.1.1.1
  · cases h

theorem registerVehicle_lawful (f : EntryFields) (s : State) : Lawful s (registerVehicle f s) := by
  unfold registerVehicle
  split
  · exact raiseWith_lawful _ _ _ _ s
  · rename_i r ok
    split
    · rename_i e found
      refine Lawful.ite (storeTested_lawful ?_ s) (Lawful.refl s)
      rw [Entry.computed_ticket]
      exact LaneView.find_ticket (e := e) found
    · rename_i new; exact makeEntry_lawful (EntryFields.check_ticket ok) new

/-! ### The archive (R163, R164, R166) -/

/-- The archive's laws. -/
structure Archive.Sound (a : Archive) : Prop where
  slots : a.storage.length = Config.slotCount
  rows : a.table.length = Config.slotCount
  pos : a.writePos < Config.slotCount
  requests : a.requests.length ≤ Config.requestListSize

theorem State.archiveLaw_iff {s : State} : s.archiveLaw = true ↔ s.archive.Sound := by
  simp only [State.archiveLaw, Bool.and_eq_true, decide_eq_true_eq]
  exact ⟨fun ⟨⟨⟨a, b⟩, c⟩, d⟩ => ⟨a, b, c, d⟩, fun ⟨a, b, c, d⟩ => ⟨⟨⟨a, b⟩, c⟩, d⟩⟩

theorem nextSlot_lt (slot : Nat) : nextSlot slot < Config.slotCount := Nat.mod_lt _ (by decide)

/-- The slot that a search ends at. -/
def Search.slot : Search → Nat
  | .write slot => slot
  | .erase slot _ _ => slot
  | .stop slot => slot

theorem Archive.search_lt (a : Archive) : ∀ (fuel slot : Nat) (entered : List Nat) (fresh : Bool), slot < Config.slotCount →
    (a.search fuel slot entered fresh).slot < Config.slotCount
  | 0, _, _, _, h => h
  | fuel + 1, slot, entered, fresh, h => by
    unfold Archive.search
    dsimp only
    split
    · exact h
    · split
      · exact h
      · split
        · exact h
        · exact a.search_lt fuel _ _ _ (nextSlot_lt slot)

theorem Archive.Sound.carryRecord {a : Archive} (h : a.Sound) (c : CertContent) (entered : List Nat) (fresh : Bool) :
    (a.carryRecord c entered fresh).1.Sound := by
  have lt := a.search_lt 40 a.writePos entered fresh h.pos
  unfold Archive.carryRecord
  split
  · exact ⟨h.slots, h.rows, nextSlot_lt _, h.requests⟩
  · rename_i e; rw [e] at lt; exact ⟨h.slots, h.rows, lt, h.requests⟩
  · rename_i e; rw [e] at lt; exact ⟨h.slots, h.rows, lt, h.requests⟩

theorem Archive.Sound.begin {a : Archive} (h : a.Sound) (r : ArchiveRequest) : (a.begin r).1.Sound := by
  cases r with
  | record c => exact h.carryRecord c [] true
  | mark n requester =>
    show (a.beginMark n requester).1.Sound
    unfold Archive.beginMark
    split
    · exact h
    · split
      · exact h
      · exact ⟨h.slots, h.rows, h.pos, h.requests⟩

theorem Archive.Sound.beginNext : ∀ {a : Archive} (_ : a.Sound) (rs : List ArchiveRequest), rs.length ≤ Config.requestListSize →
    (a.beginNext rs).1.Sound
  | a, h, [], _ => ⟨h.slots, h.rows, h.pos, Nat.zero_le _⟩
  | a, h, r :: rs, n => by
    have fewer : rs.length ≤ Config.requestListSize := Nat.le_of_succ_le n
    have begun := h.begin r
    unfold Archive.beginNext
    dsimp only
    split
    · exact begun.beginNext rs fewer
    · exact ⟨begun.slots, begun.rows, begun.pos, fewer⟩

theorem Archive.Sound.goOn {a : Archive} (h : a.Sound) : a.goOn.1.Sound :=
  Archive.Sound.beginNext (a := { a with op := .idle }) ⟨h.slots, h.rows, h.pos, h.requests⟩ a.requests h.requests

theorem Archive.Sound.submit {a : Archive} (h : a.Sound) (r : ArchiveRequest) : (a.submit r).1.Sound := by
  unfold Archive.submit
  split
  · exact h.begin r
  · split
    · rename_i room; exact ⟨h.slots, h.rows, h.pos, by simpa using room⟩
    · cases r <;> exact h

theorem Archive.Sound.eraseComplete {a : Archive} (h : a.Sound) (left : List Residue) : (a.eraseComplete left).1.Sound := by
  unfold Archive.eraseComplete
  split
  · rename_i block c entered _
    have carried := Archive.Sound.carryRecord
      (a := { a with
        storage := eraseSlots left block a.storage
        table := a.table.mapIdx fun i r =>
          if blockOf i = block then rowAfterErase ((eraseSlots left block a.storage).getD i SlotStore.blank) else r
        op := .idle })
      ⟨by simp [eraseSlots, h.slots], by simp [h.rows], h.pos, h.requests⟩ c entered false
    dsimp only
    split
    · exact carried.goOn
    · exact carried
  · exact h

theorem Archive.Sound.recordComplete {a : Archive} (h : a.Sound) (pass : Bool) (left : Residue) :
    (a.recordComplete pass left).1.Sound := by
  unfold Archive.recordComplete
  split
  · exact Archive.Sound.goOn ⟨by simp [Archive.setRow, Archive.setStore, h.slots], by simp [Archive.setRow, Archive.setStore, h.rows],
      h.pos, h.requests⟩
  · exact h

theorem Archive.Sound.markComplete {a : Archive} (h : a.Sound) (pass : Bool) : (a.markComplete pass).1.Sound := by
  unfold Archive.markComplete
  split
  · exact Archive.Sound.goOn ⟨by simp [Archive.setRow, Archive.setStore, h.slots], by simp [Archive.setRow, Archive.setStore, h.rows],
      h.pos, h.requests⟩
  · exact h

theorem Archive.Sound.scan {a : Archive} (h : a.Sound) : a.scan.Sound := by
  unfold Archive.scan
  dsimp only
  split
  · exact ⟨h.slots, by simp [h.slots], nextSlot_lt _, h.requests⟩
  · exact ⟨h.slots, by simp [h.slots], Nat.zero_lt_succ _, h.requests⟩

theorem Archive.cutShort_length (a : Archive) (left : List Residue) : (a.cutShort left).length = a.storage.length := by
  unfold Archive.cutShort
  split <;> simp [eraseSlots]

theorem setArchive_lawful (s : State) {a : Archive} (h : s.archive.Sound → a.Sound) : Lawful s (s.setArchive a) :=
  (Within.setArchive s a).lawful (outer := by simp) (table := by simp) (jobs := by simp) (prompts := by simp) (chain := by simp) (archive := fun _ => by rw [State.archiveLaw_iff, State.archiveLaw_iff]; exact h)

/-! ### Print jobs (R152 to R161) -/

theorem Cert.composeNext_jobs (u : Cert) : u.composeNext.jobs = u.jobs := by
  unfold Cert.composeNext
  split
  · rfl
  · simp only [apply_ite Cert.jobs, ite_self]

theorem tryHand_lawful (s : State) : Lawful s (tryHand s) := by
  unfold tryHand
  refine Lawful.ite (Lawful.refl s) ?_
  dsimp only
  split
  · exact Lawful.refl s
  · refine (setPins_lawful _ _).after (setCert_jobs_lawful s ?_)
    dsimp only
    split
    · exact Cert.composeNext_jobs _
    · rfl

theorem failPage_lawful (s : State) : Lawful s (failPage s) := (setTimers_lawful _ _).after (setHeadState_lawful s _ (by rfl))

theorem beginPage_lawful (page : List (List Byte)) (s : State) : Lawful s (beginPage page s) := by
  unfold beginPage
  exact Lawful.ite ((failPage_lawful _).after (setCert_jobs_lawful s (by rfl))) ((tryHand_lawful _).after (setCert_jobs_lawful s (by rfl)))

theorem endCertificate_lawful (t r : Nat) (c : CertContent) (s : State) : Lawful s (endCertificate t r c s) := by
  unfold endCertificate
  refine (dropHead_lawful _).after ((lower_lawful _ _).after ((setCert_jobs_lawful _ (by rfl)).after ((answer_lawful _ _ _ _).after ?_)))
  exact (setCert_jobs_lawful _ (by rfl)).after ((closeLocal_lawful _ _ _ _).after (queueFrame_lawful _ s))

theorem endReprint_lawful (n : CertNo) (r : Nat) (s : State) : Lawful s (endReprint n r s) :=
  (dropHead_lawful _).after ((lower_lawful _ _).after ((setCert_jobs_lawful _ (by rfl)).after (answer_lawful _ _ _ s)))

theorem takeReport_lawful (s : State) (r : ArchiveReport) : Lawful s (takeReport s r) := by
  have mark : Lawful s
      (match s.cert.jobs with
        | ⟨.certificate n, requester, _⟩ :: _ => if s.cert.awaitsMark then endReprint n requester s else s
        | _ => s) := by
    split
    · exact Lawful.ite (endReprint_lawful _ _ s) (Lawful.refl s)
    · exact Lawful.refl s
  cases r with
  | recordDone n pass => exact Lawful.ite (setCert_jobs_lawful s (by rfl)) (Lawful.refl s)
  | markDone pass => exact mark
  | markSkipped => exact mark

theorem archiveStep_lawful {r : Archive × List ArchiveReport} {s : State} (h : s.archive.Sound → r.1.Sound) :
    Lawful s (archiveStep r s) := (Lawful.foldl takeReport_lawful _ _).after (setArchive_lawful s h)

theorem finalPassed_lawful (s : State) : Lawful s (finalPassed s) := by
  unfold finalPassed
  split
  · exact endCertificate_lawful _ _ _ s
  · exact archiveStep_lawful fun h => h.submit _
  · exact Lawful.refl s

theorem pagePassed_lawful (s : State) : Lawful s (pagePassed s) := by
  unfold pagePassed
  have first : Lawful s (s.setCert { s.cert with current := .pass, output := [], lead := none }) := setCert_jobs_lawful s (by rfl)
  refine Lawful.ite ((finalPassed_lawful _).after first) ?_
  exact (certChange_lawful (beginPage_lawful _ _)).after ((setCert_jobs_lawful _ (by rfl)).after first)

theorem lineSent_lawful (s : State) : Lawful s (lineSent s) := by
  unfold lineSent
  split
  · exact Lawful.refl s
  · rename_i it _ _
    have sent : Lawful s (s.setCert { s.cert.markSent it with sending := none }) := setCert_jobs_lawful s (by cases it <;> rfl)
    exact Lawful.ite ((pagePassed_lawful _).after sent) ((tryHand_lawful _).after sent)

theorem startPrinting_lawful (sub : Subject) (s : State) : Lawful s (startPrinting sub s) := by
  unfold startPrinting
  dsimp only
  refine Lawful.after (certChange_lawful ?_) ?_
  · exact Lawful.after (beginPage_lawful _ _) (setHeadState_lawful _ _ (by rfl))
  · refine Lawful.after (setCert_jobs_lawful _ (Cert.composeNext_jobs _)) (Lawful.after (raise_lawful _ _ _) ?_)
    exact Lawful.after (certChange_lawful (setHeadState_lawful _ _ (by rfl))) (setCert_jobs_lawful s (by rfl))

theorem startCertificate_lawful (t r : Nat) (s : State) : Lawful s (startCertificate t r s) := by
  unfold startCertificate
  split
  · exact refuseHead_lawful _ _ _ s
  · refine Lawful.ite (refuseHead_lawful _ _ _ s) ((startPrinting_lawful _ _).after ((archiveStep_lawful fun h => h.submit _).after ?_))
    exact (setCert_jobs_lawful _ (by rfl)).after (setArchive_lawful s fun h => ⟨h.slots, h.rows, h.pos, h.requests⟩)

theorem startReprint_lawful (n : CertNo) (r : Nat) (s : State) : Lawful s (startReprint n r s) := by
  unfold startReprint
  split
  · exact refuseHead_lawful _ _ _ s
  · exact (startPrinting_lawful _ _).after (setCert_jobs_lawful s (by rfl))

theorem startHead_lawful (s : State) : Lawful s (startHead s) := by
  unfold startHead
  split
  · exact startCertificate_lawful _ _ s
  · exact startReprint_lawful _ _ s
  · exact Lawful.refl s

theorem paperGone_lawful (s : State) : Lawful s (paperGone s) := by
  refine certChange_lawful ?_
  have raised := (raise_lawful .paperOut {} _).after (setCert_jobs_lawful (x := { s.cert with paperOut := true }) s rfl)
  exact Lawful.ite ((failPage_lawful _).after raised) raised

theorem paperBack_lawful (s : State) : Lawful s (paperBack s) := by
  refine certChange_lawful ?_
  have lowered := (lower_lawful .paperOut _).after (setCert_jobs_lawful (x := { s.cert with paperOut := false }) s rfl)
  exact Lawful.ite ((beginPage_lawful _ _).after ((setTimers_lawful _ _).after ((setHeadState_lawful _ _ (by rfl)).after lowered))) lowered

end Sys2Proof.Machine
end

section
/-! The list, prompt, count and capture laws along the roller sequence and the plate sequence (R96 to R129). -/

namespace Sys2Proof.Machine

/-! ### The roller sequence -/

theorem changeRoller_lawful (f : Roller → Roller) (s : State) : Lawful s (changeRoller f s) :=
  presenceIfChanged_lawful s (setRoller_lawful s _)

theorem startSeqTimer_lawful (n : Nat) (s : State) : Lawful s (startSeqTimer n s) := setTimers_lawful s _

theorem cancelSeqTimer_lawful (s : State) : Lawful s (cancelSeqTimer s) := setTimers_lawful s _

theorem writePhaseStreams_lawful (p : Phase) (pressure : Bool) (s : State) : Lawful s (writePhaseStreams p pressure s) := by
  have pace (t : State) : Lawful t (pacePhase p t) := by
    unfold pacePhase
    split
    · exact setTimers_lawful t _
    · exact Lawful.refl t
    · exact setTimers_lawful t _
  unfold writePhaseStreams
  exact Lawful.ite (Lawful.after (pace _) (Lawful.after (writeStream_lawful _ _ _) (writeStream_lawful _ _ s))) (Lawful.refl s)

theorem motorStop_lawful (s : State) : Lawful s (motorStop s) :=
  Lawful.ite (Lawful.after (queueFrame_lawful _ _) (setRoller_lawful s _)) (Lawful.refl s)

theorem showDriveOn_lawful (s : State) : Lawful s (showDriveOn s) := Lawful.ite (lower_lawful _ s) (raise_lawful _ _ s)

theorem enterIdle_lawful (keep : Bool) (s : State) : Lawful s (enterIdle keep s) := by
  unfold enterIdle
  dsimp only
  refine Lawful.after (showDriveOn_lawful _) (Lawful.skip (raise_lawful _ _ _) (Lawful.after (lowerAll_lawful _ _) ?_))
  refine Lawful.skip (evalDiscardAxle_lawful _) (Lawful.after (changeRoller_lawful _ _) ?_)
  exact Lawful.after (cancelSeqTimer_lawful _) (writePhaseStreams_lawful _ _ s)

theorem holdChanged_lawful (wasHeld : Bool) (s : State) : Lawful s (holdChanged wasHeld s) :=
  Lawful.ite (Lawful.after (showDriveOn_lawful _) (setRoller_lawful s _)) (Lawful.refl s)

theorem raiseMotorFault_lawful (c : FaultCause) (s : State) : Lawful s (raiseMotorFault c s) :=
  Lawful.ite (Lawful.refl s) (raise_lawful _ _ s)

theorem rollerFault_lawful (c : FaultCause) (s : State) : Lawful s (rollerFault c s) := by
  unfold rollerFault
  refine Lawful.ite (Lawful.ite (Lawful.after (raiseMotorFault_lawful _ _) (setRoller_lawful s _)) (Lawful.refl s)) ?_
  exact Lawful.after (enterIdle_lawful _ _) (Lawful.after (raiseMotorFault_lawful _ _) (Lawful.after (changeRoller_lawful _ _)
    (Lawful.after (evalDiscardTest_lawful _) (motorStop_lawful s))))

theorem raiseApply_lawful (b : Bool) (s : State) : Lawful s (raiseApply b s) := raise_lawful _ _ s

theorem enterWeigh_lawful (s : State) : Lawful s (enterWeigh s) := by
  unfold enterWeigh
  dsimp only
  refine Lawful.when (raise_lawful _ _ _) (Lawful.after (lower_lawful _ _) (Lawful.after (evalBeginWeigh_lawful _) ?_))
  exact Lawful.after (writePhaseStreams_lawful _ _ _) (Lawful.after (changeRoller_lawful _ _)
    (Lawful.after (localAxleEvent_lawful _ _ _ _) (setRoller_lawful s _)))

theorem enterPositioned_lawful (s : State) : Lawful s (enterPositioned s) :=
  Lawful.after (raiseApply_lawful _ _) (Lawful.after (lowerAll_lawful _ _) (Lawful.after (changeRoller_lawful _ _)
    (Lawful.after (cancelSeqTimer_lawful _) (writePhaseStreams_lawful _ _ s))))

theorem enterWarn_lawful (s : State) : Lawful s (enterWarn s) :=
  Lawful.after (startSeqTimer_lawful _ _) (Lawful.after (changeRoller_lawful _ _) (Lawful.after (raise_lawful _ _ _)
    (Lawful.after (lowerAll_lawful _ _) (Lawful.after (queueFrame_lawful _ _)
      (Lawful.after (cancelSeqTimer_lawful _) (writePhaseStreams_lawful _ _ s))))))

theorem enterSpinUp_lawful (s : State) : Lawful s (enterSpinUp s) :=
  Lawful.after (startSeqTimer_lawful _ _) (Lawful.after (changeRoller_lawful _ _) (writePhaseStreams_lawful _ _ s))

theorem enterZero_lawful (s : State) : Lawful s (enterZero s) :=
  Lawful.after (evalBeginZero_lawful _) (Lawful.after (lower_lawful _ _) (Lawful.after (changeRoller_lawful _ _)
    (Lawful.after (writePhaseStreams_lawful _ _ _) (cancelSeqTimer_lawful s))))

theorem enterTest_lawful (s : State) : Lawful s (enterTest s) :=
  Lawful.after (raiseApply_lawful _ _) (Lawful.after (startSeqTimer_lawful _ _) (Lawful.after (changeRoller_lawful _ _)
    (Lawful.after (evalBeginTest_lawful _ _) (writePhaseStreams_lawful _ _ s))))

theorem writeResult_lawful (s : State) : Lawful s (writeResult s) := by
  unfold writeResult
  split
  · exact Lawful.refl s
  · exact Lawful.after (raise_lawful _ _ _) (Lawful.after (lower_lawful _ _) (Lawful.after (setRoller_lawful _ _)
      (Lawful.after (queueFrame_lawful _ _) (takeResult_lawful _ _ _ s))))

theorem recordReport_lawful (r : EvalReport) (s : State) : Lawful s (recordReport r s) := by
  unfold recordReport
  split
  · exact Lawful.ite (Lawful.after (writeResult_lawful _) (setRoller_lawful s _)) (setRoller_lawful s _)
  · exact rollerFault_lawful _ s
  · exact Lawful.refl s

theorem enterStopping_lawful (reason : EndReason) (s : State) : Lawful s (enterStopping reason s) := by
  have record (t : State) : Lawful t
      (match (evalRequestRecord t).2 with
        | some r => recordReport r (evalRequestRecord t).1
        | none => (evalRequestRecord t).1) := by
    split
    · exact Lawful.after (recordReport_lawful _ _) (evalRequestRecord_lawful t)
    · exact evalRequestRecord_lawful t
  unfold enterStopping
  dsimp only
  refine Lawful.after (record _) (Lawful.after (raise_lawful _ _ _) (Lawful.after (lowerAll_lawful _ _) ?_))
  refine Lawful.after (evalEndTest_lawful _) (Lawful.after (changeRoller_lawful _ _) ?_)
  exact Lawful.after (cancelSeqTimer_lawful _) (Lawful.after (writePhaseStreams_lawful _ _ _)
    (Lawful.after (motorStop_lawful _) (setRoller_lawful s _)))

theorem enterResult_lawful (s : State) : Lawful s (enterResult s) :=
  Lawful.after (writeResult_lawful _) (Lawful.after (changeRoller_lawful _ _) (writePhaseStreams_lawful _ _ s))

theorem enterExit_lawful (s : State) : Lawful s (enterExit s) :=
  Lawful.after (raise_lawful _ _ _) (Lawful.after (lowerAll_lawful _ _) (Lawful.after (changeRoller_lawful _ _)
    (Lawful.after (cancelSeqTimer_lawful _) (writePhaseStreams_lawful _ _ s))))

theorem axleLeft_lawful (s : State) : Lawful s (axleLeft s) :=
  Lawful.after (enterIdle_lawful _ _) (localAxleEvent_lawful _ _ _ s)

theorem rollerReport_lawful (r : EvalReport) (s : State) : Lawful s (rollerReport r s) := by
  unfold rollerReport
  split
  · exact Lawful.after (enterPositioned_lawful _) (Lawful.after (setRoller_lawful _ _) (Lawful.after (queueFrame_lawful _ _)
      (takeResult_lawful _ _ _ s)))
  · exact enterTest_lawful s
  · exact recordReport_lawful _ s
  · exact recordReport_lawful _ s
  · exact Lawful.refl s

theorem rollerWindow_lawful (w : WindowSample) (s : State) : Lawful s (rollerWindow w s) := by
  unfold rollerWindow
  split
  · exact Lawful.ite (enterZero_lawful s) (Lawful.refl s)
  · exact setRoller_lawful s _
  · exact Lawful.refl s

theorem keyStart_lawful (s : State) : Lawful s (keyStart s) :=
  Lawful.ite (Lawful.after (enterWarn_lawful _) (lower_lawful _ s)) (Lawful.refl s)

theorem keyNext_lawful (s : State) : Lawful s (keyNext s) := by
  unfold keyNext
  split
  · exact enterExit_lawful s
  · exact Lawful.ite (Lawful.refl s) (Lawful.ite (Lawful.after (enterWarn_lawful _) (setRoller_lawful s _)) (enterExit_lawful s))
  · exact Lawful.refl s

theorem keyRepeat_lawful (s : State) : Lawful s (keyRepeat s) := Lawful.ite (enterWarn_lawful s) (Lawful.refl s)

theorem releaseHold_lawful (c : FaultCause) (s : State) : Lawful s (releaseHold c s) := by
  unfold releaseHold
  refine Lawful.ite (Lawful.refl s) (Lawful.ite ?_ ?_)
  · exact Lawful.after (enterPositioned_lawful _) (Lawful.after (lower_lawful _ _) (changeRoller_lawful _ s))
  · exact Lawful.after (enterIdle_lawful _ _) (Lawful.after (lower_lawful _ _) (changeRoller_lawful _ s))

theorem rollerAbort_lawful (s : State) : Lawful s (rollerAbort s) := by
  unfold rollerAbort
  split
  · exact releaseHold_lawful _ s
  · refine Lawful.ite ?_ (Lawful.refl s)
    exact Lawful.after (enterPositioned_lawful _) (Lawful.after (setRoller_lawful _ _) (Lawful.after (evalDiscardTest_lawful _)
      (motorStop_lawful s)))

theorem wheelsLeaving_lawful (s : State) : Lawful s (wheelsLeaving s) :=
  Lawful.ite (Lawful.after (enterIdle_lawful _ _) (motorStop_lawful s)) (Lawful.refl s)

theorem feedbackActive_lawful (left : Bool) (s : State) : Lawful s (feedbackActive left s) :=
  Lawful.ite (setRoller_lawful s _) (Lawful.refl s)

theorem feedbackInactive_lawful (left : Bool) (s : State) : Lawful s (feedbackInactive left s) :=
  Lawful.after (Lawful.ite (setRoller_lawful _ _) (Lawful.refl _)) (Lawful.ite (rollerFault_lawful _ s) (Lawful.refl s))

theorem removeAwaited_lawful (n : Nat) (s : State) : Lawful s (removeAwaited n s) :=
  Lawful.ite (Lawful.ite (Lawful.after (startSeqTimer_lawful _ _) (setRoller_lawful s _)) (setRoller_lawful s _)) (Lawful.refl s)

theorem judgeRoleClash_lawful (s : State) : Lawful s (judgeRoleClash s) := by
  unfold judgeRoleClash
  dsimp only
  split
  · exact Lawful.ite (Lawful.refl s) (Lawful.after (holdChanged_lawful _ _) (Lawful.after (raise_lawful _ _ _) (setRoller_lawful s _)))
  · exact Lawful.ite (Lawful.after (holdChanged_lawful _ _) (Lawful.after (lower_lawful _ _) (setRoller_lawful s _))) (Lawful.refl s)

theorem abandonAxle_lawful (s : State) : Lawful s (abandonAxle s) :=
  Lawful.after (enterIdle_lawful _ _) (Lawful.after (evalDiscardAxle_lawful _) (motorStop_lawful s))

theorem rollerStopped_lawful (s : State) : Lawful s (rollerStopped s) := by
  unfold rollerStopped
  split
  · exact Lawful.after (showDriveOn_lawful _) (setRoller_lawful s _)
  · exact axleLeft_lawful s
  · exact Lawful.ite (axleLeft_lawful s) (abandonAxle_lawful s)
  · exact abandonAxle_lawful s

theorem rollerCancelled_lawful (t : Nat) (s : State) : Lawful s (rollerCancelled t s) := by
  unfold rollerCancelled
  refine Lawful.ite (Lawful.refl s) (Lawful.ite (setRoller_lawful s _) ?_)
  exact Lawful.ite (Lawful.after (enterExit_lawful _) (Lawful.after (evalDiscardAxle_lawful _) (motorStop_lawful s))) (Lawful.refl s)

/-! ### The plate sequence -/

theorem changePlate_lawful (f : Plate → Plate) (s : State) : Lawful s (changePlate f s) :=
  presenceIfChanged_lawful s (setPlate_lawful s _)

theorem dropMeasurement_lawful (s : State) : Lawful s (dropMeasurement s) :=
  Lawful.after (evalDiscardCrossing_lawful _) (Lawful.after (writeStream_lawful _ _ _) (setGate_lawful _ s))

theorem openMeasurement_lawful (s : State) : Lawful s (openMeasurement s) :=
  Lawful.after (setGate_lawful _ _) (Lawful.after (evalBeginCrossing_lawful _) (writeStream_lawful _ _ s))

theorem beginCrossing_lawful (s : State) : Lawful s (beginCrossing s) := by
  unfold beginCrossing
  dsimp only
  refine Lawful.when (raise_lawful _ _ _) (Lawful.after (changePlate_lawful _ _) ?_)
  refine Lawful.after (startSeqTimer_lawful _ _) (Lawful.when (openMeasurement_lawful _) ?_)
  exact Lawful.after (localAxleEvent_lawful _ _ _ _) (setPlate_lawful s _)

theorem plateToClear_lawful (s : State) : Lawful s (plateToClear s) :=
  Lawful.after (lower_lawful _ _) (Lawful.after (changePlate_lawful _ _) (cancelSeqTimer_lawful s))

theorem endCrossing_lawful (slip : Option Int) (s : State) : Lawful s (endCrossing slip s) := by
  unfold endCrossing
  dsimp only
  refine Lawful.when (Lawful.after (beginCrossing_lawful _) (setPlate_lawful _ _)) ?_
  refine Lawful.after (plateToClear_lawful _) (Lawful.when (localAxleEvent_lawful _ _ _ _) ?_)
  split
  · exact Lawful.after (queueFrame_lawful _ _) (takeResult_lawful _ _ _ s)
  · exact Lawful.refl s

theorem plateReport_lawful (r : EvalReport) (s : State) : Lawful s (plateReport r s) := by
  unfold plateReport
  refine Lawful.ite ?_ (Lawful.refl s)
  split
  · exact endCrossing_lawful _ s
  · exact endCrossing_lawful _ s
  · exact Lawful.refl s

theorem drainCrossing_lawful (s : State) : Lawful s (drainCrossing s) := by
  have ended (t : State) : Lawful t
      (match (evalEndCrossing t).2 with
        | some r => plateReport r (evalEndCrossing t).1
        | none => (evalEndCrossing t).1) := by
    split
    · exact Lawful.after (plateReport_lawful _ _) (evalEndCrossing_lawful t)
    · exact evalEndCrossing_lawful t
  unfold drainCrossing
  dsimp only
  refine Lawful.after (ended _) (Lawful.after (setPlate_lawful _ _) (Lawful.after (cancelSeqTimer_lawful _) ?_))
  exact Lawful.after (writeStream_lawful _ _ _) (setGate_lawful _ s)

theorem plateExit_lawful (s : State) : Lawful s (plateExit s) := by
  unfold plateExit
  split
  · exact changePlate_lawful _ s
  · exact plateToClear_lawful s
  · exact drainCrossing_lawful s
  · exact Lawful.after (endCrossing_lawful _ _) (cancelSeqTimer_lawful s)
  · exact Lawful.refl s

theorem plateEntry_lawful (s : State) : Lawful s (plateEntry s) := by
  unfold plateEntry
  split
  · exact beginCrossing_lawful s
  · exact plateToClear_lawful s
  · exact Lawful.after (plateToClear_lawful _) (dropMeasurement_lawful s)
  · exact plateToClear_lawful s
  · exact setPlate_lawful s _

theorem crossingExpired_lawful (s : State) : Lawful s (crossingExpired s) := by
  unfold crossingExpired
  split
  · exact Lawful.after (plateToClear_lawful _) (dropMeasurement_lawful s)
  · exact plateToClear_lawful s
  · exact Lawful.refl s

theorem unmeasure_lawful (s : State) : Lawful s (unmeasure s) := Lawful.after (changePlate_lawful _ _) (dropMeasurement_lawful s)

theorem plateFault_lawful (s : State) : Lawful s (plateFault s) := by
  unfold plateFault
  refine Lawful.ite (Lawful.refl s) ?_
  dsimp only
  split
  · exact Lawful.after (unmeasure_lawful _) (changePlate_lawful _ s)
  · exact Lawful.after (endCrossing_lawful _ _) (Lawful.after (evalDiscardCrossing_lawful _) (changePlate_lawful _ s))
  · exact changePlate_lawful _ s

theorem plateAbort_lawful (s : State) : Lawful s (plateAbort s) := Lawful.ite (changePlate_lawful _ s) (Lawful.refl s)

theorem plateStopped_lawful (s : State) : Lawful s (plateStopped s) := Lawful.ite (unmeasure_lawful s) (Lawful.refl s)

theorem plateCancelled_lawful (t : Nat) (s : State) : Lawful s (plateCancelled t s) :=
  Lawful.ite (unmeasure_lawful s) (Lawful.refl s)

theorem plateLaneClear_lawful (s : State) : Lawful s (plateLaneClear s) := by
  unfold plateLaneClear
  split
  · exact Lawful.after (changePlate_lawful _ _) (dropMeasurement_lawful s)
  · exact Lawful.after (plateToClear_lawful _) (Lawful.after (setPlate_lawful _ _) (evalDiscardCrossing_lawful s))
  · exact setPlate_lawful s _
  · exact Lawful.refl s

end Sys2Proof.Machine
end

section
/-! The list, prompt, count and capture laws along every event and every step (R1, R30, R34, R44, R53, R59, R67, R69, R130, R147, R163). -/

namespace Sys2Proof.Machine

/-! ### The lane bus controller -/

theorem setBus_lawful (s : State) {b : Bus} (queue : s.queueLaw = true → (s.setBus b).queueLaw = true)
    (peers : s.peerLaw = true → (s.setBus b).peerLaw = true) : Lawful s (s.setBus b) :=
  ⟨queue, id, id, id, peers, id, id, id⟩

/-- A change of the lane bus controller that leaves mode and peers and takes frames out of the queue at most. -/
theorem setBus_queue_lawful (s : State) {b : Bus} (mode : b.mode = s.bus.mode) (peers : b.peers = s.bus.peers)
    (queue : b.queue.length ≤ s.bus.queue.length) : Lawful s (s.setBus b) := by
  refine setBus_lawful s ?_ (by rw [State.peerLaw_congr (s := s) (t := s.setBus b) peers rfl rfl]; exact id)
  have can : b.canQueue = s.bus.canQueue := by simp [Bus.canQueue, mode]
  rw [State.queueLaw_iff, State.queueLaw_iff]
  simp only [State.setBus_fields, can]
  rintro ⟨size, shut, rest⟩
  exact ⟨Nat.le_trans queue size, shut.imp id fun e => List.length_eq_zero_iff.mp (by simpa [e] using queue), rest⟩

theorem length_reorder (l : List QueuedFrame) : (reorder l).length = l.length := by
  cases l with
  | nil => rfl
  | cons q qs => exact length_insertQueued q qs

theorem begins_lawful (s : State) : Lawful s (s.setBus s.bus.begins) := by
  unfold Bus.begins
  split
  · split
    · exact setBus_queue_lawful s (by rfl) (by rfl) (by rfl)
    · exact setBus_queue_lawful s (by rfl) (by rfl) (by rfl)
  · exact setBus_queue_lawful s (by rfl) (by rfl) (by rfl)

theorem loses_lawful (s : State) : Lawful s (s.setBus s.bus.loses) := by
  unfold Bus.loses
  split
  · exact setBus_queue_lawful s (by rfl) (by rfl) (length_reorder _).le
  · exact setBus_queue_lawful s (by rfl) (by rfl) (by rfl)

theorem errs_lawful (s : State) : Lawful s (s.setBus s.bus.errs) := by
  unfold Bus.errs
  split
  · exact setBus_queue_lawful s (by rfl) (by rfl) List.length_erase_le
  · exact setBus_queue_lawful s (by rfl) (by rfl) (by rfl)

theorem sent_lawful (own : Nat) (s : State) : Lawful s (s.setBus (s.bus.sent own)) := by
  unfold Bus.sent
  split
  · exact setBus_queue_lawful s (by rfl) (by rfl) List.length_erase_le
  · exact setBus_queue_lawful s (by rfl) (by rfl) (by rfl)

/-! ### The latch (R41 to R43) -/

theorem onRoller_lawful {f : State → State} (h : ∀ s, Lawful s (f s)) (s : State) : Lawful s (onRoller f s) :=
  Lawful.ite (h s) (Lawful.refl s)

theorem onPlate_lawful {f : State → State} (h : ∀ s, Lawful s (f s)) (s : State) : Lawful s (onPlate f s) :=
  Lawful.ite (h s) (Lawful.refl s)

theorem setLatch_lawful (c : StopCause) (n : Nat) (s : State) : Lawful s (setLatch c n s) := by
  have latched : Lawful s (s.setBus { s.bus with latch := s.bus.latch.stop c n }) := setBus_queue_lawful s (by rfl) (by rfl) (by rfl)
  unfold setLatch
  refine Lawful.ite (Lawful.after (updateFields_lawful _ _ _) latched) (presenceIfChanged_lawful s ?_)
  exact Lawful.after (raise_lawful _ _ _) (Lawful.after (onPlate_lawful plateStopped_lawful _)
    (Lawful.after (onRoller_lawful rollerStopped_lawful _) latched))

theorem clearLatch_lawful (s : State) : Lawful s (clearLatch s) := by
  have cleared : Lawful s (s.setBus { s.bus with latch := { s.bus.latch with stopped := false, localCause := false } }) :=
    setBus_queue_lawful s (by rfl) (by rfl) (by rfl)
  unfold clearLatch
  refine Lawful.ite (presenceIfChanged_lawful s ?_) cleared
  exact Lawful.after (lower_lawful _ _) (Lawful.after (onRoller_lawful (holdChanged_lawful _) _) cleared)

theorem stopLane_lawful (c : StopCause) (s : State) : Lawful s (stopLane c s) :=
  Lawful.after (setLatch_lawful _ _ _) (queueFrame_lawful _ s)

theorem stopInputActive_lawful (s : State) : Lawful s (stopInputActive s) := by
  unfold stopInputActive
  exact Lawful.ite (Lawful.refl s) (Lawful.after (setBus_queue_lawful _ (by rfl) (by rfl) (by rfl)) (stopLane_lawful _ s))

theorem stopInputInactive_lawful (s : State) : Lawful s (stopInputInactive s) :=
  Lawful.ite (Lawful.after (clearLatch_lawful _) (queueFrame_lawful _ s)) (Lawful.refl s)

theorem resumeHeard_lawful (s : State) : Lawful s (resumeHeard s) :=
  Lawful.ite (clearLatch_lawful s) (Lawful.ite (stopLane_lawful _ s) (Lawful.ite (stopLane_lawful _ s) (clearLatch_lawful s)))

theorem weldedFound_lawful (s : State) : Lawful s (weldedFound s) :=
  Lawful.after (rollerFault_lawful _ _) (Lawful.after (stopLane_lawful _ _) (setRoller_lawful s _))

/-! ### The peer list (R34 to R36) -/

theorem State.peerLaw_iff {s : State} : s.peerLaw = true ↔
    (s.bus.peers.map (·.station)).Pairwise (· < ·) ∧ s.bus.peers.length ≤ Config.peerListSize ∧
    (∀ p ∈ s.bus.peers, 1 ≤ p.station ∧ p.station ≤ 15 ∧ p.station ≠ s.startUp.ownNumber) ∧
    (s.isRunning = true ∨ s.bus.peers = []) := by
  simp [State.peerLaw, and_assoc]

theorem mem_insertPeer {p x : Peer} {l : List Peer} : x ∈ insertPeer p l ↔ x = p ∨ x ∈ l := by
  induction l with
  | nil => simp [insertPeer]
  | cons y ys ih =>
    unfold insertPeer
    split
    · simp
    · simp only [List.mem_cons, ih]; tauto

theorem length_insertPeer (p : Peer) (l : List Peer) : (insertPeer p l).length = l.length + 1 := by
  induction l with
  | nil => rfl
  | cons x xs ih => unfold insertPeer; split <;> simp [ih]

/-- A new station at its place keeps the list in rising order. -/
theorem insertPeer_rising {p : Peer} {l : List Peer} (h : (l.map (·.station)).Pairwise (· < ·)) (new : ∀ x ∈ l, x.station ≠ p.station) :
    ((insertPeer p l).map (·.station)).Pairwise (· < ·) := by
  induction l with
  | nil => simp [insertPeer]
  | cons y ys ih =>
    rw [List.map_cons, List.pairwise_cons] at h
    obtain ⟨above, rest⟩ := h
    unfold insertPeer
    split
    · rename_i lt
      rw [List.map_cons, List.pairwise_cons]
      refine ⟨fun n hn => ?_, List.pairwise_cons.mpr ⟨above, rest⟩⟩
      rcases List.mem_cons.mp hn with rfl | hn
      · exact lt
      · exact Nat.lt_trans lt (above n hn)
    · rename_i ge
      rw [List.map_cons, List.pairwise_cons]
      refine ⟨fun n hn => ?_, ih rest fun x hx => new x (List.mem_cons_of_mem _ hx)⟩
      obtain ⟨x, hx, rfl⟩ := List.mem_map.mp hn
      rcases mem_insertPeer.mp hx with rfl | hx
      · exact Nat.lt_of_le_of_ne (Nat.not_lt.mp ge) (new y List.mem_cons_self)
      · exact above _ (List.mem_map_of_mem hx)

/-- A peer list with the same stations in the same places. -/
theorem sameStations_lawful (s : State) {b : Bus} (f : Peer → Peer) (h : b.peers = s.bus.peers.map f) (k : ∀ p, (f p).station = p.station)
    (mode : b.mode = s.bus.mode) (queue : b.queue = s.bus.queue) : Lawful s (s.setBus b) := by
  refine setBus_lawful s ?_ ?_
  · have can : b.canQueue = s.bus.canQueue := by simp [Bus.canQueue, mode]
    rw [State.queueLaw_iff, State.queueLaw_iff]
    simp only [State.setBus_fields, can, queue]
    exact id
  · rw [State.peerLaw_iff, State.peerLaw_iff]
    simp only [State.setBus_fields, h, List.map_map, Function.comp_def, k, List.length_map, List.mem_map, List.map_eq_nil_iff]
    rintro ⟨rising, size, stations, run⟩
    refine ⟨rising, size, ?_, run⟩
    rintro p ⟨q, hq, rfl⟩
    rw [k]
    exact stations q hq

theorem Peer.refresh_station (p : Peer) (fields : Option (PeerRole × Activity × Nat × PrinterState)) :
    (p.refresh fields).station = p.station := by
  unfold Peer.refresh Peer.fill
  split <;> rfl

/-- A frame of a station at the peer list of a running part (R34, R36). -/
theorem hearPeer_lawful {s : State} (run : s.isRunning = true) {n : Nat} (low : 1 ≤ n) (high : n ≤ 15) (own : n ≠ s.startUp.ownNumber)
    (fields : Option (PeerRole × Activity × Nat × PrinterState)) : Lawful s (s.setBus (s.bus.hearPeer n fields)) := by
  unfold Bus.hearPeer
  split
  · exact sameStations_lawful s _ rfl (fun p => by split <;> simp [Peer.refresh_station]) rfl rfl
  · rename_i new
    split
    · rename_i room
      refine setBus_lawful s id ?_
      rw [State.peerLaw_iff, State.peerLaw_iff]
      rintro ⟨rising, -, stations, -⟩
      have station : ((Peer.unknown n).refresh fields).station = n := Peer.refresh_station _ _
      refine ⟨insertPeer_rising rising fun x hx e => new ?_, ?_, fun p hp => ?_, Or.inl run⟩
      · exact List.any_eq_true.mpr ⟨x, hx, by simp [e, station]⟩
      · simp only [State.setBus_fields, length_insertPeer]; omega
      · rcases mem_insertPeer.mp hp with rfl | hp
        · rw [station]; exact ⟨low, high, own⟩
        · exact stations p hp
    · exact Lawful.refl s

theorem peerHeard_lawful (n : Nat) (b : Bool) (s : State) : Lawful s (peerHeard n b s) := by
  unfold peerHeard
  refine Lawful.after (recheck_lawful _) (Lawful.after (judgeEntry_lawful _) (onRoller_lawful (fun t => ?_) s))
  exact Lawful.after (judgeRoleClash_lawful _) (Lawful.ite (removeAwaited_lawful n t) (Lawful.refl t))

theorem peerGone_lawful (n : Nat) (s : State) : Lawful s (peerGone n s) := by
  unfold peerGone
  refine Lawful.after (recheck_lawful _) (Lawful.after (judgeEntry_lawful _) (Lawful.after (lowerWarningOf_lawful _ _) ?_))
  exact Lawful.after (retestAll_lawful _)
    (onRoller_lawful (fun t => Lawful.after (judgeRoleClash_lawful _) (removeAwaited_lawful n t)) s)

theorem removePeer_lawful (n : Nat) (s : State) : Lawful s (removePeer n s) := by
  refine Lawful.after (peerGone_lawful _ _) (setBus_lawful s id ?_)
  rw [State.peerLaw_iff, State.peerLaw_iff]
  rintro ⟨rising, size, stations, run⟩
  refine ⟨rising.sublist (List.filter_sublist.map _), Nat.le_trans (List.length_filter_le _ _) size,
    fun p hp => stations p (List.mem_of_mem_filter hp), run.imp id fun e => ?_⟩
  show s.bus.peers.filter _ = []
  rw [e]
  rfl

theorem aged_lawful (s : State) : Lawful s (s.setBus s.bus.aged) := sameStations_lawful s _ rfl (fun _ => rfl) rfl rfl

theorem clash_lawful (s : State) : Lawful s (clash s) := by
  refine Lawful.ite (Lawful.refl s) (Lawful.after (raise_lawful _ _ _) (setBus_lawful s ?_ id))
  rw [State.queueLaw_iff, State.queueLaw_iff]
  rintro ⟨-, -, -, due⟩
  exact ⟨Nat.zero_le _, Or.inr rfl, Or.inr rfl, due⟩

/-! ### Heard frames (R26) -/

theorem hearFrame_lawful {f : WireFrame} {deliver : State → State} (source : f.source ≤ 15) (h : ∀ s, Lawful s (deliver s)) {s : State}
    (run : s.isRunning = true) : Lawful s (hearFrame f deliver s) := by
  unfold hearFrame
  refine Lawful.ite (Lawful.refl s) ?_
  have ends : Lawful s (frameEnds f s) := setBus_queue_lawful s (by rfl) (by rfl) (by rfl)
  split
  · exact ends
  · rename_i nonzero
    have entered (b : Bool) (fields : Option (PeerRole × Activity × Nat × PrinterState))
        (own : ¬ f.source = (frameEnds f s).startUp.ownNumber) : Lawful s (enterPeer f.source b fields (frameEnds f s)) := by
      have listed := Lawful.after (hearPeer_lawful (s := frameEnds f s) run (Nat.pos_of_ne_zero nonzero) source own fields) ends
      unfold enterPeer
      exact Lawful.ite (Lawful.after (peerHeard_lawful _ _ _) listed) listed
    refine Lawful.when (h _) ?_
    split
    · exact Lawful.after (clash_lawful _) ends
    · rename_i own; exact entered _ _ own

theorem onLaneStop_lawful (n : Nat) (p : List Byte) (s : State) : Lawful s (onLaneStop n p s) := by
  unfold onLaneStop
  split
  · exact setLatch_lawful _ _ s
  · exact Lawful.refl s

theorem onMotorWarning_lawful (n : Nat) (p : List Byte) (s : State) : Lawful s (onMotorWarning n p s) := by
  unfold onMotorWarning
  split
  · exact Lawful.ite (raiseWith_lawful _ _ _ _ s) (Lawful.refl s)
  · exact Lawful.refl s

theorem onWarningShown_lawful (n : Nat) (p : List Byte) (s : State) : Lawful s (onWarningShown n p s) :=
  Lawful.ite (onRoller_lawful (fun s => Lawful.ite (removeAwaited_lawful _ s) (Lawful.refl s)) s) (Lawful.refl s)

theorem onVehicleCancel_lawful (p : List Byte) (s : State) : Lawful s (onVehicleCancel p s) := by
  unfold onVehicleCancel
  refine Lawful.ite ?_ (Lawful.refl s)
  refine Lawful.after (guidanceTicketGone_lawful _ _) (Lawful.after (certTicketGone_lawful _ _) ?_)
  exact Lawful.after (onPlate_lawful (plateCancelled_lawful _) _)
    (Lawful.after (onRoller_lawful (rollerCancelled_lawful _) _) (cancel_lawful _ s))

theorem onAxleEvent_lawful (p : List Byte) (s : State) : Lawful s (onAxleEvent p s) := by
  unfold onAxleEvent
  split
  · exact laneAxleEvent_lawful _ _ _ _ s
  · exact Lawful.refl s

theorem onBrakeResult_lawful (p : List Byte) (s : State) : Lawful s (onBrakeResult p s) := by
  unfold onBrakeResult
  dsimp only
  split
  · exact takeResult_lawful _ _ _ s
  · exact Lawful.refl s

theorem onCertRequest_lawful (n : Nat) (p : List Byte) (s : State) : Lawful s (onCertRequest n p s) :=
  Lawful.ite (certRequest_lawful _ _ s) (Lawful.refl s)

theorem onReprintRequest_lawful (n : Nat) (p : List Byte) (s : State) : Lawful s (onReprintRequest n p s) :=
  Lawful.ite (reprintRequest_lawful _ _ s) (Lawful.refl s)

theorem onCertDone_lawful (p : List Byte) (s : State) : Lawful s (onCertDone p s) := by
  unfold onCertDone
  split
  · exact closeHeard_lawful _ _ _ s
  · exact Lawful.refl s

theorem onLaneClear_lawful (s : State) : Lawful s (onLaneClear s) := by
  unfold onLaneClear
  refine Lawful.after (guidanceLaneClear_lawful _) (Lawful.after (certLaneClear_lawful _) ?_)
  exact Lawful.after (onPlate_lawful plateLaneClear_lawful _) (Lawful.after (onRoller_lawful abandonAxle_lawful _) (clearLane_lawful s))

/-! ### Rail faults and reports (R71, R72, R76) -/

theorem raiseSensorFault_lawful (s : State) : Lawful s (raiseSensorFault s) :=
  Lawful.ite (updateFields_lawful _ _ s) (raise_lawful _ _ s)

theorem settleSensorFault_lawful (s : State) : Lawful s (settleSensorFault s) :=
  Lawful.ite (lower_lawful _ s) (updateFields_lawful _ _ s)

theorem stillFaulted_lawful (n : Nat) (s : State) : Lawful s (stillFaulted n s) := by
  have first : Lawful s (if n ≤ 4 then onRoller (rollerFault .sensor) s else s) :=
    Lawful.ite (onRoller_lawful (rollerFault_lawful _) s) (Lawful.refl s)
  unfold stillFaulted
  exact Lawful.when (onPlate_lawful plateFault_lawful _) first

theorem faultInput_lawful (n : Nat) (s : State) : Lawful s (faultInput n s) :=
  Lawful.after (raiseSensorFault_lawful _) (Lawful.after (stillFaulted_lawful n _) (Capture.fault_lawful n s))

theorem takeOneOff_lawful (raw : Nat) (s : State) : Lawful s (takeOneOff raw s) := by
  unfold takeOneOff
  split
  · have idle : Lawful s (s.setCapture { s.capture with converter := .idle }) :=
      setCapture_streams_lawful s ⟨rfl, rfl, rfl, rfl⟩ id id
    refine Lawful.ite (Lawful.after (stillFaulted_lawful _ _) idle) (Lawful.after (settleSensorFault_lawful _) (Lawful.after ?_ idle))
    exact setCapture_streams_lawful _ ⟨rfl, rfl, rfl, rfl⟩ (List.Pairwise.filter _) id
  · exact Lawful.refl s

theorem finishEvaluation_lawful (s : State) : Lawful s (finishEvaluation s) := by
  have ended : Lawful s (s.setChain (completeEvaluation (s.capture, s.eval)).1) :=
    setChain_lawful s fun h g => completeEvaluation_law h g
  unfold finishEvaluation
  dsimp only
  split
  · exact Lawful.after (onPlate_lawful (plateReport_lawful _) _) (Lawful.after (onRoller_lawful (rollerReport_lawful _) _) ended)
  · exact ended

/-! ### Start-up and the due events -/

/-- A change of the start-up record that leaves the own number, the end of start-up and whether it is due. -/
theorem setStartUp_lawful (s : State) {u : StartUp} (own : u.ownNumber = s.startUp.ownNumber)
    (ended : u.ended = s.startUp.ended) (due : u.endDue = s.startUp.endDue) : Lawful s (s.setStartUp u) where
  queue := by
    rw [State.queueLaw_iff, State.queueLaw_iff]
    simp only [State.setStartUp_fields, ended, due]
    exact id
  table := id
  jobs := id
  archive := id
  peers := by rw [State.peerLaw_congr (s := s) (t := s.setStartUp u) rfl own rfl]; exact id
  prompts := id
  counts := id
  chain := id

/-- The end of start-up settles the bus mode: the queue is empty, for no frame has been queued before it (R30, R178). -/
theorem settleMode_lawful {s : State} (due : s.startUp.endDue = true) :
    Lawful s ((s.setBus { s.bus with mode := s.settledMode }).setStartUp { s.startUp with ended := true, endDue := false }) where
  queue := by
    rw [State.queueLaw_iff, State.queueLaw_iff]
    rintro ⟨-, shut, ended, once⟩
    have before : s.startUp.ended = false := once.resolve_left (by simp [due])
    have closed : s.bus.canQueue = false := ended.resolve_left (by simp [before])
    have empty : s.bus.queue = [] := shut.resolve_left (by simp [closed])
    simp [empty]
  table := id
  jobs := id
  archive := id
  peers := id
  prompts := id
  counts := id
  chain := id

/-- A change of the counters that keeps the pulse counters' saturation. -/
theorem setCounters_lawful (s : State) {c : Counters} (h : s.countLaw = true → (s.setCounters c).countLaw = true) :
    Lawful s (s.setCounters c) := ⟨id, id, id, id, id, id, h, id⟩

theorem takeSettings_lawful (s : State) : Lawful s (takeSettings s) := by
  unfold takeSettings
  refine Lawful.after (setTimers_lawful _ _) (Lawful.after (setCounters_lawful _ ?_) (setEval_lawful s (by rfl)))
  unfold Counters.begin
  split <;> exact id

theorem startSequence_lawful (s : State) : Lawful s (startSequence s) := by
  unfold startSequence
  split
  · exact Lawful.after (enterIdle_lawful _ _) (judgeRoleClash_lawful s)
  · exact Lawful.ite (Lawful.refl s) (raise_lawful _ _ s)
  · exact Lawful.refl s

theorem startCertUnit_lawful (s : State) : Lawful s (startCertUnit s) :=
  Lawful.ite (Lawful.after (recheck_lawful _) (Lawful.ite (paperGone_lawful s) (Lawful.refl s))) (Lawful.refl s)

theorem endStartUp_lawful {s : State} (due : s.startUp.endDue = true) : Lawful s (endStartUp s) := by
  unfold endStartUp
  refine Lawful.after (requestPresence_lawful _) (Lawful.after (Lawful.ite (stopInputActive_lawful _) (Lawful.refl _)) ?_)
  refine Lawful.after (judgeEntry_lawful _) (Lawful.after (startCertUnit_lawful _) (Lawful.after (startSequence_lawful _) ?_))
  exact Lawful.after (firstDisplay_lawful _) (Lawful.after (takeSettings_lawful _) (settleMode_lawful due))

theorem testReport_lawful (r : EndReason) (s : State) : Lawful s (testReport r s) :=
  Lawful.ite (enterStopping_lawful r s) (Lawful.refl s)

theorem takeDue_lawful {s : State} {d : Due} (due : s.isDue d = true) : Lawful s (takeDue s d) := by
  cases d with
  | certificateStart => exact startHead_lawful s
  | reprintStart => exact startHead_lawful s
  | inputFaulted n => exact faultInput_lawful n s
  | release => exact Lawful.after (testReport_lawful _ _) (setEval_lawful s (by rfl))
  | slipStop => exact Lawful.after (testReport_lawful _ _) (setEval_lawful s (by rfl))
  | warnHorn => exact enterSpinUp_lawful s
  | warnTimeout => exact Lawful.after (enterPositioned_lawful _) (raise_lawful _ _ s)
  | runOut => exact enterSpinUp_lawful s
  | spinUpTimeout => exact rollerFault_lawful _ s
  | testLimit => exact enterStopping_lawful _ s
  | crossingTimeout => exact crossingExpired_lawful s
  | paperWait => exact Lawful.after (failJob_lawful _) (setTimers_lawful s _)
  | feedbackCount => exact rollerFault_lawful _ s
  | welded => exact weldedFound_lawful s
  | axleOn => exact enterWeigh_lawful s
  | axleLeaves => exact axleLeft_lawful s
  | rollDown => exact enterResult_lawful s
  | minimumShow => exact showTimeMet_lawful s
  | rejectedLife => exact lower_lawful _ s
  | warningLife => exact lower_lawful _ s
  | singleEnd => exact singleEnd_lawful s
  | peerAbsent =>
    show Lawful s (match s.bus.absent with | some n => removePeer n s | none => s)
    split
    · exact removePeer_lawful _ s
    · exact Lawful.refl s
  | startUpEnd => exact endStartUp_lawful (by simpa [State.isDue] using (Bool.and_eq_true_iff.mp due).2)
  | converterStart => exact Capture.start_lawful _ _ s

theorem settle_lawful (s : State) : Lawful s (settle s) :=
  settle_keeps (P := Lawful s) (fun _ _ h due => Lawful.after (takeDue_lawful due) h) (Lawful.refl s)

theorem named_lawful (d : Due) (s : State) : Lawful s (named d s) :=
  named_keeps (P := Lawful s) (fun _ _ h due => Lawful.after (takeDue_lawful due) h) d (Lawful.refl s)

theorem settle_isRunning (s : State) : (settle s).isRunning = s.isRunning :=
  congrArg (· == Power.running) (settle_changes s .power (by simp))

/-- An event of the outside that keeps the laws of a running part. -/
theorem outside_lawful {f : State → State} (h : ∀ s : State, s.isRunning = true → Lawful s (f s)) (s : State) : Lawful s (outside f s) := by
  unfold outside
  split
  · rename_i run; exact Lawful.after (h _ ((settle_isRunning s).trans run)) (settle_lawful s)
  · exact Lawful.refl s

/-! ### Ticks and counters (R44 to R54) -/

theorem State.countLaw_iff {s : State} : s.countLaw = true ↔
    s.clock.count < 256 ∧ s.counters.dl ≤ 4095 ∧ s.counters.dr ≤ 4095 ∧ s.counters.sl ≤ 4095 ∧ s.counters.sr ≤ 4095 := by
  simp [State.countLaw, and_assoc]

/-- A change of the lane clock that leaves its count an 8-bit one. -/
theorem setClock_lawful (s : State) {c : Clock} (h : s.clock.count < 256 → c.count < 256) : Lawful s (s.setClock c) :=
  ⟨id, id, id, id, id, id, by rw [State.countLaw_iff, State.countLaw_iff]; exact And.imp h id, id⟩

theorem Clock.passage_count_lt {c : Clock} (h : c.count < 256) (period : Nat) (taken : Bool) : (c.passage period taken).count < 256 := by
  unfold Clock.passage
  split
  · exact h
  · exact Nat.mod_lt _ (by decide)

theorem lineEvent_lawful (l : Line) (active : Bool) (s : State) : Lawful s (lineEvent l active s) := by
  unfold lineEvent
  split
  · exact onRoller_lawful wheelsLeaving_lawful s
  · exact onRoller_lawful wheelsLeaving_lawful s
  · exact onPlate_lawful plateEntry_lawful s
  · exact onPlate_lawful plateExit_lawful s
  · exact onRoller_lawful (feedbackActive_lawful _) s
  · exact onRoller_lawful (feedbackActive_lawful _) s
  · exact onRoller_lawful (feedbackInactive_lawful _) s
  · exact onRoller_lawful (feedbackInactive_lawful _) s
  · exact onRoller_lawful keyStart_lawful s
  · exact onRoller_lawful keyNext_lawful s
  · exact onRoller_lawful keyRepeat_lawful s
  · exact Lawful.after (Capture.abortKey_lawful _)
      (Lawful.after (onPlate_lawful plateAbort_lawful _) (onRoller_lawful rollerAbort_lawful s))
  · exact stopInputActive_lawful s
  · exact stopInputInactive_lawful s
  · exact Lawful.after (composePanel_lawful _) (Lawful.ite (setTimers_lawful s _) (Lawful.refl s))
  · exact Lawful.refl s

theorem setFilter_lawful (s : State) (x : Filter) : Lawful s (s.setFilter x) := ⟨id, id, id, id, id, id, id, id⟩

theorem tick32_lawful (x : Samples) (first : List Line) (s : State) : Lawful s (tick32 x first s) := by
  refine Lawful.after (Lawful.foldl (fun s l => ?_) _ _) (setClock_lawful s fun h => Clock.passage_count_lt h 8 _)
  unfold sampleLine
  exact Lawful.when (lineEvent_lawful _ _ _) (setFilter_lawful s _)

theorem closeWindow_lawful (s : State) : Lawful s (closeWindow s) := by
  refine Lawful.after (onRoller_lawful (fun t => Lawful.after (evalWindow_lawful _ _) (rollerWindow_lawful _ t)) _) ?_
  refine setCounters_lawful s ?_
  rw [State.countLaw_iff, State.countLaw_iff]
  exact fun h => ⟨h.1, Nat.zero_le _, Nat.zero_le _, Nat.zero_le _, Nat.zero_le _⟩

theorem tick8_lawful (first : List TickTaker) (s : State) : Lawful s (tick8 first s) := by
  refine Lawful.after (Lawful.foldl (fun s t => ?_) _ _) (setClock_lawful s fun h => Clock.passage_count_lt h 32 _)
  cases t with
  | pulseCounters => exact closeWindow_lawful s
  | phaseTimers => exact setTimers_lawful s _
  | sequence => exact onRoller_lawful (fun t => setRoller_lawful t _) s
  | guidance => exact guidanceTick8_lawful s

theorem tickStartUp_lawful (s : State) : Lawful s (tickStartUp s) where
  queue := by
    rw [State.queueLaw_iff, State.queueLaw_iff]
    rintro ⟨size, shut, ended, once⟩
    refine ⟨size, shut, ended, ?_⟩
    cases e : s.startUp.ended with
    | false => exact Or.inr e
    | true => exact Or.inl (by simp [tickStartUp, e, once.resolve_right (by simp [e])])
  table := id
  jobs := id
  archive := id
  peers := id
  prompts := id
  counts := id
  chain := id

theorem tick1_lawful (s : State) : Lawful s (tick1 s) := by
  unfold tick1
  refine Lawful.after (tickStartUp_lawful _) (Lawful.after (guidanceTick1_lawful _) (Lawful.after (requestPresence_lawful _) ?_))
  exact Lawful.after (aged_lawful _) (setClock_lawful s fun h => Clock.passage_count_lt h 256 _)

theorem countPulse_lawful (input : PulseInput) (s : State) : Lawful s (countPulse input s) := by
  have edge (n : Nat) : countEdge n ≤ 4095 := Nat.min_le_left _ _
  refine setCounters_lawful s ?_
  rw [State.countLaw_iff, State.countLaw_iff]
  rintro ⟨count, dl, dr, sl, sr⟩
  cases input with
  | dl => exact ⟨count, edge _, dr, sl, sr⟩
  | dr => exact ⟨count, dl, edge _, sl, sr⟩
  | sl => exact ⟨count, dl, dr, edge _, sr⟩
  | sr => exact ⟨count, dl, dr, sl, edge _⟩

theorem pacingUnderflow_lawful (timer : PacingTimer) (s : State) : Lawful s (pacingUnderflow timer s) := by
  unfold pacingUnderflow
  split
  · exact Lawful.ite (Lawful.after (Capture.pace_lawful _ _) (setTimers_lawful s _)) (Lawful.refl s)
  · exact Lawful.ite (Lawful.after (Capture.pace_lawful _ _) (setTimers_lawful s _)) (Lawful.refl s)

/-! ### Power (R164, R172) -/

/-- Every volatile item at its reset value, over as many slots as before. -/
theorem fresh_lawful (s : State) (p : Power) {slots : List SlotStore} (pins : Pins) (queue : List Instr)
    (h : slots.length = s.archive.storage.length) : Lawful s (State.fresh p slots pins queue) where
  queue := fun _ => rfl
  table := fun _ => rfl
  jobs := fun _ => rfl
  archive := by
    rw [State.archiveLaw_iff, State.archiveLaw_iff]
    exact fun a => ⟨h.trans a.slots, List.length_replicate, Nat.zero_lt_succ _, Nat.zero_le _⟩
  peers := fun _ => by rw [State.peerLaw_iff]; simp [State.fresh, Bus.reset]
  prompts := fun _ => rfl
  counts := fun _ => rfl
  chain := fun _ => rfl

/-- The straps are read while no station is listed (R172, R173). -/
theorem releaseReset_lawful {s : State} (held : s.power = .held) (station role : Nat) (printer : Bool) :
    Lawful s (releaseReset station role printer s) where
  queue := id
  table := id
  jobs := id
  archive := id
  peers := by
    rw [State.peerLaw_iff, State.peerLaw_iff]
    rintro ⟨rising, size, -, run⟩
    have empty : s.bus.peers = [] := run.resolve_left (by simp [State.isRunning, held])
    exact ⟨rising, size, by simp [releaseReset, empty], Or.inr empty⟩
  prompts := id
  counts := id
  chain := id

/-! ### Every command and every step -/

theorem onPrinter_lawful {f : State → State} (h : ∀ s, Lawful s (f s)) (s : State) : Lawful s (onPrinter f s) :=
  Lawful.ite (h s) (Lawful.refl s)

theorem heard_lawful {cls kind : Nat} (source : BitVec 4) (payload : List Byte) {deliver : State → State} (h : ∀ s, Lawful s (deliver s))
    (s : State) : Lawful s (outside (hearFrame ⟨cls, kind, source.toNat, payload⟩ deliver) s) :=
  outside_lawful (fun _ run => hearFrame_lawful (Nat.le_of_lt_succ source.isLt) h run) s

theorem paperOutRises_lawful (s : State) : Lawful s (paperOutRises s) :=
  Lawful.ite (setPins_lawful s _) (Lawful.after (onPrinter_lawful paperGone_lawful _) (setPins_lawful s _))

theorem paperOutFalls_lawful (s : State) : Lawful s (paperOutFalls s) :=
  Lawful.ite (Lawful.after (onPrinter_lawful paperBack_lawful _) (setPins_lawful s _)) (setPins_lawful s _)

/-- Every command keeps each law that holds. -/
theorem exec_lawful {c : Instr} {s t : State} (h : exec c s = .next t) : Lawful s t := by
  have next {u : State} (k : Lawful s u) (e : (Host.Outcome.next u : Host.Outcome State Fault Refusal) = .next t) : Lawful s t := by
    cases e; exact k
  cases c with
  | powerOn => exact next (Lawful.ite (fresh_lawful s _ _ _ (s.archive.cutShort_length _)) (Lawful.refl s)) h
  | powerOff left => exact next (Lawful.ite (Lawful.refl s) (fresh_lawful s _ _ _ (s.archive.cutShort_length _))) h
  | resetPin left => exact next (Lawful.ite (Lawful.refl s) (fresh_lawful s _ _ _ (s.archive.cutShort_length _))) h
  | resetRelease station role printer =>
    refine next ?_ h
    split
    · rename_i held; exact releaseReset_lawful held _ _ _
    · exact Lawful.refl s
  | memoryReadComplete c1 c2 c3 =>
    exact next (outside_lawful (fun s _ => Lawful.ite (Lawful.refl s) (setStartUp_lawful s (by rfl) (by rfl) (by rfl))) s) h
  | archiveScanComplete =>
    exact next (outside_lawful (fun s _ => Lawful.ite (Lawful.refl s)
      (Lawful.after (setStartUp_lawful _ (by rfl) (by rfl) (by rfl)) (setArchive_lawful s Archive.Sound.scan))) s) h
  | startUpEnd => exact next (named_lawful _ s) h
  | tick32Hz samples first => exact next (outside_lawful (fun s _ => tick32_lawful _ _ s) s) h
  | tick8Hz first => exact next (outside_lawful (fun s _ => tick8_lawful _ s) s) h
  | tick1Hz => exact next (outside_lawful (fun s _ => tick1_lawful s) s) h
  | peerAbsent => exact next (named_lawful _ s) h
  | pulseEdge input => exact next (outside_lawful (fun s _ => countPulse_lawful _ s) s) h
  | pacingEvent timer => exact next (outside_lawful (fun s _ => pacingUnderflow_lawful _ s) s) h
  | toneUnderflow => exact next (outside_lawful (fun s _ => setTimers_lawful s _) s) h
  | dimmerUnderflow => exact next (outside_lawful (fun s _ => setTimers_lawful s _) s) h
  | axleOnRollers => exact next (named_lawful _ s) h
  | axleLeaves => exact next (named_lawful _ s) h
  | feedbackCountExpiry => exact next (named_lawful _ s) h
  | weldedContactor => exact next (named_lawful _ s) h
  | rollDownComplete => exact next (named_lawful _ s) h
  | warnHornExpiry => exact next (named_lawful _ s) h
  | warningTimeout => exact next (named_lawful _ s) h
  | runOutExpiry => exact next (named_lawful _ s) h
  | spinUpTimeout => exact next (named_lawful _ s) h
  | testTimeLimit => exact next (named_lawful _ s) h
  | crossingExpiry => exact next (named_lawful _ s) h
  | paperWaitExpiry => exact next (named_lawful _ s) h
  | converterStart => exact next (named_lawful _ s) h
  | rowComplete raws => exact next (outside_lawful (fun s _ => takeRow_lawful _ s) s) h
  | inputFaulted input => exact next (named_lawful _ s) h
  | oneOffConversionComplete raw => exact next (outside_lawful (fun s _ => takeOneOff_lawful _ s) s) h
  | evaluationComplete => exact next (outside_lawful (fun s _ => finishEvaluation_lawful s) s) h
  | release => exact next (named_lawful _ s) h
  | slipStop => exact next (named_lawful _ s) h
  | frameStart => exact next (outside_lawful (fun s _ => begins_lawful s) s) h
  | lostArbitration => exact next (outside_lawful (fun s _ => loses_lawful s) s) h
  | bitError => exact next (outside_lawful (fun s _ => errs_lawful s) s) h
  | frameSent => exact next (outside_lawful (fun s _ => sent_lawful _ s) s) h
  | frameDiscarded bits => exact next (outside_lawful (fun s _ => Lawful.ite (setBus_queue_lawful s (by rfl) (by rfl) (by rfl)) (Lawful.refl s)) s) h
  | unknownKindFrame cls kind source payload =>
    exact next (outside_lawful (fun s run => Lawful.ite (Lawful.refl s)
      (hearFrame_lawful (Nat.le_of_lt_succ source.isLt) Lawful.refl run)) s) h
  | presence source payload => exact next (heard_lawful _ _ Lawful.refl s) h
  | laneStop source payload => exact next (heard_lawful _ _ (onLaneStop_lawful _ _) s) h
  | laneResume source payload => exact next (heard_lawful _ _ resumeHeard_lawful s) h
  | motorWarning source payload => exact next (heard_lawful _ _ (onMotorWarning_lawful _ _) s) h
  | warningShown source payload => exact next (heard_lawful _ _ (onWarningShown_lawful _ _) s) h
  | rollersStopped source payload => exact next (heard_lawful _ _ (lowerWarningOf_lawful _) s) h
  | vehicleEntry source payload => exact next (heard_lawful _ _ (registerVehicle_lawful _) s) h
  | vehicleCancel source payload => exact next (heard_lawful _ _ (onVehicleCancel_lawful _) s) h
  | axleEvent source payload => exact next (heard_lawful _ _ (onAxleEvent_lawful _) s) h
  | axleLoad source payload => exact next (heard_lawful _ _ (takeResult_lawful _ _ _) s) h
  | brakeResult source payload => exact next (heard_lawful _ _ (onBrakeResult_lawful _) s) h
  | slipResult source payload => exact next (heard_lawful _ _ (takeResult_lawful _ _ _) s) h
  | certRequest source payload => exact next (heard_lawful _ _ (onCertRequest_lawful _ _) s) h
  | reprintRequest source payload => exact next (heard_lawful _ _ (onReprintRequest_lawful _ _) s) h
  | certDone source payload => exact next (heard_lawful _ _ (onCertDone_lawful _) s) h
  | printAnswer source payload => exact next (heard_lawful _ _ Lawful.refl s) h
  | laneClear source payload => exact next (heard_lawful _ _ onLaneClear_lawful s) h
  | minimumShowTimeMet => exact next (named_lawful _ s) h
  | entryRejectedLifeEnd => exact next (named_lawful _ s) h
  | warningLifeEnd => exact next (named_lawful _ s) h
  | singleCountEnd => exact next (named_lawful _ s) h
  | panelFrameSent => exact next (outside_lawful (fun s _ => panelSent_lawful s) s) h
  | certificateJobStart => exact next (named_lawful _ s) h
  | reprintJobStart => exact next (named_lawful _ s) h
  | printerReadyRise =>
    exact next (Lawful.ite (Lawful.after (onPrinter_lawful tryHand_lawful _) (Lawful.after (setPins_lawful _ _) (settle_lawful s)))
      (setPins_lawful s _)) h
  | lineSent => exact next (outside_lawful (fun s _ => onPrinter_lawful lineSent_lawful s) s) h
  | paperOutActive => exact next (Lawful.ite (Lawful.after (paperOutRises_lawful _) (settle_lawful s)) (setPins_lawful s _)) h
  | paperOutInactive => exact next (Lawful.ite (Lawful.after (paperOutFalls_lawful _) (settle_lawful s)) (setPins_lawful s _)) h
  | eraseComplete left => exact next (outside_lawful (fun s _ => archiveStep_lawful fun a => a.eraseComplete left) s) h
  | recordProgramComplete pass left =>
    exact next (outside_lawful (fun s _ => archiveStep_lawful fun a => a.recordComplete pass left) s) h
  | markProgramComplete pass => exact next (outside_lawful (fun s _ => archiveStep_lawful fun a => a.markComplete pass) s) h
  | busIdle => exact next (outside_lawful (fun s _ => Lawful.ite (setBus_queue_lawful s (by rfl) (by rfl) (by rfl)) (Lawful.refl s)) s) h
  | becomesReceiver => exact next (outside_lawful (fun s _ => Lawful.ite (setBus_queue_lawful s (by rfl) (by rfl) (by rfl)) (Lawful.refl s)) s) h
  | dimmerCompareReached => exact next (outside_lawful (fun s _ => setTimers_lawful s _) s) h

/-- Every step keeps each law that holds. -/
theorem step_lawful {s t : State} (h : step s = .next t) : Lawful s t := by
  cases e : s.pending with
  | nil =>
    rw [step_nil e] at h
    cases h
    exact Lawful.ite (setClock_lawful s period_count_lt) (Lawful.refl s)
  | cons c rest =>
    rw [step_cons e] at h
    exact Lawful.after (exec_lawful h) ⟨id, id, id, id, id, id, id, id⟩

/-- Settles O58, by the laws that every operation of a command keeps. -/
theorem everyStepKeepsTheListLaws : Obligations.EveryStepKeepsTheListLaws := fun _ _ h =>
  have kept := step_lawful h
  ⟨kept.queue, kept.table, kept.jobs, kept.archive, kept.peers⟩

/-- Settles O59, by the laws that every operation of a command keeps. -/
theorem everyStepKeepsThePromptCountAndCaptureLaws : Obligations.EveryStepKeepsThePromptCountAndCaptureLaws := fun _ _ h =>
  have kept := step_lawful h
  ⟨kept.prompts, kept.counts, kept.chain⟩

end Sys2Proof.Machine
end

section
/-! What the shared operations leave, block by block: one simp lemma an operation, read off its frame. -/

namespace Sys2Proof.Machine

/-! ### Frames as equations -/

/-- The lane bus controller but for its transmit queue. -/
abbrev SameBus (s t : State) : Prop :=
  t.bus.mode = s.bus.mode ∧ t.bus.link = s.bus.link ∧ t.bus.recessive = s.bus.recessive ∧ t.bus.peers = s.bus.peers ∧
  t.bus.latch = s.bus.latch ∧ t.bus.canQueue = s.bus.canQueue

/-- The blocks that no operation on prompts, streams, jobs or the transmit queue touches. -/
abbrev SameOuter (s t : State) : Prop :=
  t.power = s.power ∧ t.startUp = s.startUp ∧ t.clock = s.clock ∧ t.filter = s.filter ∧ t.counters = s.counters ∧ t.pending = s.pending

/-- What an operation on prompts leaves. -/
abbrev PromptFrame (s t : State) : Prop :=
  SameOuter s t ∧ SameBus s t ∧ t.pins = s.pins ∧ t.lane = s.lane ∧ t.timers = s.timers ∧ t.capture = s.capture ∧ t.eval = s.eval ∧
  t.roller = s.roller ∧ t.plate = s.plate ∧ t.cert = s.cert ∧ t.archive = s.archive

/-- What a request to queue leaves. -/
abbrev QueueFrame (s t : State) : Prop := PromptFrame s t ∧ t.guidance = s.guidance

/-- What an operation on the capture chain leaves. -/
abbrev ChainFrame (s t : State) : Prop :=
  SameOuter s t ∧ t.bus = s.bus ∧ t.pins = s.pins ∧ t.lane = s.lane ∧ t.roller = s.roller ∧ t.plate = s.plate ∧
  t.guidance = s.guidance ∧ t.cert = s.cert ∧ t.archive = s.archive

/-- What the certificate unit's bookkeeping leaves. -/
abbrev JobFrame (s t : State) : Prop :=
  SameOuter s t ∧ SameBus s t ∧ t.pins = s.pins ∧ t.lane = s.lane ∧ t.timers = s.timers ∧ t.capture = s.capture ∧ t.eval = s.eval ∧
  t.roller = s.roller ∧ t.plate = s.plate ∧ t.guidance = s.guidance ∧ t.archive = s.archive

/-- What a report of the lane view leaves. -/
abbrev LaneFrameOf (s t : State) : Prop :=
  SameOuter s t ∧ SameBus s t ∧ t.pins = s.pins ∧ t.timers = s.timers ∧ t.capture = s.capture ∧ t.eval = s.eval ∧
  t.roller = s.roller ∧ t.plate = s.plate ∧ t.archive = s.archive

/-- What the progress of a print job leaves. -/
abbrev PrintFrame (s t : State) : Prop :=
  SameOuter s t ∧ SameBus s t ∧ t.capture = s.capture ∧ t.eval = s.eval ∧ t.roller = s.roller ∧ t.plate = s.plate

theorem Within.sameBus {bs : List Block} {s t : State} (h : Within bs s t) : SameBus s t := by
  obtain ⟨mode, link, recessive, peers, latch⟩ := Bus.onlyQueues_fields h.2.only
  exact ⟨mode, link, recessive, peers, latch, Bus.onlyQueues_canQueue h.2.only⟩

theorem Within.sameOuter {bs : List Block} {s t : State} (h : Within bs s t)
    (outer : Block.power ∉ bs ∧ Block.startUp ∉ bs ∧ Block.clock ∉ bs ∧ Block.filter ∉ bs ∧ Block.counters ∉ bs ∧ Block.pending ∉ bs) :
    SameOuter s t :=
  ⟨h.same .power outer.1, h.same .startUp outer.2.1, h.same .clock outer.2.2.1, h.same .filter outer.2.2.2.1,
    h.same .counters outer.2.2.2.2.1, h.same .pending outer.2.2.2.2.2⟩

theorem Within.promptFrame {s t : State} (h : Within promptBlocks s t) : PromptFrame s t :=
  ⟨h.sameOuter (by simp), h.sameBus, h.same .pins (by simp), h.same .lane (by simp), h.same .timers (by simp), h.same .capture (by simp),
    h.same .eval (by simp), h.same .roller (by simp), h.same .plate (by simp), h.same .cert (by simp), h.same .archive (by simp)⟩

theorem Within.queueFrame {s t : State} (h : Within [.bus] s t) : QueueFrame s t :=
  ⟨(h.mono (by simp) : Within promptBlocks s t).promptFrame, h.same .guidance (by simp)⟩

theorem Within.jobFrame {s t : State} (h : Within jobBlocks s t) : JobFrame s t :=
  ⟨h.sameOuter (by simp), h.sameBus, h.same .pins (by simp), h.same .lane (by simp), h.same .timers (by simp), h.same .capture (by simp),
    h.same .eval (by simp), h.same .roller (by simp), h.same .plate (by simp), h.same .guidance (by simp), h.same .archive (by simp)⟩

theorem Within.laneFrame {s t : State} (h : Within laneBlocks s t) : LaneFrameOf s t :=
  ⟨h.sameOuter (by simp), h.sameBus, h.same .pins (by simp), h.same .timers (by simp), h.same .capture (by simp),
    h.same .eval (by simp), h.same .roller (by simp), h.same .plate (by simp), h.same .archive (by simp)⟩

theorem Within.printFrame {s t : State} (h : Within printBlocks s t) : PrintFrame s t :=
  ⟨h.sameOuter (by simp), h.sameBus, h.same .capture (by simp), h.same .eval (by simp), h.same .roller (by simp), h.same .plate (by simp)⟩

theorem Within.chainFrame {s t : State} (h : Within chainBlocks s t) : ChainFrame s t :=
  ⟨h.sameOuter (by simp), h.same .bus (by simp), h.same .pins (by simp), h.same .lane (by simp), h.same .roller (by simp), h.same .plate (by simp),
    h.same .guidance (by simp), h.same .cert (by simp), h.same .archive (by simp)⟩

/-! ### The transmit queue and prompts -/

@[simp] theorem queueFrame_frame (f : LaneFrame) (s : State) : QueueFrame s (queueFrame f s) := (queueFrame_within f s).queueFrame

@[simp] theorem requestPresence_frame (s : State) : QueueFrame s (requestPresence s) := (requestPresence_within s).queueFrame

@[simp] theorem composePanel_frame (s : State) : PromptFrame s (composePanel s) := (composePanel_within s).promptFrame

@[simp] theorem refreshPanel_frame (s : State) : PromptFrame s (refreshPanel s) := (refreshPanel_within s).promptFrame

@[simp] theorem panelSent_frame (s : State) : PromptFrame s (panelSent s) := (panelSent_within s).promptFrame

@[simp] theorem showDisplayed_frame (s : State) : PromptFrame s (showDisplayed s) := (showDisplayed_within s).promptFrame

@[simp] theorem rechoose_frame (s : State) : PromptFrame s (rechoose s) := (rechoose_within s).promptFrame

@[simp] theorem firstDisplay_frame (s : State) : PromptFrame s (firstDisplay s) := (firstDisplay_within s).promptFrame

@[simp] theorem raiseWith_frame (p : Prompt) (f : PromptFields) (life : Nat) (confirm : Bool) (s : State) :
    PromptFrame s (raiseWith p f life confirm s) := (raiseWith_within p f life confirm s).promptFrame

@[simp] theorem raise_frame (p : Prompt) (f : PromptFields) (s : State) : PromptFrame s (raise p f s) := (raise_within p f s).promptFrame

@[simp] theorem updateFields_frame (p : Prompt) (f : PromptFields) (s : State) : PromptFrame s (updateFields p f s) :=
  (updateFields_within p f s).promptFrame

@[simp] theorem lower_frame (p : Prompt) (s : State) : PromptFrame s (lower p s) := (lower_within p s).promptFrame

@[simp] theorem lowerAll_frame (ps : List Prompt) (s : State) : PromptFrame s (lowerAll ps s) := (lowerAll_within ps s).promptFrame

@[simp] theorem lowerIfRaised_frame (p : Prompt) (s : State) : PromptFrame s (lowerIfRaised p s) := (lowerIfRaised_within p s).promptFrame

@[simp] theorem judgeEntry_frame (s : State) : PromptFrame s (judgeEntry s) := (judgeEntry_within s).promptFrame

@[simp] theorem guidanceTick1_frame (s : State) : PromptFrame s (guidanceTick1 s) := (guidanceTick1_within s).promptFrame

@[simp] theorem guidanceTicketGone_frame (t : Nat) (s : State) : PromptFrame s (guidanceTicketGone t s) :=
  (guidanceTicketGone_within t s).promptFrame

@[simp] theorem guidanceLaneClear_frame (s : State) : PromptFrame s (guidanceLaneClear s) := (guidanceLaneClear_within s).promptFrame

@[simp] theorem lowerWarningOf_frame (n : Nat) (s : State) : PromptFrame s (lowerWarningOf n s) := (lowerWarningOf_within n s).promptFrame

@[simp] theorem showTimeMet_frame (s : State) : PromptFrame s (showTimeMet s) := (showTimeMet_within s).promptFrame

@[simp] theorem raiseSensorFault_frame (s : State) : PromptFrame s (raiseSensorFault s) :=
  (Within.ite (updateFields_within _ _ s) (raise_within _ _ s)).promptFrame

@[simp] theorem settleSensorFault_frame (s : State) : PromptFrame s (settleSensorFault s) :=
  (Within.ite (lower_within _ s) (updateFields_within _ _ s)).promptFrame

@[simp] theorem showDriveOn_frame (s : State) : PromptFrame s (showDriveOn s) :=
  (Within.ite (lower_within _ s) (raise_within _ _ s)).promptFrame

@[simp] theorem raiseMotorFault_frame (c : FaultCause) (s : State) : PromptFrame s (raiseMotorFault c s) :=
  (Within.ite (Within.refl _ s) (raise_within _ _ s)).promptFrame

@[simp] theorem raiseApply_frame (b : Bool) (s : State) : PromptFrame s (raiseApply b s) := (raise_within _ _ s).promptFrame

/-! ### The certificate unit and the lane view -/

@[simp] theorem recheck_frame (s : State) : JobFrame s (recheck s) := (recheck_within s).jobFrame

@[simp] theorem answer_frame (r : Nat) (sub : Subject) (o : AnswerOutcome) (s : State) : QueueFrame s (answer r sub o s) :=
  (Within.ite (Within.refl _ s) (queueFrame_within _ s)).queueFrame

@[simp] theorem certTicketComplete_frame (t : Nat) (s : State) : JobFrame s (certTicketComplete t s) :=
  (certTicketComplete_within t s).jobFrame

@[simp] theorem certTicketGone_frame (t : Nat) (s : State) : JobFrame s (certTicketGone t s) := (certTicketGone_within t s).jobFrame

@[simp] theorem certLaneClear_frame (s : State) : JobFrame s (certLaneClear s) := (certLaneClear_within s).jobFrame

@[simp] theorem dropHead_frame (s : State) : JobFrame s (dropHead s) := (dropHead_within s).jobFrame

@[simp] theorem certRequest_frame (r t : Nat) (s : State) : JobFrame s (certRequest r t s) := (certRequest_within r t s).jobFrame

@[simp] theorem reprintRequest_frame (r : Nat) (n : CertNo) (s : State) : JobFrame s (reprintRequest r n s) :=
  (reprintRequest_within r n s).jobFrame

@[simp] theorem failJob_frame (s : State) : JobFrame s (failJob s) := (failJob_within s).jobFrame

@[simp] theorem ticketDropped_frame (t : Nat) (s : State) : LaneFrameOf s (ticketDropped t s) := (ticketDropped_within t s).laneFrame

@[simp] theorem takeResult_frame (t a : Nat) (r : AxleResult) (s : State) : LaneFrameOf s (takeResult t a r s) :=
  (takeResult_within t a r s).laneFrame

@[simp] theorem retestAll_frame (s : State) : LaneFrameOf s (retestAll s) := (retestAll_within s).laneFrame

@[simp] theorem registerVehicle_frame (f : EntryFields) (s : State) : LaneFrameOf s (registerVehicle f s) :=
  (registerVehicle_within f s).laneFrame

@[simp] theorem clearLane_frame (s : State) : LaneFrameOf s (clearLane s) := (clearLane_within s).laneFrame

/-- An axle event of this station: its frame, and the report to the lane view (R11). -/
@[simp] theorem localAxleEvent_frame (a : FixedAxle) (ev : AxleEventKind) (role : MeasuringRole) (s : State) :
    LaneFrameOf s (localAxleEvent a ev role s) ∧ (localAxleEvent a ev role s).cert = s.cert ∧
    (localAxleEvent a ev role s).guidance = s.guidance ∧
    (localAxleEvent a ev role s).lane = s.lane.axleEvent a.ticket a.axle ev role :=
  ⟨(localAxleEvent_within a ev role s).laneFrame, rfl, rfl, rfl⟩

@[simp] theorem startHead_frame (s : State) : PrintFrame s (startHead s) := (startHead_within s).printFrame

@[simp] theorem lineSent_frame (s : State) : PrintFrame s (lineSent s) := (lineSent_within s).printFrame

@[simp] theorem paperGone_frame (s : State) : PrintFrame s (paperGone s) := (paperGone_within s).printFrame

@[simp] theorem paperBack_frame (s : State) : PrintFrame s (paperBack s) := (paperBack_within s).printFrame

@[simp] theorem tryHand_frame (s : State) : PrintFrame s (tryHand s) := ((tryHand_within s).mono (by simp)).printFrame

@[simp] theorem archiveStep_frame (r : Archive × List ArchiveReport) (s : State) : PrintFrame s (archiveStep r s) :=
  (archiveStep_within r s).printFrame

/-! ### The capture chain and the timers -/

@[simp] theorem writeStream_frame (i : StreamId) (k : StreamConfig) (s : State) :
    ChainFrame s (writeStream i k s) ∧ (writeStream i k s).timers = s.timers :=
  ⟨(writeStream_within i k s).chainFrame, (writeStream_within i k s).same .timers (by simp)⟩

@[simp] theorem setGate_frame (b : Bool) (s : State) :
    ChainFrame s (setGate b s) ∧ (setGate b s).timers = s.timers ∧ (setGate b s).eval = s.eval :=
  ⟨(setGate_within b s).chainFrame, rfl, rfl⟩

@[simp] theorem writePhaseStreams_frame (p : Phase) (pressure : Bool) (s : State) : ChainFrame s (writePhaseStreams p pressure s) := by
  have h := writePhaseStreams_within p pressure s
  exact ⟨h.sameOuter (by simp), h.same .bus (by simp), h.same .pins (by simp), h.same .lane (by simp), h.same .roller (by simp),
    h.same .plate (by simp), h.same .guidance (by simp), h.same .cert (by simp), h.same .archive (by simp)⟩

@[simp] theorem startSeqTimer_frame (n : Nat) (s : State) :
    ChainFrame s (startSeqTimer n s) ∧ (startSeqTimer n s).capture = s.capture ∧ (startSeqTimer n s).eval = s.eval ∧
    (startSeqTimer n s).timers = { s.timers with seqTimer := ⟨true, max 1 n, false⟩ } :=
  ⟨⟨⟨rfl, rfl, rfl, rfl, rfl, rfl⟩, rfl, rfl, rfl, rfl, rfl, rfl, rfl, rfl⟩, rfl, rfl, rfl⟩

@[simp] theorem cancelSeqTimer_frame (s : State) :
    ChainFrame s (cancelSeqTimer s) ∧ (cancelSeqTimer s).capture = s.capture ∧ (cancelSeqTimer s).eval = s.eval ∧
    (cancelSeqTimer s).timers = { s.timers with seqTimer := ⟨false, 0, false⟩ } :=
  ⟨⟨⟨rfl, rfl, rfl, rfl, rfl, rfl⟩, rfl, rfl, rfl, rfl, rfl, rfl, rfl, rfl⟩, rfl, rfl, rfl⟩

@[simp] theorem setChain_frame (s : State) (ce : Capture × Eval) :
    ChainFrame s (s.setChain ce) ∧ (s.setChain ce).timers = s.timers ∧ (s.setChain ce).capture = ce.1 ∧ (s.setChain ce).eval = ce.2 :=
  ⟨(setChain_within s ce).chainFrame, rfl, rfl, rfl⟩

/-- What a command to the evaluation unit leaves. -/
abbrev EvalFrame (s t : State) : Prop := ChainFrame s t ∧ t.timers = s.timers ∧ t.capture = s.capture

theorem evalFrame (s : State) (x : Eval) : EvalFrame s (s.setEval x) :=
  ⟨⟨⟨rfl, rfl, rfl, rfl, rfl, rfl⟩, rfl, rfl, rfl, rfl, rfl, rfl, rfl, rfl⟩, rfl, rfl⟩

@[simp] theorem evalBeginWeigh_frame (s : State) : EvalFrame s (evalBeginWeigh s) ∧ (evalBeginWeigh s).eval = s.eval.beginWeigh s.capture :=
  ⟨evalFrame s _, rfl⟩

@[simp] theorem evalBeginZero_frame (s : State) : EvalFrame s (evalBeginZero s) ∧ (evalBeginZero s).eval = s.eval.beginZero s.capture :=
  ⟨evalFrame s _, rfl⟩

@[simp] theorem evalBeginTest_frame (t : TestSetup) (s : State) :
    EvalFrame s (evalBeginTest t s) ∧ (evalBeginTest t s).eval = s.eval.beginTest s.capture t := ⟨evalFrame s _, rfl⟩

@[simp] theorem evalEndTest_frame (s : State) : EvalFrame s (evalEndTest s) ∧ (evalEndTest s).eval = s.eval.endTest := ⟨evalFrame s _, rfl⟩

@[simp] theorem evalDiscardTest_frame (s : State) : EvalFrame s (evalDiscardTest s) ∧ (evalDiscardTest s).eval = s.eval.discardTest :=
  ⟨evalFrame s _, rfl⟩

@[simp] theorem evalDiscardAxle_frame (s : State) : EvalFrame s (evalDiscardAxle s) ∧ (evalDiscardAxle s).eval = s.eval.discardAxle :=
  ⟨evalFrame s _, rfl⟩

@[simp] theorem evalBeginCrossing_frame (s : State) :
    EvalFrame s (evalBeginCrossing s) ∧ (evalBeginCrossing s).eval = s.eval.beginCrossing s.capture := ⟨evalFrame s _, rfl⟩

@[simp] theorem evalDiscardCrossing_frame (s : State) :
    EvalFrame s (evalDiscardCrossing s) ∧ (evalDiscardCrossing s).eval = s.eval.discardCrossing := ⟨evalFrame s _, rfl⟩

@[simp] theorem evalRequestRecord_frame (s : State) :
    EvalFrame s (evalRequestRecord s).1 ∧ (evalRequestRecord s).1.eval = (drain s.capture s.eval.requestRecord).1 := ⟨evalFrame s _, rfl⟩

@[simp] theorem evalEndCrossing_frame (s : State) :
    EvalFrame s (evalEndCrossing s).1 ∧ (evalEndCrossing s).1.eval = (drain s.capture s.eval.endCrossing).1 := ⟨evalFrame s _, rfl⟩

/-! ### Changes of the sequences' items -/

/-- What a change of the roller sequence's or the plate sequence's items leaves: all but those items and the transmit queue. -/
abbrev ItemFrame (s t : State) : Prop :=
  SameOuter s t ∧ SameBus s t ∧ t.pins = s.pins ∧ t.lane = s.lane ∧ t.timers = s.timers ∧ t.capture = s.capture ∧ t.eval = s.eval ∧
  t.guidance = s.guidance ∧ t.cert = s.cert ∧ t.archive = s.archive

theorem itemFrame {s t : State} (h : Within [.bus, .roller, .plate] s t) : ItemFrame s t :=
  ⟨h.sameOuter (by simp), h.sameBus, h.same .pins (by simp), h.same .lane (by simp), h.same .timers (by simp), h.same .capture (by simp),
    h.same .eval (by simp), h.same .guidance (by simp), h.same .cert (by simp), h.same .archive (by simp)⟩

/-- A PRESENCE asked for touches neither sequence. -/
theorem presenceIfChanged_items (s t : State) :
    (presenceIfChanged s t).roller = t.roller ∧ (presenceIfChanged s t).plate = t.plate := by
  unfold presenceIfChanged
  split <;> exact ⟨rfl, rfl⟩

@[simp] theorem changeRoller_frame (f : Roller → Roller) (s : State) :
    ItemFrame s (changeRoller f s) ∧ (changeRoller f s).plate = s.plate ∧ (changeRoller f s).roller = f s.roller :=
  have items := presenceIfChanged_items s (s.setRoller (f s.roller))
  ⟨itemFrame (presenceIfChanged_within s _ ((Within.setRoller s _).mono (by simp)) (by simp)), items.2, items.1⟩

@[simp] theorem changePlate_frame (f : Plate → Plate) (s : State) :
    ItemFrame s (changePlate f s) ∧ (changePlate f s).roller = s.roller ∧ (changePlate f s).plate = f s.plate :=
  have items := presenceIfChanged_items s (s.setPlate (f s.plate))
  ⟨itemFrame (presenceIfChanged_within s _ ((Within.setPlate s _).mono (by simp)) (by simp)), items.1, items.2⟩

/-- The items of the sequence with the motors stopped (R97). -/
def Roller.stopped (r : Roller) : Roller :=
  if r.motors then { r with motors := false, fbL := false, fbR := false, weldedCount := 0 } else r

/-- A motor stop leaves the outputs OFF and nothing confirmed (R97). -/
@[simp] theorem motorStop_frame (s : State) :
    ItemFrame s (motorStop s) ∧ (motorStop s).plate = s.plate ∧ (motorStop s).roller = s.roller.stopped := by
  unfold motorStop Roller.stopped
  split
  · simp [ItemFrame, SameOuter, SameBus]
  · simp [ItemFrame, SameOuter, SameBus]

@[simp] theorem Roller.stopped_fields (r : Roller) :
    r.stopped.phase = r.phase ∧ r.stopped.fixed = r.fixed ∧ r.stopped.weighed = r.weighed ∧ r.stopped.kind = r.kind ∧
    r.stopped.endReason = r.endReason ∧ r.stopped.held = r.held ∧ r.stopped.resultWritten = r.resultWritten ∧
    r.stopped.motors = false ∧ r.stopped.welded = r.welded ∧ r.stopped.faultHold = r.faultHold ∧ r.stopped.roleClash = r.roleClash ∧
    r.stopped.releaseOwed = r.releaseOwed ∧ r.stopped.axle = r.axle ∧ r.stopped.wheelCount = r.wheelCount ∧
    r.stopped.rollDown = r.rollDown ∧ r.stopped.awaited = r.awaited ∧ r.stopped.warnWait = r.warnWait := by
  unfold Roller.stopped
  split
  · simp [Roller.axle]
  · rename_i off; simp [Bool.eq_false_iff.mpr off]

end Sys2Proof.Machine
end

section
/-! What each entry to a phase of the roller sequence makes of the sequence's items, and what it leaves of the other blocks (R96 to R118). -/

namespace Sys2Proof.Machine

/-- What an entry to a phase of a sequence leaves. -/
abbrev EntryFrame (s t : State) : Prop :=
  SameOuter s t ∧ SameBus s t ∧ t.pins = s.pins ∧ t.lane = s.lane ∧ t.cert = s.cert ∧ t.archive = s.archive

@[simp] theorem enterIdle_frame (k : Bool) (s : State) :
    EntryFrame s (enterIdle k s) ∧ (enterIdle k s).plate = s.plate ∧ (enterIdle k s).roller = s.roller.idled k := by
  unfold enterIdle
  dsimp only
  split <;> split <;> simp [EntryFrame, SameOuter, SameBus]

@[simp] theorem enterPositioned_frame (s : State) :
    EntryFrame s (enterPositioned s) ∧ (enterPositioned s).plate = s.plate ∧
    (enterPositioned s).roller = { s.roller with phase := .positioned, awaited := [], warnWait := none } := by
  simp [enterPositioned, EntryFrame, SameOuter, SameBus]

@[simp] theorem enterWarn_frame (s : State) :
    EntryFrame s (enterWarn s) ∧ (enterWarn s).plate = s.plate ∧
    (enterWarn s).roller =
      { s.roller with phase := .warn, awaited := s.panelPeers, warnWait := some (warnWaitOf s.panelPeers).1, endReason := none,
                      held := none, resultWritten := false } := by
  simp [enterWarn, EntryFrame, SameOuter, SameBus, State.panelPeers]

@[simp] theorem enterSpinUp_frame (s : State) :
    EntryFrame s (enterSpinUp s) ∧ (enterSpinUp s).plate = s.plate ∧ (enterSpinUp s).guidance = s.guidance ∧
    (enterSpinUp s).roller =
      { s.roller with phase := .spinUp, motors := true, feedbackCount := 0, awaited := [], warnWait := none
                      fbL := s.filter.accepted.fbL, fbR := s.filter.accepted.fbR } := by
  simp [enterSpinUp, EntryFrame, SameOuter, SameBus]

@[simp] theorem enterZero_frame (s : State) :
    EntryFrame s (enterZero s) ∧ (enterZero s).plate = s.plate ∧ (enterZero s).roller = { s.roller with phase := .zero } := by
  simp [enterZero, EntryFrame, SameOuter, SameBus]

@[simp] theorem enterTest_frame (s : State) :
    EntryFrame s (enterTest s) ∧ (enterTest s).plate = s.plate ∧ (enterTest s).roller = { s.roller with phase := .test } := by
  simp [enterTest, EntryFrame, SameOuter, SameBus]

@[simp] theorem enterExit_frame (s : State) :
    EntryFrame s (enterExit s) ∧ (enterExit s).plate = s.plate ∧
    (enterExit s).roller = { s.roller with phase := .exit, wheelCount := 0, awaited := [], warnWait := none } := by
  simp [enterExit, EntryFrame, SameOuter, SameBus]

@[simp] theorem enterWeigh_frame (s : State) :
    SameOuter s (enterWeigh s) ∧ SameBus s (enterWeigh s) ∧ (enterWeigh s).pins = s.pins ∧ (enterWeigh s).cert = s.cert ∧
    (enterWeigh s).archive = s.archive ∧ (enterWeigh s).plate = s.plate ∧
    (enterWeigh s).lane =
      s.lane.axleEvent (s.lane.expected .roller).ticket (s.lane.expected .roller).axle .arrived .roller ∧
    (enterWeigh s).roller = { s.roller with phase := .weigh, fixed := some (s.lane.expected .roller), kind := .service } := by
  unfold enterWeigh
  dsimp only
  split <;> simp [SameOuter, SameBus]

@[simp] theorem Roller.idled_fields (r : Roller) (k : Bool) :
    (r.idled k).phase = .idle ∧ (r.idled k).motors = r.motors ∧ (r.idled k).faultHold = r.faultHold ∧
    (r.idled k).fixed = (if k then r.fixed else none) ∧ (r.idled k).weighed = (k && r.weighed) ∧ (r.idled k).welded = r.welded ∧
    (r.idled k).releaseOwed = (k && r.releaseOwed) ∧ (r.idled k).roleClash = r.roleClash ∧ (r.idled k).kind = r.kind := by
  simp [Roller.idled]

/-- A fault on a free sequence: motors stopped, hold set, IDLE with the axle kept (R114). -/
theorem rollerFault_free (cause : FaultCause) (s : State) (free : s.roller.faultHold = none) :
    (rollerFault cause s).roller = ({ s.roller.stopped with faultHold := some cause } : Roller).idled true := by
  simp [rollerFault, free]

/-- A fault under the hold: a welded contactor takes the hold over, another fault changes no item (R114). -/
theorem rollerFault_held (cause : FaultCause) (s : State) (held : s.roller.faultHold.isSome = true) :
    (rollerFault cause s).roller = if cause = .welded then { s.roller with faultHold := some .welded } else s.roller := by
  unfold rollerFault
  rw [if_pos held]
  split <;> simp

@[simp] theorem rollerFault_frame (cause : FaultCause) (s : State) :
    EntryFrame s (rollerFault cause s) ∧ (rollerFault cause s).plate = s.plate := by
  unfold rollerFault
  split
  · split <;> simp [EntryFrame, SameOuter, SameBus]
  · simp [EntryFrame, SameOuter, SameBus]

@[simp] theorem writeResult_frame (s : State) :
    SameOuter s (writeResult s) ∧ SameBus s (writeResult s) ∧ (writeResult s).pins = s.pins ∧ (writeResult s).timers = s.timers ∧
    (writeResult s).capture = s.capture ∧ (writeResult s).eval = s.eval ∧ (writeResult s).plate = s.plate ∧
    (writeResult s).archive = s.archive ∧
    (writeResult s).roller =
      (if s.roller.held.isSome then { s.roller with resultWritten := true } else s.roller) := by
  unfold writeResult
  split
  · rename_i e; simp [SameOuter, SameBus, e]
  · rename_i e; simp [SameOuter, SameBus, e]

@[simp] theorem enterResult_frame (s : State) :
    SameOuter s (enterResult s) ∧ SameBus s (enterResult s) ∧ (enterResult s).pins = s.pins ∧ (enterResult s).plate = s.plate ∧
    (enterResult s).archive = s.archive ∧
    (enterResult s).roller =
      { s.roller with phase := .result, wheelCount := 0, resultWritten := s.roller.held.isSome || s.roller.resultWritten } := by
  unfold enterResult
  cases e : s.roller.held <;> simp [SameOuter, SameBus, e]

@[simp] theorem axleLeft_frame (s : State) :
    SameOuter s (axleLeft s) ∧ SameBus s (axleLeft s) ∧ (axleLeft s).pins = s.pins ∧ (axleLeft s).plate = s.plate ∧
    (axleLeft s).cert = s.cert ∧ (axleLeft s).archive = s.archive ∧
    (axleLeft s).lane = s.lane.axleEvent s.roller.axle.ticket s.roller.axle.axle .left .roller ∧
    (axleLeft s).roller = s.roller.idled false := by
  simp [axleLeft, SameOuter, SameBus]

@[simp] theorem abandonAxle_frame (s : State) :
    EntryFrame s (abandonAxle s) ∧ (abandonAxle s).plate = s.plate ∧ (abandonAxle s).roller = s.roller.stopped.idled false := by
  simp [abandonAxle, EntryFrame, SameOuter, SameBus]

@[simp] theorem failWarning_frame (s : State) :
    EntryFrame s (failWarning s) ∧ (failWarning s).plate = s.plate ∧
    (failWarning s).roller = { s.roller with phase := .positioned, awaited := [], warnWait := none } := by
  simp [failWarning, EntryFrame, SameOuter, SameBus]

end Sys2Proof.Machine
end

section
/-! The motor law along every event and every step (R97, R102, R114, R117). -/

namespace Sys2Proof.Machine

/-! ### The law as a structure -/

/-- The motor law, taken apart. -/
structure State.Geared (s : State) : Prop where
  turning : s.roller.motors = true → s.roller.phase.turns = true
  resting : s.bus.latch.stopped = true ∨ s.roller.faultHold.isSome = true ∨ s.rollerActive = false → s.roller.phase = .idle
  once : s.startUp.endDue = true → s.startUp.ended = false

/-- Nothing keeps the sequence in IDLE but its own rules: the station takes its events, the lane is not stopped, no fault holds. -/
structure State.Free (s : State) : Prop where
  active : s.rollerActive = true
  moving : s.bus.latch.stopped = false
  sound : s.roller.faultHold = none

theorem State.Geared.free {s : State} (g : s.Geared) (busy : s.roller.phase ≠ .idle) : s.Free where
  active := by by_contra no; exact busy (g.resting (Or.inr (Or.inr (Bool.eq_false_iff.mpr no))))
  moving := by by_contra no; exact busy (g.resting (Or.inl (by simpa using no)))
  sound := by by_contra no; exact busy (g.resting (Or.inr (Or.inl (Option.isSome_iff_ne_none.mpr no))))

theorem State.motorLaw_iff {s : State} : s.motorLaw = true ↔ s.Geared := by
  simp only [State.motorLaw, Bool.and_eq_true, Bool.or_eq_true, Bool.not_eq_true', Bool.or_eq_false_iff, beq_iff_eq, and_assoc]
  constructor
  · rintro ⟨turning, resting, once⟩
    refine ⟨fun on => (turning.resolve_left (by simp [on])).1, fun rest => resting.resolve_left ?_, fun due =>
      once.resolve_left (by simp [due])⟩
    rintro ⟨moving, sound, active⟩
    rcases rest with h | h | h
    · simp [h] at moving
    · simp [h] at sound
    · simp [h] at active
  · intro g
    have busy (on : s.roller.motors = true) : s.roller.phase ≠ .idle := fun idle => by simpa [idle, Phase.turns] using g.turning on
    refine ⟨?_, ?_, ?_⟩
    · cases on : s.roller.motors with
      | false => exact Or.inl rfl
      | true => exact Or.inr ⟨g.turning on, (g.free (busy on)).moving, (g.free (busy on)).active⟩
    · by_cases idle : s.roller.phase = .idle
      · exact Or.inr idle
      · have free := g.free idle
        exact Or.inl ⟨free.moving, by simp [free.sound], by simp [free.active]⟩
    · cases due : s.startUp.endDue with
      | false => exact Or.inl rfl
      | true => exact Or.inr (g.once due)

theorem State.Geared.off {s : State} (g : s.Geared) (still : s.roller.phase.turns = false) : s.roller.motors = false := by
  by_contra on
  simpa [still] using g.turning (by simpa using on)

/-- What the law reads. -/
structure SameGear (s t : State) : Prop where
  motors : t.roller.motors = s.roller.motors
  phase : t.roller.phase = s.roller.phase
  hold : t.roller.faultHold = s.roller.faultHold
  stopped : t.bus.latch.stopped = s.bus.latch.stopped
  power : t.power = s.power
  startUp : t.startUp = s.startUp

theorem State.rollerActive_congr {s t : State} (power : t.power = s.power) (startUp : t.startUp = s.startUp) :
    t.rollerActive = s.rollerActive := by
  simp [State.rollerActive, State.started, State.isRunning, power, startUp]

theorem SameGear.refl (s : State) : SameGear s s := ⟨rfl, rfl, rfl, rfl, rfl, rfl⟩

theorem SameGear.after {s t u : State} (k : SameGear t u) (h : SameGear s t) : SameGear s u :=
  ⟨k.motors.trans h.motors, k.phase.trans h.phase, k.hold.trans h.hold, k.stopped.trans h.stopped, k.power.trans h.power,
    k.startUp.trans h.startUp⟩

theorem State.Geared.congr {s t : State} (g : s.Geared) (h : SameGear s t) : t.Geared where
  turning := by rw [h.motors, h.phase]; exact g.turning
  resting := by rw [h.stopped, h.hold, h.phase, State.rollerActive_congr h.power h.startUp]; exact g.resting
  once := by rw [h.startUp]; exact g.once

/-- An operation within blocks other than power, start-up and the roller sequence, which queues frames at most, leaves the law alone. -/
theorem Within.sameGear {bs : List Block} {s t : State} (h : Within bs s t)
    (outer : Block.power ∉ bs ∧ Block.startUp ∉ bs ∧ Block.roller ∉ bs) : SameGear s t := by
  have roller : t.roller = s.roller := h.same .roller outer.2.2
  exact ⟨by rw [roller], by rw [roller], by rw [roller], congrArg _ h.sameBus.2.2.2.2.1, h.same .power outer.1, h.same .startUp outer.2.1⟩

/-- A state in IDLE with the motors off keeps the law. -/
theorem State.Geared.rests {s t : State} (g : s.Geared) (idle : t.roller.phase = .idle) (off : t.roller.motors = false)
    (startUp : t.startUp = s.startUp) : t.Geared where
  turning := by simp [off]
  resting := fun _ => idle
  once := by rw [startUp]; exact g.once

/-- A free sequence keeps the law in every phase that has the motors as they should be. -/
theorem State.Geared.works {s t : State} (g : s.Geared) (free : s.Free) (turning : t.roller.motors = true → t.roller.phase.turns = true)
    (hold : t.roller.faultHold = none)
    (frame : t.bus.latch.stopped = s.bus.latch.stopped ∧ t.power = s.power ∧ t.startUp = s.startUp) : t.Geared where
  turning := turning
  resting := by
    rw [frame.1, free.moving, hold, State.rollerActive_congr frame.2.1 frame.2.2, free.active]
    simp
  once := by rw [frame.2.2]; exact g.once

/-! ### Operations of the roller sequence -/

theorem rollerFault_idle {s : State} (g : s.Geared) (cause : FaultCause) :
    (rollerFault cause s).roller.phase = .idle ∧ (rollerFault cause s).roller.motors = false := by
  cases free : s.roller.faultHold with
  | none => simp [rollerFault_free cause s free]
  | some held =>
    have idle : s.roller.phase = .idle := g.resting (by simp [free])
    have off : s.roller.motors = false := g.off (by simp [idle, Phase.turns])
    rw [rollerFault_held cause s (by simp [free])]
    split <;> exact ⟨idle, off⟩

theorem rollerFault_geared (cause : FaultCause) {s : State} (g : s.Geared) : (rollerFault cause s).Geared :=
  have idle := rollerFault_idle g cause
  g.rests idle.1 idle.2 (by simp)

theorem enterPositioned_geared {s : State} (g : s.Geared) (free : s.Free) (off : s.roller.motors = false) :
    (enterPositioned s).Geared := g.works free (by simp [off]) (by simp [free.sound]) (by simp)

theorem enterWarn_geared {s : State} (g : s.Geared) (free : s.Free) (off : s.roller.motors = false) : (enterWarn s).Geared :=
  g.works free (by simp [off]) (by simp [free.sound]) (by simp)

theorem enterExit_geared {s : State} (g : s.Geared) (free : s.Free) (off : s.roller.motors = false) : (enterExit s).Geared :=
  g.works free (by simp [off]) (by simp [free.sound]) (by simp)

theorem enterIdle_geared (k : Bool) {s : State} (g : s.Geared) (off : s.roller.motors = false) : (enterIdle k s).Geared :=
  g.rests (by simp) (by simp [off]) (by simp)

theorem writeResult_gear (s : State) : SameGear s (writeResult s) := by
  refine ⟨?_, ?_, ?_, by simp, by simp, by simp⟩ <;> (simp only [writeResult_frame]; split <;> rfl)

theorem recordReport_geared (r : EvalReport) {s : State} (g : s.Geared) : (recordReport r s).Geared := by
  unfold recordReport
  split
  · rename_i rec
    have holds : SameGear s (s.setRoller { s.roller with held := some rec }) := ⟨rfl, rfl, rfl, rfl, rfl, rfl⟩
    dsimp only
    split
    · exact g.congr ((writeResult_gear _).after holds)
    · exact g.congr holds
  · exact rollerFault_geared .noRows g
  · exact g

theorem enterStopping_geared (reason : EndReason) {s : State} (g : s.Geared) (free : s.Free) : (enterStopping reason s).Geared := by
  unfold enterStopping
  dsimp only
  split
  · exact recordReport_geared _ (g.works free (by simp) (by simp [free.sound]) (by simp))
  · exact g.works free (by simp) (by simp [free.sound]) (by simp)

theorem axleLeft_geared {s : State} (g : s.Geared) (off : s.roller.motors = false) : (axleLeft s).Geared :=
  g.rests (by simp) (by simp [off]) (by simp)

theorem abandonAxle_geared {s : State} (g : s.Geared) : (abandonAxle s).Geared := g.rests (by simp) (by simp) (by simp)

theorem rollerReport_geared (r : EvalReport) {s : State} (g : s.Geared) : (rollerReport r s).Geared := by
  unfold rollerReport
  split
  · rename_i phase
    have free := g.free (by simp [phase])
    have off : s.roller.motors = false := g.off (by simp [phase, Phase.turns])
    exact g.works free (by simp [off]) (by simp [free.sound]) (by simp)
  · rename_i phase
    have free := g.free (by simp [phase])
    exact g.works free (by simp [Phase.turns]) (by simp [free.sound]) (by simp)
  · exact recordReport_geared _ g
  · exact recordReport_geared _ g
  · exact g

theorem rollerWindow_geared (w : WindowSample) {s : State} (g : s.Geared) : (rollerWindow w s).Geared := by
  unfold rollerWindow
  split
  · rename_i phase
    have free := g.free (by simp [phase])
    split
    · exact g.works free (by simp [Phase.turns]) (by simp [free.sound]) (by simp)
    · exact g
  · exact g.congr ⟨rfl, rfl, rfl, rfl, rfl, rfl⟩
  · exact g

theorem keyStart_geared {s : State} (g : s.Geared) : (keyStart s).Geared := by
  unfold keyStart
  split
  · rename_i phase
    have free := g.free (by simp [phase])
    have off : s.roller.motors = false := g.off (by simp [phase, Phase.turns])
    exact g.works free (by simp [off]) (by simp [free.sound]) (by simp)
  · exact g

theorem keyNext_geared {s : State} (g : s.Geared) : (keyNext s).Geared := by
  unfold keyNext
  split
  · rename_i phase
    exact enterExit_geared g (g.free (by simp [phase])) (g.off (by simp [phase, Phase.turns]))
  · rename_i phase
    have free := g.free (by simp [phase])
    have off : s.roller.motors = false := g.off (by simp [phase, Phase.turns])
    split
    · exact g
    · split
      · exact g.works free (by simp [off]) (by simp [free.sound]) (by simp)
      · exact enterExit_geared g free off
  · exact g

theorem keyRepeat_geared {s : State} (g : s.Geared) : (keyRepeat s).Geared := by
  unfold keyRepeat
  split
  · rename_i h
    have phase : s.roller.phase = .result := by simpa using (Bool.and_eq_true_iff.mp h).1
    exact enterWarn_geared g (g.free (by simp [phase])) (g.off (by simp [phase, Phase.turns]))
  · exact g

theorem releaseHold_geared (cause : FaultCause) {s : State} (g : s.Geared) (active : s.rollerActive = true)
    (held : s.roller.faultHold.isSome = true) : (releaseHold cause s).Geared := by
  have idle : s.roller.phase = .idle := g.resting (Or.inr (Or.inl held))
  have off : s.roller.motors = false := g.off (by simp [idle, Phase.turns])
  unfold releaseHold
  split
  · exact g
  · dsimp only
    split
    · rename_i h
      have moving : s.bus.latch.stopped = false := by simp at h; exact h.2
      have lifted : (s.setRoller { s.roller with faultHold := none }).Geared := g.rests idle off rfl
      exact lifted.works ⟨active, moving, rfl⟩ (by simp [off]) (by simp) (by simp)
    · exact g.rests (by simp) (by simp [off]) (by simp)

theorem rollerAbort_geared {s : State} (g : s.Geared) (active : s.rollerActive = true) : (rollerAbort s).Geared := by
  unfold rollerAbort
  split
  · rename_i held
    exact releaseHold_geared _ g active (by simp [held])
  · split
    · rename_i test
      have free := g.free (s := s) fun idle => by simp [idle, Phase.inTest] at test
      exact g.works free (by simp) (by simp [free.sound]) (by simp)
    · exact g

theorem wheelsLeaving_geared {s : State} (g : s.Geared) : (wheelsLeaving s).Geared := by
  unfold wheelsLeaving
  split
  · exact g.rests (by simp) (by simp) (by simp)
  · exact g

theorem feedbackActive_geared (left : Bool) {s : State} (g : s.Geared) : (feedbackActive left s).Geared := by
  unfold feedbackActive
  split
  · exact g.congr (by split <;> exact ⟨rfl, rfl, rfl, rfl, rfl, rfl⟩)
  · exact g

theorem feedbackInactive_geared (left : Bool) {s : State} (g : s.Geared) : (feedbackInactive left s).Geared := by
  have cleared {t : State} (g : t.Geared) : (clearWelded t).Geared := by
    unfold clearWelded
    split
    · exact g.congr ⟨rfl, rfl, rfl, rfl, rfl, rfl⟩
    · exact g
  unfold feedbackInactive
  dsimp only
  refine cleared ?_
  split_ifs
  · exact rollerFault_geared _ g
  · exact g
  · exact rollerFault_geared _ g
  · exact g

theorem removeAwaited_gear (n : Nat) (s : State) : SameGear s (removeAwaited n s) := by
  unfold removeAwaited
  dsimp only
  split
  · split
    · exact ⟨by simp, by simp, by simp, by simp, by simp, by simp⟩
    · exact ⟨rfl, rfl, rfl, rfl, rfl, rfl⟩
  · exact SameGear.refl s

theorem holdChanged_gear (wasHeld : Bool) (s : State) : SameGear s (holdChanged wasHeld s) := by
  unfold holdChanged
  split
  · exact ⟨by simp, by simp, by simp, by simp, by simp, by simp⟩
  · exact SameGear.refl s

theorem judgeRoleClash_gear (s : State) : SameGear s (judgeRoleClash s) := by
  unfold judgeRoleClash
  dsimp only
  split
  · split
    · exact SameGear.refl s
    · exact (holdChanged_gear _ _).after ⟨by simp, by simp, by simp, by simp, by simp, by simp⟩
  · split
    · exact (holdChanged_gear _ _).after ⟨by simp, by simp, by simp, by simp, by simp, by simp⟩
    · exact SameGear.refl s

/-- A stop of the lane ends in IDLE with the motors off (R117). -/
theorem rollerStopped_idle {s : State} (turning : s.roller.motors = true → s.roller.phase.turns = true) :
    (rollerStopped s).roller.phase = .idle ∧ (rollerStopped s).roller.motors = false := by
  have off (still : s.roller.phase.turns = false) : s.roller.motors = false := by
    by_contra on
    simpa [still] using turning (by simpa using on)
  unfold rollerStopped
  split
  · rename_i phase; simp [phase, off (by simp [phase, Phase.turns])]
  · rename_i phase; simp [off (by simp [phase, Phase.turns])]
  · rename_i phase
    split
    · simp [off (by simp [phase, Phase.turns])]
    · simp
  · simp

theorem rollerCancelled_geared (ticket : Nat) {s : State} (g : s.Geared) : (rollerCancelled ticket s).Geared := by
  unfold rollerCancelled
  split
  · exact g
  · split
    · exact g.congr ⟨rfl, rfl, rfl, rfl, rfl, rfl⟩
    · split
      · rename_i h
        have free := g.free fun idle => by simp [idle] at h
        exact g.works free (by simp) (by simp [free.sound]) (by simp)
      · exact g

end Sys2Proof.Machine
end

section
/-! The motor law along the latch, the peers, heard frames, the due events and every command (R41 to R43, R99, R117, R172). -/

namespace Sys2Proof.Machine

theorem PromptFrame.sameGear {s t : State} (h : PromptFrame s t) : SameGear s t := by
  obtain ⟨⟨power, startUp, -⟩, ⟨-, -, -, -, latch, -⟩, -, -, -, -, -, roller, -⟩ := h
  exact ⟨by rw [roller], by rw [roller], by rw [roller], by rw [latch], power, startUp⟩

theorem PrintFrame.sameGear {s t : State} (h : PrintFrame s t) : SameGear s t := by
  obtain ⟨⟨power, startUp, -⟩, ⟨-, -, -, -, latch, -⟩, -, -, roller, -⟩ := h
  exact ⟨by rw [roller], by rw [roller], by rw [roller], by rw [latch], power, startUp⟩

/-! ### The latch (R41 to R43) -/

theorem onRoller_geared {f : State → State} {s : State} (g : s.Geared) (h : s.rollerActive = true → (f s).Geared) :
    (onRoller f s).Geared := by
  unfold onRoller
  split
  · rename_i active; exact h active
  · exact g

theorem onPlate_gear {f : State → State} (h : ∀ s, Within plateBlocks s (f s)) (s : State) : SameGear s (onPlate f s) :=
  (Within.sameGear (onPlate_within h s) (by simp))

theorem presenceIfChanged_gear {s t : State} (h : SameGear s t) (u : State) : SameGear s (presenceIfChanged u t) := by
  unfold presenceIfChanged
  split
  · exact h
  · exact (Within.sameGear (requestPresence_within t) (by simp)).after h

/-- A change of the lane bus controller that leaves the latch as stopped as it was. -/
theorem setBus_gear (s : State) {b : Bus} (stopped : b.latch.stopped = s.bus.latch.stopped) : SameGear s (s.setBus b) :=
  ⟨rfl, rfl, rfl, stopped, rfl, rfl⟩

theorem setLink_gear (s : State) (l : Link) (n : Nat) : SameGear s (s.setBus (s.bus.setLink l n)) := setBus_gear s rfl

theorem setLatch_geared (c : StopCause) (n : Nat) {s : State} (g : s.Geared) : (setLatch c n s).Geared := by
  unfold setLatch
  dsimp only
  split
  · rename_i stopped
    exact g.congr ((Within.sameGear (updateFields_within _ _ _) (by simp)).after (setBus_gear s stopped.symm))
  · have idle : (onRoller rollerStopped (s.setBus { s.bus with latch := s.bus.latch.stop c n })).roller.phase = .idle ∧
        (onRoller rollerStopped (s.setBus { s.bus with latch := s.bus.latch.stop c n })).roller.motors = false := by
      unfold onRoller
      split
      · exact rollerStopped_idle g.turning
      · rename_i inactive
        have idle : s.roller.phase = .idle := g.resting (Or.inr (Or.inr (Bool.eq_false_iff.mpr inactive)))
        exact ⟨idle, g.off (by simp [idle, Phase.turns])⟩
    have rested : (onRoller rollerStopped (s.setBus { s.bus with latch := s.bus.latch.stop c n })).Geared :=
      g.rests idle.1 idle.2 ((onRoller_within rollerStopped_within _).same .startUp (by simp))
    exact rested.congr (presenceIfChanged_gear ((Within.sameGear (raise_within _ _ _) (by simp)).after (onPlate_gear plateStopped_within _)) s)

theorem clearLatch_geared {s : State} (g : s.Geared) : (clearLatch s).Geared := by
  unfold clearLatch
  dsimp only
  split
  · rename_i stopped
    have idle : s.roller.phase = .idle := g.resting (Or.inl stopped)
    have off : s.roller.motors = false := g.off (by simp [idle, Phase.turns])
    have cleared : (s.setBus { s.bus with latch := { s.bus.latch with stopped := false, localCause := false } }).Geared :=
      g.rests idle off rfl
    have held := onRoller_geared cleared fun _ => cleared.congr (holdChanged_gear s.idleHeld _)
    exact held.congr (presenceIfChanged_gear (Within.sameGear (lower_within _ _) (by simp)) s)
  · rename_i moving
    exact g.congr (setBus_gear s (Bool.eq_false_iff.mpr moving).symm)

theorem stopLane_geared (c : StopCause) {s : State} (g : s.Geared) : (stopLane c s).Geared :=
  setLatch_geared _ _ (g.congr (Within.sameGear (queueFrame_within _ s) (by simp)))

theorem stopInputActive_geared {s : State} (g : s.Geared) : (stopInputActive s).Geared := by
  unfold stopInputActive
  split
  · exact g
  · exact (stopLane_geared _ g).congr (setBus_gear _ rfl)

theorem stopInputInactive_geared {s : State} (g : s.Geared) : (stopInputInactive s).Geared := by
  unfold stopInputInactive
  split
  · exact clearLatch_geared (g.congr (Within.sameGear (queueFrame_within _ s) (by simp)))
  · exact g

theorem resumeHeard_geared {s : State} (g : s.Geared) : (resumeHeard s).Geared := by
  unfold resumeHeard
  split_ifs
  · exact clearLatch_geared g
  · exact stopLane_geared _ g
  · exact stopLane_geared _ g
  · exact clearLatch_geared g

theorem weldedFound_geared {s : State} (g : s.Geared) : (weldedFound s).Geared :=
  rollerFault_geared _ (stopLane_geared _ (g.congr ⟨rfl, rfl, rfl, rfl, rfl, rfl⟩))

/-! ### Peers and heard frames (R26, R35 to R37) -/

theorem onRoller_gear {f : State → State} (h : ∀ s, SameGear s (f s)) (s : State) : SameGear s (onRoller f s) := by
  unfold onRoller
  split
  · exact h s
  · exact SameGear.refl s

theorem peerHeard_gear (n : Nat) (b : Bool) (s : State) : SameGear s (peerHeard n b s) := by
  unfold peerHeard
  refine (Within.sameGear (recheck_within _) (by simp)).after ((Within.sameGear (judgeEntry_within _) (by simp)).after (onRoller_gear (fun t => ?_) s))
  refine (judgeRoleClash_gear _).after ?_
  split
  · exact removeAwaited_gear n t
  · exact SameGear.refl t

theorem peerGone_gear (n : Nat) (s : State) : SameGear s (peerGone n s) := by
  unfold peerGone
  refine (Within.sameGear (recheck_within _) (by simp)).after ((Within.sameGear (judgeEntry_within _) (by simp)).after ((Within.sameGear (lowerWarningOf_within _ _) (by simp)).after ?_))
  exact (Within.sameGear (retestAll_within _) (by simp)).after (onRoller_gear (fun t => (judgeRoleClash_gear _).after (removeAwaited_gear n t)) s)

theorem removePeer_gear (n : Nat) (s : State) : SameGear s (removePeer n s) := (peerGone_gear n _).after (setBus_gear s rfl)

theorem clash_gear (s : State) : SameGear s (clash s) := by
  unfold clash
  split
  · exact SameGear.refl s
  · exact (Within.sameGear (raise_within _ _ _) (by simp)).after (setBus_gear s rfl)

theorem enterPeer_gear (n : Nat) (b : Bool) (fields : Option (PeerRole × Activity × Nat × PrinterState)) (s : State) :
    SameGear s (enterPeer n b fields s) := by
  have listed : SameGear s (s.setBus (s.bus.hearPeer n fields)) := by
    refine setBus_gear s ?_
    unfold Bus.hearPeer
    split
    · rfl
    · split <;> rfl
  unfold enterPeer
  dsimp only
  split
  · exact (peerHeard_gear n b _).after listed
  · exact listed

theorem hearFrame_geared (f : WireFrame) {deliver : State → State} (h : ∀ s : State, s.Geared → (deliver s).Geared) {s : State}
    (g : s.Geared) : (hearFrame f deliver s).Geared := by
  have ends : SameGear s (frameEnds f s) := setBus_gear s rfl
  unfold hearFrame
  dsimp only
  split
  · exact g
  · split
    · exact g.congr ends
    · split_ifs
      · exact h _ (g.congr ((clash_gear _).after ends))
      · exact h _ (g.congr ((enterPeer_gear _ _ _ _).after ends))
      · exact h _ (g.congr ((enterPeer_gear _ _ _ _).after ends))
      · exact g.congr ((clash_gear _).after ends)
      · exact g.congr ((enterPeer_gear _ _ _ _).after ends)
      · exact g.congr ((enterPeer_gear _ _ _ _).after ends)

theorem onLaneStop_geared (n : Nat) (p : List Byte) {s : State} (g : s.Geared) : (onLaneStop n p s).Geared := by
  unfold onLaneStop
  split
  · exact setLatch_geared _ _ g
  · exact g

theorem onMotorWarning_gear (n : Nat) (p : List Byte) (s : State) : SameGear s (onMotorWarning n p s) := by
  unfold onMotorWarning
  split
  · split
    · exact (Within.sameGear (raiseWith_within _ _ _ _ s) (by simp))
    · exact SameGear.refl s
  · exact SameGear.refl s

theorem onWarningShown_gear (n : Nat) (p : List Byte) (s : State) : SameGear s (onWarningShown n p s) := by
  unfold onWarningShown
  split
  · refine onRoller_gear (fun t => ?_) s
    unfold warningShownHeard
    split
    · exact removeAwaited_gear n t
    · exact SameGear.refl t
  · exact SameGear.refl s

theorem onVehicleCancel_geared (p : List Byte) {s : State} (g : s.Geared) : (onVehicleCancel p s).Geared := by
  unfold onVehicleCancel
  dsimp only
  split
  · have cancelled : (s.setLane (s.lane.cancel (wordAt p 0))).Geared := g.congr ⟨rfl, rfl, rfl, rfl, rfl, rfl⟩
    have sent := onRoller_geared cancelled fun _ => rollerCancelled_geared (wordAt p 0) cancelled
    exact sent.congr ((Within.sameGear (guidanceTicketGone_within _ _) (by simp)).after ((Within.sameGear (certTicketGone_within _ _) (by simp)).after
      (onPlate_gear (plateCancelled_within _) _)))
  · exact g

theorem onAxleEvent_gear (p : List Byte) (s : State) : SameGear s (onAxleEvent p s) := by
  unfold onAxleEvent
  split
  · exact ⟨rfl, rfl, rfl, rfl, rfl, rfl⟩
  · exact SameGear.refl s

theorem onBrakeResult_gear (p : List Byte) (s : State) : SameGear s (onBrakeResult p s) := by
  unfold onBrakeResult
  dsimp only
  split
  · exact (Within.sameGear (takeResult_within _ _ _ s) (by simp))
  · exact SameGear.refl s

theorem onCertRequest_gear (n : Nat) (p : List Byte) (s : State) : SameGear s (onCertRequest n p s) := by
  unfold onCertRequest
  split
  · exact (Within.sameGear (certRequest_within _ _ s) (by simp))
  · exact SameGear.refl s

theorem onReprintRequest_gear (n : Nat) (p : List Byte) (s : State) : SameGear s (onReprintRequest n p s) := by
  unfold onReprintRequest
  split
  · exact (Within.sameGear (reprintRequest_within _ _ s) (by simp))
  · exact SameGear.refl s

theorem onCertDone_gear (p : List Byte) (s : State) : SameGear s (onCertDone p s) := by
  unfold onCertDone
  split
  · exact ⟨rfl, rfl, rfl, rfl, rfl, rfl⟩
  · exact SameGear.refl s

theorem onLaneClear_geared {s : State} (g : s.Geared) : (onLaneClear s).Geared := by
  have cleared : (clearLane s).Geared := g.congr (Within.sameGear (clearLane_within s) (by simp))
  have left := onRoller_geared (f := rollerLaneClear) cleared fun _ => abandonAxle_geared cleared
  exact left.congr ((Within.sameGear (guidanceLaneClear_within _) (by simp)).after ((Within.sameGear (certLaneClear_within _) (by simp)).after
    (onPlate_gear plateLaneClear_within _)))

/-! ### Rail faults and reports (R71, R72, R76) -/

theorem stillFaulted_geared (n : Nat) {s : State} (g : s.Geared) : (stillFaulted n s).Geared := by
  have first : (if n ≤ 4 then onRoller (rollerFault .sensor) s else s).Geared := by
    split
    · exact onRoller_geared g fun _ => rollerFault_geared _ g
    · exact g
  unfold stillFaulted
  dsimp only
  generalize (if n ≤ 4 then onRoller (rollerFault .sensor) s else s) = t at first
  split
  · exact first.congr (onPlate_gear plateFault_within t)
  · exact first

theorem faultInput_geared (n : Nat) {s : State} (g : s.Geared) : (faultInput n s).Geared :=
  have faulted : (s.setCapture (s.capture.fault n)).Geared := g.congr ⟨rfl, rfl, rfl, rfl, rfl, rfl⟩
  (stillFaulted_geared n faulted).congr (PromptFrame.sameGear (raiseSensorFault_frame _))

theorem takeOneOff_geared (raw : Nat) {s : State} (g : s.Geared) : (takeOneOff raw s).Geared := by
  unfold takeOneOff
  dsimp only
  split
  · split
    · exact stillFaulted_geared _ (g.congr ⟨rfl, rfl, rfl, rfl, rfl, rfl⟩)
    · exact g.congr ((PromptFrame.sameGear (settleSensorFault_frame _)).after ⟨rfl, rfl, rfl, rfl, rfl, rfl⟩)
  · exact g

theorem finishEvaluation_geared {s : State} (g : s.Geared) : (finishEvaluation s).Geared := by
  have ended : (s.setChain (completeEvaluation (s.capture, s.eval)).1).Geared := g.congr ⟨rfl, rfl, rfl, rfl, rfl, rfl⟩
  unfold finishEvaluation
  dsimp only
  split
  · exact (onRoller_geared ended fun _ => rollerReport_geared _ ended).congr (onPlate_gear (plateReport_within _) _)
  · exact ended

/-! ### Start-up and the due events -/

/-- Before start-up has ended the sequence takes no event: it is in IDLE (R96). -/
theorem State.Geared.before {s : State} (g : s.Geared) (due : s.startUp.endDue = true) :
    s.roller.phase = .idle ∧ s.roller.motors = false := by
  have inactive : s.rollerActive = false := by simp [State.rollerActive, State.started, g.once due]
  have idle := g.resting (Or.inr (Or.inr inactive))
  exact ⟨idle, g.off (by simp [idle, Phase.turns])⟩

theorem startSequence_geared {s : State} (g : s.Geared) (off : s.roller.motors = false) : (startSequence s).Geared := by
  unfold startSequence
  split
  · have gear := judgeRoleClash_gear s
    exact enterIdle_geared false (g.congr gear) (gear.motors.trans off)
  · split
    · exact g
    · exact g.congr (Within.sameGear (raise_within _ _ s) (by simp))
  · exact g

theorem takeSettings_gear (s : State) : SameGear s (takeSettings s) := ⟨rfl, rfl, rfl, rfl, rfl, rfl⟩

theorem startCertUnit_gear (s : State) : SameGear s (startCertUnit s) := by
  unfold startCertUnit
  split
  · split
    · exact (Within.sameGear (recheck_within _) (by simp)).after (PrintFrame.sameGear (paperGone_frame s))
    · exact (Within.sameGear (recheck_within _) (by simp))
  · exact SameGear.refl s

theorem startStopInput_geared {s : State} (g : s.Geared) : (startStopInput s).Geared := by
  unfold startStopInput
  split
  · exact stopInputActive_geared g
  · exact g

theorem endStartUp_geared {s : State} (g : s.Geared) (due : s.startUp.endDue = true) : (endStartUp s).Geared := by
  obtain ⟨idle, off⟩ := g.before due
  have settled : ((s.setBus { s.bus with mode := s.settledMode }).setStartUp
      { s.startUp with ended := true, endDue := false }).Geared :=
    ⟨fun on => absurd (off.symm.trans on) (by simp), fun _ => idle, fun no => absurd no (by simp)⟩
  have set := settled.congr ((Within.sameGear (firstDisplay_within _) (by simp)).after (takeSettings_gear _))
  have begun := startSequence_geared set (by simp [takeSettings, off])
  have judged := begun.congr ((Within.sameGear (judgeEntry_within _) (by simp)).after (startCertUnit_gear _))
  exact (startStopInput_geared judged).congr (Within.sameGear (requestPresence_within _) (by simp))

theorem testReport_geared (reason : EndReason) {s : State} (g : s.Geared) : (testReport reason s).Geared := by
  unfold testReport
  split
  · rename_i phase; exact enterStopping_geared reason g (g.free (by simp [phase]))
  · exact g

theorem axleOn_free {s : State} (due : s.isDue .axleOn = true) : s.Free ∧ s.roller.phase = .idle := by
  simp only [State.isDue, State.idleHeld, Bool.and_eq_true, Bool.not_eq_true', Bool.or_eq_false_iff, beq_iff_eq] at due
  obtain ⟨⟨⟨active, idle⟩, ⟨⟨hold, moving⟩, -⟩, -⟩, -⟩ := due
  exact ⟨⟨active, moving, by simpa using hold⟩, idle⟩

theorem takeDue_geared {s : State} {d : Due} (g : s.Geared) (due : s.isDue d = true) : (takeDue s d).Geared := by
  have warn {w : WarnWait} (h : s.warnExpiry w = true) : s.roller.phase = .warn := by
    simp only [State.warnExpiry, State.rollerExpiry, Bool.and_eq_true, beq_iff_eq] at h
    exact h.1.2
  have spinUp {w : WarnWait} (h : s.spinUpExpiry w = true) : (enterSpinUp s).Geared := by
    have phase := warn (Bool.and_eq_true_iff.mp h).1
    have free := g.free (by simp [phase])
    exact g.works free (by simp [Phase.turns]) (by simp [free.sound]) (by simp)
  cases d with
  | certificateStart => exact g.congr (PrintFrame.sameGear (startHead_frame s))
  | reprintStart => exact g.congr (PrintFrame.sameGear (startHead_frame s))
  | inputFaulted n => exact faultInput_geared n g
  | release => exact testReport_geared _ (g.congr ⟨rfl, rfl, rfl, rfl, rfl, rfl⟩)
  | slipStop => exact testReport_geared _ (g.congr ⟨rfl, rfl, rfl, rfl, rfl, rfl⟩)
  | warnHorn => exact spinUp due
  | warnTimeout =>
    have phase := warn (w := .confirming) due
    have free := g.free (by simp [phase])
    exact g.works (t := failWarning s) free (by simp [g.off (by simp [phase, Phase.turns])]) (by simp [free.sound]) (by simp)
  | runOut => exact spinUp due
  | spinUpTimeout => exact rollerFault_geared _ g
  | testLimit =>
    simp only [State.isDue, State.rollerExpiry, Bool.and_eq_true, beq_iff_eq] at due
    exact enterStopping_geared _ g (g.free (by simp [due.2]))
  | crossingTimeout => exact g.congr (Within.sameGear (crossingExpired_within s) (by simp))
  | paperWait => exact g.congr ((Within.sameGear (failJob_within _) (by simp)).after ⟨rfl, rfl, rfl, rfl, rfl, rfl⟩)
  | feedbackCount => exact rollerFault_geared _ g
  | welded => exact weldedFound_geared g
  | axleOn =>
    obtain ⟨free, idle⟩ := axleOn_free due
    exact g.works (t := enterWeigh s) free (by simp [g.off (by simp [idle, Phase.turns])]) (by simp [free.sound]) (by simp)
  | axleLeaves =>
    simp only [State.isDue, Bool.and_eq_true, Bool.or_eq_true, beq_iff_eq] at due
    refine axleLeft_geared g (g.off ?_)
    rcases due.1.2 with exit | ⟨result, -⟩
    · simp [exit, Phase.turns]
    · simp [result, Phase.turns]
  | rollDown =>
    simp only [State.isDue, Bool.and_eq_true, beq_iff_eq] at due
    have free := g.free (by simp [due.1.2])
    exact g.works (t := enterResult s) free (by simp [g.off (by simp [due.1.2, Phase.turns])]) (by simp [free.sound]) (by simp)
  | minimumShow => exact g.congr (Within.sameGear (showTimeMet_within s) (by simp))
  | rejectedLife => exact g.congr (Within.sameGear (lower_within _ s) (by simp))
  | warningLife => exact g.congr (Within.sameGear (lower_within _ s) (by simp))
  | singleEnd => exact g.congr ⟨rfl, rfl, rfl, rfl, rfl, rfl⟩
  | peerAbsent =>
    show (match s.bus.absent with | some n => removePeer n s | none => s).Geared
    split
    · exact g.congr (removePeer_gear _ s)
    · exact g
  | startUpEnd => exact endStartUp_geared g (by simpa [State.isDue] using (Bool.and_eq_true_iff.mp due).2)
  | converterStart => exact g.congr ⟨rfl, rfl, rfl, rfl, rfl, rfl⟩

theorem settle_geared {s : State} (g : s.Geared) : (settle s).Geared :=
  settle_keeps (P := State.Geared) (fun _ _ g due => takeDue_geared g due) g

theorem named_geared (d : Due) {s : State} (g : s.Geared) : (named d s).Geared :=
  named_keeps (P := State.Geared) (fun _ _ g due => takeDue_geared g due) d g

theorem outside_geared {f : State → State} {s : State} (g : s.Geared) (h : ∀ s : State, s.Geared → (f s).Geared) : (outside f s).Geared :=
  outside_keeps (P := State.Geared) (fun _ _ g due => takeDue_geared g due) h g

/-! ### Ticks (R46, R47) -/

theorem lineEvent_geared (l : Line) (active : Bool) {s : State} (g : s.Geared) : (lineEvent l active s).Geared := by
  unfold lineEvent
  split
  · exact onRoller_geared g fun _ => wheelsLeaving_geared g
  · exact onRoller_geared g fun _ => wheelsLeaving_geared g
  · exact g.congr (onPlate_gear plateEntry_within s)
  · exact g.congr (onPlate_gear plateExit_within s)
  · exact onRoller_geared g fun _ => feedbackActive_geared _ g
  · exact onRoller_geared g fun _ => feedbackActive_geared _ g
  · exact onRoller_geared g fun _ => feedbackInactive_geared _ g
  · exact onRoller_geared g fun _ => feedbackInactive_geared _ g
  · exact onRoller_geared g fun _ => keyStart_geared g
  · exact onRoller_geared g fun _ => keyNext_geared g
  · exact onRoller_geared g fun _ => keyRepeat_geared g
  · have aborted := onRoller_geared (f := rollerAbort) g fun active => rollerAbort_geared g active
    exact (aborted.congr (onPlate_gear plateAbort_within _)).congr (t := abortKey s) ⟨rfl, rfl, rfl, rfl, rfl, rfl⟩
  · exact stopInputActive_geared g
  · exact stopInputInactive_geared g
  · unfold dimEvent
    dsimp only
    split
    · exact g.congr ((Within.sameGear (composePanel_within _) (by simp)).after ⟨rfl, rfl, rfl, rfl, rfl, rfl⟩)
    · exact g.congr (Within.sameGear (composePanel_within _) (by simp))
  · exact g

theorem State.Geared.foldl {α : Type} {f : State → α → State} (h : ∀ (s : State) a, s.Geared → (f s a).Geared) (l : List α) {s : State}
    (g : s.Geared) : (l.foldl f s).Geared := by
  induction l generalizing s with
  | nil => exact g
  | cons a l ih => exact ih (h s a g)

theorem tick32_geared (x : Samples) (first : List Line) {s : State} (g : s.Geared) : (tick32 x first s).Geared := by
  refine State.Geared.foldl (fun s l g => ?_) _ (g.congr ⟨rfl, rfl, rfl, rfl, rfl, rfl⟩)
  have sampled : (s.setFilter (s.filter.sample l (lineLevel x l))).Geared := g.congr ⟨rfl, rfl, rfl, rfl, rfl, rfl⟩
  unfold sampleLine
  dsimp only
  split
  · exact lineEvent_geared _ _ sampled
  · exact sampled

theorem evalWindow_gear (w : WindowSample) (s : State) : SameGear s (evalWindow w s) := by
  unfold evalWindow
  split
  · exact ⟨rfl, rfl, rfl, rfl, rfl, rfl⟩
  · exact SameGear.refl s

theorem closeWindow_geared {s : State} (g : s.Geared) : (closeWindow s).Geared := by
  have taken : (s.setCounters s.counters.cleared).Geared := g.congr ⟨rfl, rfl, rfl, rfl, rfl, rfl⟩
  unfold closeWindow
  exact onRoller_geared taken fun _ => (rollerWindow_geared s.counters.sample taken).congr (evalWindow_gear _ _)

theorem tick8_geared (first : List TickTaker) {s : State} (g : s.Geared) : (tick8 first s).Geared := by
  refine State.Geared.foldl (fun s t g => ?_) _ (g.congr ⟨rfl, rfl, rfl, rfl, rfl, rfl⟩)
  cases t with
  | pulseCounters => exact closeWindow_geared g
  | phaseTimers => exact g.congr ⟨rfl, rfl, rfl, rfl, rfl, rfl⟩
  | sequence => exact onRoller_geared g fun _ => g.congr ⟨rfl, rfl, rfl, rfl, rfl, rfl⟩
  | guidance => exact g.congr (Within.sameGear (guidanceTick8_within s) (by simp))

theorem tick1_geared {s : State} (g : s.Geared) : (tick1 s).Geared := by
  have aged : ((s.setClock s.clock.tick1).setBus (s.setClock s.clock.tick1).bus.aged).Geared := g.congr ⟨rfl, rfl, rfl, rfl, rfl, rfl⟩
  have shown := aged.congr ((Within.sameGear (guidanceTick1_within _) (by simp)).after (Within.sameGear (requestPresence_within _) (by simp)))
  unfold tick1 tickStartUp
  dsimp only
  refine ⟨shown.turning, shown.resting, fun due => ?_⟩
  simp only [State.setStartUp_fields, Bool.or_eq_true, Bool.and_eq_true, Bool.not_eq_true'] at due ⊢
  exact due.elim shown.once And.right

theorem pacingUnderflow_gear (timer : PacingTimer) (s : State) : SameGear s (pacingUnderflow timer s) := by
  unfold pacingUnderflow
  split <;> split <;> exact ⟨rfl, rfl, rfl, rfl, rfl, rfl⟩

/-! ### Power (R164, R172) -/

theorem fresh_geared (p : Power) (slots : List SlotStore) (pins : Pins) (queue : List Instr) : (State.fresh p slots pins queue).Geared :=
  ⟨Bool.noConfusion, fun _ => rfl, Bool.noConfusion⟩

/-- The release of reset finds a sequence in IDLE, for nothing ran before (R96, R172). -/
theorem releaseReset_geared {s : State} (g : s.Geared) (held : s.power = .held) (station role : Nat) (printer : Bool) :
    (releaseReset station role printer s).Geared := by
  have inactive : s.rollerActive = false := by simp [State.rollerActive, State.started, State.isRunning, held]
  have idle := g.resting (Or.inr (Or.inr inactive))
  have off : s.roller.motors = false := g.off (by simp [idle, Phase.turns])
  exact ⟨fun on => absurd (off.symm.trans on) (by simp), fun _ => idle, g.once⟩

/-! ### Every command and every step -/

theorem setPins_gear (s : State) (x : Pins) : SameGear s (s.setPins x) := ⟨rfl, rfl, rfl, rfl, rfl, rfl⟩

theorem onPrinter_gear {f : State → State} (h : ∀ s, PrintFrame s (f s)) (s : State) : SameGear s (onPrinter f s) := by
  unfold onPrinter
  split
  · exact PrintFrame.sameGear (h s)
  · exact SameGear.refl s

theorem paperOutRises_gear (s : State) : SameGear s (paperOutRises s) := by
  unfold paperOutRises
  dsimp only
  split
  · exact ⟨rfl, rfl, rfl, rfl, rfl, rfl⟩
  · exact (onPrinter_gear paperGone_frame _).after ⟨rfl, rfl, rfl, rfl, rfl, rfl⟩

theorem paperOutFalls_gear (s : State) : SameGear s (paperOutFalls s) := by
  unfold paperOutFalls
  dsimp only
  split
  · exact (onPrinter_gear paperBack_frame _).after ⟨rfl, rfl, rfl, rfl, rfl, rfl⟩
  · exact ⟨rfl, rfl, rfl, rfl, rfl, rfl⟩

/-- The lane bus controller's own events leave the latch. -/
theorem begins_latch (b : Bus) : b.begins.latch = b.latch := by
  unfold Bus.begins
  split
  · split <;> rfl
  · rfl

theorem loses_latch (b : Bus) : b.loses.latch = b.latch := by unfold Bus.loses; split <;> rfl

theorem errs_latch (b : Bus) : b.errs.latch = b.latch := by unfold Bus.errs; split <;> rfl

theorem sent_latch (b : Bus) (own : Nat) : (b.sent own).latch = b.latch := by unfold Bus.sent; split <;> rfl

theorem State.Geared.ite {c : Prop} [Decidable c] {s t : State} (h : s.Geared) (k : t.Geared) : (if c then s else t).Geared := by
  split
  · exact h
  · exact k

theorem SameGear.ite {c : Prop} [Decidable c] {s t u : State} (h : SameGear s t) (k : SameGear s u) : SameGear s (if c then t else u) := by
  split
  · exact h
  · exact k

/-- An event of the outside that leaves what the law reads. -/
theorem outside_gear {f : State → State} {s : State} (g : s.Geared) (h : ∀ s : State, SameGear s (f s)) : (outside f s).Geared :=
  outside_geared g fun s g => g.congr (h s)

/-- Every command keeps the motor law. -/
theorem exec_geared {c : Instr} {s t : State} (g : s.Geared) (h : exec c s = .next t) : t.Geared := by
  have next {u : State} (k : u.Geared) (e : (Host.Outcome.next u : Host.Outcome State Fault Refusal) = .next t) : t.Geared := by
    cases e; exact k
  have heard {cls kind : Nat} (source : BitVec 4) (payload : List Byte) {deliver : State → State}
      (k : ∀ s : State, s.Geared → (deliver s).Geared) : (outside (hearFrame ⟨cls, kind, source.toNat, payload⟩ deliver) s).Geared :=
    outside_geared g fun _ g => hearFrame_geared _ k g
  have timers (f : State → Timers) : (outside (fun s => s.setTimers (f s)) s).Geared :=
    outside_gear g fun s => ⟨rfl, rfl, rfl, rfl, rfl, rfl⟩
  have archive (f : State → Archive × List ArchiveReport) : (outside (fun s => archiveStep (f s) s) s).Geared :=
    outside_gear g fun s => PrintFrame.sameGear (archiveStep_frame _ s)
  cases c with
  | powerOn => exact next (State.Geared.ite (fresh_geared _ _ _ _) g) h
  | powerOff left => exact next (State.Geared.ite g (fresh_geared _ _ _ _)) h
  | resetPin left => exact next (State.Geared.ite g (fresh_geared _ _ _ _)) h
  | resetRelease station role printer =>
    refine next ?_ h
    split
    · rename_i held; exact releaseReset_geared g held _ _ _
    · exact g
  | memoryReadComplete c1 c2 c3 =>
    exact next (outside_geared (f := memoryRead c1 c2 c3) g fun s g => State.Geared.ite g ⟨g.turning, g.resting, g.once⟩) h
  | archiveScanComplete =>
    exact next (outside_geared (f := scanDone) g fun s g => State.Geared.ite g ⟨g.turning, g.resting, g.once⟩) h
  | tick32Hz samples first => exact next (outside_geared g fun s g => tick32_geared _ _ g) h
  | tick8Hz first => exact next (outside_geared g fun s g => tick8_geared _ g) h
  | tick1Hz => exact next (outside_geared g fun s g => tick1_geared g) h
  | pulseEdge input => exact next (outside_gear (f := countPulse input) g fun s => ⟨rfl, rfl, rfl, rfl, rfl, rfl⟩) h
  | pacingEvent timer => exact next (outside_gear g (pacingUnderflow_gear timer)) h
  | toneUnderflow => exact next (timers _) h
  | dimmerUnderflow => exact next (timers _) h
  | dimmerCompareReached => exact next (timers _) h
  | rowComplete raws => exact next (outside_gear (f := takeRow raws) g fun s => ⟨rfl, rfl, rfl, rfl, rfl, rfl⟩) h
  | oneOffConversionComplete raw => exact next (outside_geared g fun s g => takeOneOff_geared _ g) h
  | evaluationComplete => exact next (outside_geared g fun s g => finishEvaluation_geared g) h
  | frameStart => exact next (outside_gear g fun s => setBus_gear s (by rw [begins_latch])) h
  | lostArbitration => exact next (outside_gear g fun s => setBus_gear s (by rw [loses_latch])) h
  | bitError => exact next (outside_gear g fun s => setBus_gear s (by rw [errs_latch])) h
  | frameSent => exact next (outside_gear g fun s => setBus_gear s (by rw [sent_latch])) h
  | frameDiscarded bits => exact next (outside_gear g fun s => SameGear.ite (setLink_gear s _ _) (SameGear.refl s)) h
  | busIdle => exact next (outside_gear g fun s => SameGear.ite (setLink_gear s _ _) (SameGear.refl s)) h
  | becomesReceiver => exact next (outside_gear g fun s => SameGear.ite (setLink_gear s _ _) (SameGear.refl s)) h
  | unknownKindFrame cls kind source payload =>
    exact next (outside_geared g fun s g => State.Geared.ite g (hearFrame_geared _ (fun _ g => g) g)) h
  | presence source payload => exact next (heard _ _ fun _ g => g) h
  | laneStop source payload => exact next (heard _ _ fun _ g => onLaneStop_geared _ _ g) h
  | laneResume source payload => exact next (heard _ _ fun _ g => resumeHeard_geared g) h
  | motorWarning source payload => exact next (heard _ _ fun s g => g.congr (onMotorWarning_gear _ _ s)) h
  | warningShown source payload => exact next (heard _ _ fun s g => g.congr (onWarningShown_gear _ _ s)) h
  | rollersStopped source payload => exact next (heard _ _ fun s g => g.congr (Within.sameGear (lowerWarningOf_within _ s) (by simp))) h
  | vehicleEntry source payload => exact next (heard _ _ fun s g => g.congr (Within.sameGear (registerVehicle_within _ s) (by simp))) h
  | vehicleCancel source payload => exact next (heard _ _ fun _ g => onVehicleCancel_geared _ g) h
  | axleEvent source payload => exact next (heard _ _ fun s g => g.congr (onAxleEvent_gear _ s)) h
  | axleLoad source payload => exact next (heard _ _ fun s g => g.congr (Within.sameGear (takeResult_within _ _ _ s) (by simp))) h
  | brakeResult source payload => exact next (heard _ _ fun s g => g.congr (onBrakeResult_gear _ s)) h
  | slipResult source payload => exact next (heard _ _ fun s g => g.congr (Within.sameGear (takeResult_within _ _ _ s) (by simp))) h
  | certRequest source payload => exact next (heard _ _ fun s g => g.congr (onCertRequest_gear _ _ s)) h
  | reprintRequest source payload => exact next (heard _ _ fun s g => g.congr (onReprintRequest_gear _ _ s)) h
  | certDone source payload => exact next (heard _ _ fun s g => g.congr (onCertDone_gear _ s)) h
  | printAnswer source payload => exact next (heard _ _ fun _ g => g) h
  | laneClear source payload => exact next (heard _ _ fun _ g => onLaneClear_geared g) h
  | panelFrameSent => exact next (outside_gear g fun s => (Within.sameGear (panelSent_within s) (by simp))) h
  | printerReadyRise =>
    exact next (State.Geared.ite ((settle_geared g).congr ((onPrinter_gear tryHand_frame _).after (setPins_gear _ _)))
      (g.congr (setPins_gear s _))) h
  | lineSent => exact next (outside_gear g (onPrinter_gear lineSent_frame)) h
  | paperOutActive =>
    exact next (State.Geared.ite ((settle_geared g).congr (paperOutRises_gear _)) (g.congr (setPins_gear s _))) h
  | paperOutInactive =>
    exact next (State.Geared.ite ((settle_geared g).congr (paperOutFalls_gear _)) (g.congr (setPins_gear s _))) h
  | eraseComplete left => exact next (archive _) h
  | recordProgramComplete pass left => exact next (archive _) h
  | markProgramComplete pass => exact next (archive _) h
  | inputFaulted input => exact next (named_geared _ g) h
  | startUpEnd => exact next (named_geared _ g) h
  | peerAbsent => exact next (named_geared _ g) h
  | axleOnRollers => exact next (named_geared _ g) h
  | axleLeaves => exact next (named_geared _ g) h
  | feedbackCountExpiry => exact next (named_geared _ g) h
  | weldedContactor => exact next (named_geared _ g) h
  | rollDownComplete => exact next (named_geared _ g) h
  | warnHornExpiry => exact next (named_geared _ g) h
  | warningTimeout => exact next (named_geared _ g) h
  | runOutExpiry => exact next (named_geared _ g) h
  | spinUpTimeout => exact next (named_geared _ g) h
  | testTimeLimit => exact next (named_geared _ g) h
  | crossingExpiry => exact next (named_geared _ g) h
  | paperWaitExpiry => exact next (named_geared _ g) h
  | converterStart => exact next (named_geared _ g) h
  | release => exact next (named_geared _ g) h
  | slipStop => exact next (named_geared _ g) h
  | minimumShowTimeMet => exact next (named_geared _ g) h
  | entryRejectedLifeEnd => exact next (named_geared _ g) h
  | warningLifeEnd => exact next (named_geared _ g) h
  | singleCountEnd => exact next (named_geared _ g) h
  | certificateJobStart => exact next (named_geared _ g) h
  | reprintJobStart => exact next (named_geared _ g) h

/-- Settles O57, by the law that every operation of a command keeps. -/
theorem everyStepKeepsTheMotorLaw : Obligations.EveryStepKeepsTheMotorLaw := by
  intro s t law h
  rw [State.motorLaw_iff] at law ⊢
  cases e : s.pending with
  | nil =>
    rw [step_nil e] at h
    cases h
    exact law.congr (Within.sameGear (idlePeriod_within s) (by simp))
  | cons c rest =>
    rw [step_cons e] at h
    exact exec_geared (law.congr (t := s.setPending rest) ⟨rfl, rfl, rfl, rfl, rfl, rfl⟩) h

end Sys2Proof.Machine
end

section
/-! The step, the causes of events, power and reset (R164, R172, R173; log entries 1, 4, 6, 9 and 16). -/

namespace Sys2Proof.Machine

/-! ### The step -/

/-- No signal ticks at a count that is no multiple of the 32 Hz period, the shortest (R45). -/
theorem ticksAt_eq_nil {n : Nat} (h : n % 8 ≠ 0) : ticksAt n = [] := by
  rw [ticksAt, List.filter_eq_nil_iff]
  intro d _
  cases d <;> simp [Divided.period, Divided.bit] <;> omega

theorem ticksAt_ne_nil {n : Nat} (h : n % 8 = 0) : ticksAt n ≠ [] := by
  rw [ticksAt, ne_eq, List.filter_eq_nil_iff]
  intro no
  exact no .hz32 (by simp) (by simpa [Divided.period, Divided.bit] using h)

/-- Settles O1, by the cases of the queue and of the period. -/
theorem stepRunsTheQueue : Obligations.StepRunsTheQueue := by
  refine ⟨fun s c rest => rfl, fun s empty => ⟨fun run off => ?_, fun h => ?_⟩⟩
  · rw [step_nil empty]
    simp [idlePeriod, State.isRunning, run, Clock.period, ticksAt_eq_nil off]
  · rw [step_nil empty]
    by_cases run : s.power = .running
    · have tick : (s.clock.count + 1) % 8 = 0 := h.resolve_left fun no => no run
      have stays : s.clock.period = s.clock := by simp [Clock.period, ticksAt_ne_nil tick]
      rw [idlePeriod, if_pos (by simp [State.isRunning, run]), stays]
      rfl
    · simp [idlePeriod, State.isRunning, run]

/-! ### The causes of events -/

/-- Every event's condition asks for a part that runs. -/
theorem isDue_stopped {s : State} (h : s.isRunning = false) (d : Due) : s.isDue d = false := by
  cases d <;>
    simp [State.isDue, State.certificateDue, State.reprintDue, State.spinUpExpiry, State.warnExpiry, State.rollerExpiry,
      State.weldedDue, State.rollerActive, State.plateActive, State.printerActive, State.started, h]

/-- A part that does not run takes nothing that is due. -/
theorem named_stopped {s : State} (h : s.isRunning = false) (d : Due) : named d s = s := by
  have idle : settle s = s :=
    settle_keeps (P := fun t => t = s) (fun t d e due => absurd due (by simp [e, isDue_stopped h])) rfl
  simp [named, isDue_stopped h, idle]

/-- The commands that name an event name one that settling looks for. -/
theorem namedEvents_settled : ∀ p ∈ namedEvents, p.2 ∈ dueOrder := by decide

theorem exec_named : ∀ p ∈ namedEvents, ∀ s : State, exec p.1 s = .next (named p.2 s) := by
  intro p hp s
  simp only [namedEvents, List.mem_append, List.mem_cons, List.not_mem_nil, or_false, List.mem_map] at hp
  rcases hp with hp | ⟨n, -, rfl⟩
  · rcases hp with rfl | rfl | rfl | rfl | rfl | rfl | rfl | rfl | rfl | rfl | rfl | rfl | rfl | rfl | rfl | rfl | rfl | rfl | rfl | rfl |
      rfl | rfl | rfl <;> rfl
  · rfl

/-- Settles O2: a named event that is not due leaves a quiet part, and a part that does not run takes neither due nor outside events. -/
theorem eventsWaitForTheirCause : Obligations.EventsWaitForTheirCause := by
  refine ⟨fun s c d h quiet => ?_, fun s c off powered => ?_⟩
  · rw [exec_named _ h s, named_quiet quiet (namedEvents_settled _ h)]
  · have still : s.isRunning = false := by rcases off with h | h <;> simp [State.isRunning, h]
    have out (f : State → State) : (.next (outside f s) : Host.Outcome State Fault Refusal) = .next s := by
      rw [outside_stopped still]
    have due (d : Due) : (.next (named d s) : Host.Outcome State Fault Refusal) = .next s := by rw [named_stopped still]
    cases c with
    | powerOn | powerOff | resetPin | resetRelease | printerReadyRise | paperOutActive | paperOutInactive => simp [actsUnpowered] at powered
    | startUpEnd | peerAbsent | axleOnRollers | axleLeaves | feedbackCountExpiry | weldedContactor | rollDownComplete
    | warnHornExpiry | warningTimeout | runOutExpiry | spinUpTimeout | testTimeLimit | crossingExpiry | paperWaitExpiry
    | converterStart | inputFaulted | release | slipStop | minimumShowTimeMet | entryRejectedLifeEnd | warningLifeEnd
    | singleCountEnd | certificateJobStart | reprintJobStart => exact due _
    | memoryReadComplete | archiveScanComplete | tick32Hz | tick8Hz | tick1Hz | pulseEdge | pacingEvent | toneUnderflow
    | dimmerUnderflow | dimmerCompareReached | rowComplete | oneOffConversionComplete | evaluationComplete | frameStart
    | lostArbitration | bitError | frameSent | frameDiscarded | busIdle | becomesReceiver | unknownKindFrame | presence
    | laneStop | laneResume | motorWarning | warningShown | rollersStopped | vehicleEntry | vehicleCancel | axleEvent
    | axleLoad | brakeResult | slipResult | certRequest | reprintRequest | certDone | printAnswer | laneClear
    | panelFrameSent | lineSent | eraseComplete | recordProgramComplete | markProgramComplete => exact out _

/-! ### Power and reset -/

theorem Archive.cutShort_idle {a : Archive} (h : a.op = .idle) (left : List Residue) : a.cutShort left = a.storage := by
  simp [Archive.cutShort, h]

/-- An operation cut short leaves the slots that it does not touch (R164). -/
theorem Archive.cutShort_spares (a : Archive) (left : List Residue) {i : Nat} (h : a.op.spares i = true) :
    (a.cutShort left).getD i SlotStore.blank = a.store i := by
  unfold Archive.cutShort
  cases op : a.op with
  | idle => rfl
  | erasing block c entered =>
    have other : blockOf i ≠ block := by simpa [op, ArchiveOp.spares, blockOf] using h
    simp [eraseSlots, Archive.store, List.getD_eq_getElem?_getD, other]
  | programRecord slot c =>
    have other : i ≠ slot := by simpa [op, ArchiveOp.spares] using h
    simp [Archive.store, List.getD_eq_getElem?_getD, other.symm]
  | programMark slot place requester =>
    have other : i ≠ slot := by simpa [op, ArchiveOp.spares] using h
    simp [Archive.store, List.getD_eq_getElem?_getD, other.symm]

/-- A part that is held or off again: every volatile item at its reset value, the slots as the cut leaves them. -/
theorem cut_fresh (p : Power) (s : State) (left : List Residue) :
    State.fresh p (s.archive.cutShort left) s.pins s.pending =
      State.fresh p (State.fresh p (s.archive.cutShort left) s.pins s.pending).archive.storage s.pins s.pending ∧
    (s.archive.op = .idle →
      (State.fresh p (s.archive.cutShort left) s.pins s.pending).archive.storage = s.archive.storage) ∧
    ∀ i, s.archive.op.spares i = true →
      (State.fresh p (s.archive.cutShort left) s.pins s.pending).archive.store i = s.archive.store i :=
  ⟨rfl, fun idle => s.archive.cutShort_idle idle left, fun _ spared => s.archive.cutShort_spares left spared⟩

/-- Settles O4, by what an operation cut short leaves. -/
theorem powerAndResetKeepTheArchive : Obligations.PowerAndResetKeepTheArchive := by
  intro s
  refine ⟨fun off idle => ?_, fun on => ?_, fun left on => ⟨⟨_, rfl, ?_⟩, ⟨_, rfl, ?_⟩⟩, fun station role printer held =>
    ⟨_, rfl, ?_⟩⟩
  · simp [exec, execPowerOn, off, holdReset, s.archive.cutShort_idle idle]
  · simp [exec, execPowerOn, on]
  · rw [if_neg on]; exact cut_fresh .off s left
  · rw [if_neg on]; exact cut_fresh .held s left
  · rw [if_pos held]
    refine ⟨fun b hb => ?_, rfl, rfl, fun h => ?_, fun h => ?_, fun h => ?_⟩
    · cases b <;> simp at hb ⊢ <;> rfl
    · subst h; rfl
    · subst h; rfl
    · rcases h with rfl | rfl <;> rfl

/-- Settles O3, each item read off the state after reset. -/
theorem resetLeavesTheStatedValues : Obligations.ResetLeavesTheStatedValues := by
  unfold Obligations.ResetLeavesTheStatedValues
  and_intros <;> rfl

end Sys2Proof.Machine
end

section
/-! The transmit queue's order and the link's events (R22, R25, R27 to R32). -/

namespace Sys2Proof.Machine

/-! ### Queue order (R30) -/

/-- The queue stands in order: no frame comes before one that stands ahead of it. -/
abbrev InOrder (l : List QueuedFrame) : Prop := l.Pairwise fun a b => b.before a = false

theorem QueuedFrame.before_iff {a b : QueuedFrame} :
    a.before b = true ↔ a.frame.cls < b.frame.cls ∨ a.frame.cls = b.frame.cls ∧ a.stamp < b.stamp := by
  simp [QueuedFrame.before]

theorem QueuedFrame.before_asymm {a b : QueuedFrame} (h : a.before b = true) : b.before a = false := by
  rw [Bool.eq_false_iff, ne_eq, QueuedFrame.before_iff]
  rw [QueuedFrame.before_iff] at h
  omega

theorem QueuedFrame.before_negTrans {a b c : QueuedFrame} (h : b.before a = false) (k : c.before b = false) : c.before a = false := by
  rw [Bool.eq_false_iff, ne_eq, QueuedFrame.before_iff] at h k ⊢
  omega

theorem insertQueued_perm (q : QueuedFrame) (l : List QueuedFrame) : (insertQueued q l).Perm (q :: l) := by
  induction l with
  | nil => exact List.Perm.refl _
  | cons x xs ih =>
    unfold insertQueued
    split
    · exact List.Perm.refl _
    · exact (ih.cons x).trans (List.Perm.swap q x xs)

theorem insertQueued_inOrder (q : QueuedFrame) {l : List QueuedFrame} (h : InOrder l) : InOrder (insertQueued q l) := by
  induction l with
  | nil => simp [insertQueued]
  | cons x xs ih =>
    obtain ⟨head, tail⟩ := List.pairwise_cons.mp h
    unfold insertQueued
    split
    · rename_i first
      refine List.pairwise_cons.mpr ⟨fun y hy => ?_, h⟩
      rcases List.mem_cons.mp hy with rfl | hy
      · exact QueuedFrame.before_asymm first
      · exact QueuedFrame.before_negTrans (QueuedFrame.before_asymm first) (head y hy)
    · rename_i later
      refine List.pairwise_cons.mpr ⟨fun y hy => ?_, ih tail⟩
      rcases mem_insertQueued.mp hy with rfl | hy
      · exact Bool.eq_false_iff.mpr later
      · exact head y hy

theorem Bus.placed_perm (b : Bus) (q : QueuedFrame) (l : List QueuedFrame) : (b.placed q l).Perm (q :: l) := by
  cases l with
  | nil => exact List.Perm.refl _
  | cons x xs =>
    simp only [Bus.placed]
    split
    · exact ((insertQueued_perm q xs).cons x).trans (List.Perm.swap q x xs)
    · exact insertQueued_perm q (x :: xs)

/-- While no frame is being transmitted a frame takes its place in queue order. -/
theorem Bus.placed_free {b : Bus} (h : b.sendingStamp = none) (q : QueuedFrame) (l : List QueuedFrame) :
    b.placed q l = insertQueued q l := by
  cases l with
  | nil => rfl
  | cons x xs => simp [Bus.placed, h]

/-! ### One request (R30, R31) -/

theorem Bus.enqueue_room {b : Bus} (h : b.canQueue = true) (room : b.queue.length < 8) (f : LaneFrame) :
    b.enqueue f = b.append f b.queue := by
  simp [Bus.enqueue, h, Config.queueSize, room]

theorem Bus.enqueue_displaces {b : Bus} (h : b.canQueue = true) (full : b.queue.length = 8) {f : LaneFrame} {v : QueuedFrame}
    (found : latestAbove f.cls b.queue = some v) : b.enqueue f = b.append f (b.queue.erase v) := by
  simp [Bus.enqueue, h, Config.queueSize, full, found]

theorem Bus.enqueue_discards {b : Bus} (h : b.canQueue = true) (full : b.queue.length = 8) {f : LaneFrame}
    (none : latestAbove f.cls b.queue = none) : b.enqueue f = b := by
  simp [Bus.enqueue, h, Config.queueSize, full, none]

/-- The fold that looks for the frame to displace keeps what it has found. -/
theorem latestAbove_isSome {cls : Nat} : ∀ {l : List QueuedFrame} {acc : Option QueuedFrame},
    (acc.isSome = true ∨ ∃ x ∈ l, cls < x.frame.cls) →
    (l.foldl (fun acc q => if q.frame.cls ≤ cls then acc else match acc with
      | none => some q
      | some r => if r.stamp < q.stamp then some q else acc) acc).isSome = true
  | [], acc, h => h.elim id fun ⟨_, m, _⟩ => absurd m (by simp)
  | y :: ys, acc, h => by
    rw [List.foldl_cons]
    refine latestAbove_isSome ?_
    by_cases low : y.frame.cls ≤ cls
    · simp only [if_pos low]
      refine h.imp id ?_
      rintro ⟨x, m, above⟩
      rcases List.mem_cons.mp m with rfl | m
      · omega
      · exact ⟨x, m, above⟩
    · simp only [if_neg low]
      left
      cases acc with
      | none => rfl
      | some r => simp only; split <;> rfl

theorem latestAbove_none {cls : Nat} {queue : List QueuedFrame} (h : ∀ x ∈ queue, x.frame.cls ≤ cls) : latestAbove cls queue = none := by
  cases found : latestAbove cls queue with
  | none => rfl
  | some v =>
    obtain ⟨mem, above, -⟩ := latestAbove_spec found
    exact absurd (h v mem) (Nat.not_le.mpr above)

theorem latestAbove_some {cls : Nat} {queue : List QueuedFrame} (h : ∃ x ∈ queue, cls < x.frame.cls) :
    ∃ v, latestAbove cls queue = some v := Option.isSome_iff_exists.mp (latestAbove_isSome (Or.inr h))

/-- A request keeps the queue's order while no frame is being transmitted. -/
theorem Bus.enqueue_inOrder {b : Bus} (free : b.sendingStamp = none) (h : InOrder b.queue) (f : LaneFrame) :
    InOrder (b.enqueue f).queue := by
  have appended {l : List QueuedFrame} (k : InOrder l) : InOrder (b.append f l).queue := by
    show InOrder (b.placed _ l)
    rw [Bus.placed_free free]
    exact insertQueued_inOrder _ k
  unfold Bus.enqueue
  split_ifs
  · exact h
  · exact appended h
  · split
    · exact appended (h.sublist List.erase_sublist)
    · exact h

theorem queueFrame_shut {s : State} (h : s.bus.canQueue = false) (f : LaneFrame) : queueFrame f s = s := by
  rw [queueFrame, Bus.enqueue_shut h]; rfl

theorem requestPresence_shut {s : State} (h : s.bus.canQueue = false) : requestPresence s = s := by
  rw [requestPresence, Bus.enqueuePresence_shut h]; rfl

theorem Bus.replaceable_iff {b : Bus} {q : QueuedFrame} :
    b.replaceable q = true ↔ q.frame.isPresence = true ∧ b.sendingStamp ≠ some q.stamp := by
  simp [Bus.replaceable]

/-- Settles O7, by the cases of a request: shut, room, full; and a waiting PRESENCE or none. -/
theorem queueRequestsFollowTheirRules : Obligations.QueueRequestsFollowTheirRules := by
  refine ⟨fun s f can full => ⟨?_, fun low => ?_, fun high => ?_⟩, fun s f can room => ⟨?_, ?_, fun q head sending => ?_⟩,
    fun s f free order => Bus.enqueue_inOrder free order f, fun s => ⟨fun mode => ?_, fun can none => ?_, fun can wait => ?_⟩⟩
  · exact (queueFrame_within f s).sameBus.2.1
  · show s.bus.enqueue f = s.bus
    rw [Bus.enqueue_discards can full (latestAbove_none low)]
  · obtain ⟨v, found⟩ := latestAbove_some high
    obtain ⟨mem, above, latest⟩ := latestAbove_spec found
    refine ⟨v, mem, above, latest, ?_⟩
    show (s.bus.enqueue f).queue.Perm _
    rw [Bus.enqueue_displaces can full found]
    exact s.bus.placed_perm _ _
  · simp only [queueFrame, Bus.enqueue_room can room]; rfl
  · show (s.bus.enqueue f).queue.Perm _
    rw [Bus.enqueue_room can room]
    exact s.bus.placed_perm _ _
  · obtain ⟨rest, queue⟩ : ∃ rest, s.bus.queue = q :: rest := by
      cases e : s.bus.queue with
      | nil => simp [e] at head
      | cons x xs => simp [e] at head; exact ⟨xs, by rw [head]⟩
    have placed : (queueFrame f s).bus.queue = q :: insertQueued ⟨f, s.bus.nextStamp⟩ rest := by
      show (s.bus.enqueue f).queue = _
      rw [Bus.enqueue_room can room]
      simp [Bus.append, queue, Bus.placed, sending]
    rw [placed, queue]
    exact ⟨rfl, fun order => insertQueued_inOrder _ order⟩
  · have shut : s.bus.canQueue = false := by rcases mode with h | h <;> simp [Bus.canQueue, h]
    exact ⟨requestPresence_shut shut, queueFrame_shut shut⟩
  · have noWait : s.bus.queue.any s.bus.replaceable = false := by
      rw [List.any_eq_false]
      intro q m wait
      rw [Bus.replaceable_iff] at wait
      exact wait.2 (none q m wait.1)
    simp [requestPresence, queueFrame, Bus.enqueuePresence, can, noWait]
  · have waits : s.bus.queue.any s.bus.replaceable = true := List.any_eq_true.mpr wait
    have replaced : (requestPresence s).bus.queue =
        s.bus.queue.map fun q => if s.bus.replaceable q then { q with frame := s.presenceFrame } else q := by
      simp [requestPresence, Bus.enqueuePresence, can, waits]
    refine ⟨by rw [replaced, List.length_map], fun k _ q at' => ?_⟩
    simp [replaced, at', Bus.replaceable_iff]

/-! ### The link (R22, R25, R27 to R29) -/

theorem trailingRecessive_le (bits : List Bool) : trailingRecessive bits ≤ 12 := Nat.min_le_left _ _

/-- The end field ends every frame's bits in at least 8 recessive ones (R24). -/
theorem eight_le_trailingRecessive (f : WireFrame) : 8 ≤ trailingRecessive f.bits := by
  have ends : (f.bits.reverse.takeWhile id).length =
      8 + ((stuff true 0 f.region).reverse.takeWhile id).length := by
    simp [WireFrame.bits, endField, List.replicate]
    omega
  simp only [trailingRecessive, Config.idleBits, ends]
  omega

theorem reorder_perm (l : List QueuedFrame) : (reorder l).Perm l := by
  cases l with
  | nil => exact List.Perm.refl _
  | cons q qs => exact insertQueued_perm q qs

theorem reorder_inOrder {l : List QueuedFrame} (h : InOrder l.tail) : InOrder (reorder l) := by
  cases l with
  | nil => exact List.Pairwise.nil
  | cons q qs => exact insertQueued_inOrder q h

theorem exec_outside_quiet {s : State} (h : s.quiet = true) (f : State → State) :
    (.next (outside f s) : Host.Outcome State Fault Refusal) = .next (f s) := by rw [outside_quiet h]

/-- Settles O8, each event on the link it finds. -/
theorem linkEventsActOnTheControllerAlone : Obligations.LinkEventsActOnTheControllerAlone := by
  intro s quiet
  have out := exec_outside_quiet quiet
  refine ⟨fun q head link idle mode => ?_, fun empty => ?_, fun q link => ⟨?_, ?_, ?_⟩, fun bits still discarded => ?_,
    fun bits other => ?_, fun link => ?_, fun link idle => ?_⟩
  · obtain ⟨rest, queue⟩ : ∃ rest, s.bus.queue = q :: rest := by
      cases e : s.bus.queue with
      | nil => simp [e] at head
      | cons x xs => simp [e] at head; exact ⟨xs, by rw [head]⟩
    have can : s.bus.canQueue = true := by rcases mode with h | h <;> simp [Bus.canQueue, h]
    refine (out _).trans ?_
    simp [Bus.begins, queue, can, Bus.isIdle, link, idle, Config.idleBits, Bus.setLink]
  · refine (out _).trans ?_
    simp only [Bus.begins, empty]; rfl
  · refine ⟨_, out _, ?_⟩
    simp only [Bus.loses, link]
    exact ⟨rfl, reorder_perm _, reorder_inOrder⟩
  · refine (out _).trans ?_
    simp only [Bus.errs, link]
  · refine ⟨_, out _, ?_⟩
    simp only [Bus.sent, link]
    exact ⟨eight_le_trailingRecessive _, trailingRecessive_le _, rfl⟩
  · refine ⟨_, out _, ?_⟩
    simp only [discardFrame, still, discarded]
    exact ⟨rfl, trailingRecessive_le _⟩
  · refine (out _).trans ?_
    simp [discardFrame, other]
  · refine (out _).trans ?_
    simp [link, Bus.setLink, Config.idleBits]
  · refine (out _).trans ?_
    simp [Bus.isIdle, link, idle, Config.idleBits, Bus.setLink]

end Sys2Proof.Machine
end

section
/-! What a heard frame does to the link, the peer list and the bus mode, and what reaches the blocks (R26, R34 to R39, R116). -/

namespace Sys2Proof.Machine

/-! ### Operations that leave link, mode and peer list -/

/-- The lane bus controller but for its queue and its latch. -/
structure SameLink (s t : State) : Prop where
  mode : t.bus.mode = s.bus.mode
  link : t.bus.link = s.bus.link
  recessive : t.bus.recessive = s.bus.recessive
  peers : t.bus.peers = s.bus.peers

theorem SameLink.refl (s : State) : SameLink s s := ⟨rfl, rfl, rfl, rfl⟩

theorem SameLink.after {s t u : State} (k : SameLink t u) (h : SameLink s t) : SameLink s u :=
  ⟨k.mode.trans h.mode, k.link.trans h.link, k.recessive.trans h.recessive, k.peers.trans h.peers⟩

theorem SameLink.ite {c : Prop} [Decidable c] {s t u : State} (h : SameLink s t) (k : SameLink s u) : SameLink s (if c then t else u) := by
  split
  · exact h
  · exact k

theorem Within.sameLink {bs : List Block} {s t : State} (h : Within bs s t) : SameLink s t := by
  obtain ⟨mode, link, recessive, peers, -⟩ := h.sameBus
  exact ⟨mode, link, recessive, peers⟩

theorem presenceIfChanged_link {s t : State} (h : SameLink s t) (u : State) : SameLink s (presenceIfChanged u t) := by
  unfold presenceIfChanged
  split
  · exact h
  · exact SameLink.after (requestPresence_within t).sameLink h

theorem setLatch_link (c : StopCause) (n : Nat) (s : State) : SameLink s (setLatch c n s) := by
  have latched : SameLink s (s.setBus { s.bus with latch := s.bus.latch.stop c n }) := ⟨rfl, rfl, rfl, rfl⟩
  unfold setLatch
  refine SameLink.ite (SameLink.after (updateFields_within _ _ _).sameLink latched) (presenceIfChanged_link ?_ s)
  exact SameLink.after (raise_within _ _ _).sameLink (SameLink.after (onPlate_within plateStopped_within _).sameLink
    (SameLink.after (onRoller_within rollerStopped_within _).sameLink latched))

theorem clearLatch_link (s : State) : SameLink s (clearLatch s) := by
  have cleared : SameLink s (s.setBus { s.bus with latch := { s.bus.latch with stopped := false, localCause := false } }) :=
    ⟨rfl, rfl, rfl, rfl⟩
  unfold clearLatch
  refine SameLink.ite (presenceIfChanged_link ?_ s) cleared
  exact SameLink.after (lower_within _ _).sameLink (SameLink.after (onRoller_within (holdChanged_within _) _).sameLink cleared)

theorem stopLane_link (c : StopCause) (s : State) : SameLink s (stopLane c s) :=
  SameLink.after (setLatch_link _ _ _) (queueFrame_within _ s).sameLink

theorem resumeHeard_link (s : State) : SameLink s (resumeHeard s) :=
  SameLink.ite (clearLatch_link s) (SameLink.ite (stopLane_link _ s) (SameLink.ite (stopLane_link _ s) (clearLatch_link s)))

theorem onLaneStop_link (n : Nat) (p : List Byte) (s : State) : SameLink s (onLaneStop n p s) := by
  unfold onLaneStop
  split
  · exact setLatch_link _ _ s
  · exact SameLink.refl s

theorem onMotorWarning_link (n : Nat) (p : List Byte) (s : State) : SameLink s (onMotorWarning n p s) := by
  unfold onMotorWarning
  split
  · exact SameLink.ite (raiseWith_within _ _ _ _ s).sameLink (SameLink.refl s)
  · exact SameLink.refl s

theorem onWarningShown_link (n : Nat) (p : List Byte) (s : State) : SameLink s (onWarningShown n p s) :=
  SameLink.ite (onRoller_within (warningShownHeard_within _ _) s).sameLink (SameLink.refl s)

theorem onVehicleCancel_link (p : List Byte) (s : State) : SameLink s (onVehicleCancel p s) := by
  unfold onVehicleCancel
  dsimp only
  split
  · have roller (r : State) : SameLink r (onRoller (rollerCancelled (wordAt p 0)) r) := (onRoller_within (rollerCancelled_within _) r).sameLink
    have plate (r : State) : SameLink r (onPlate (plateCancelled (wordAt p 0)) r) := (onPlate_within (plateCancelled_within _) r).sameLink
    have cert (r : State) : SameLink r (certTicketGone (wordAt p 0) r) := (certTicketGone_within _ r).sameLink
    have guidance (r : State) : SameLink r (guidanceTicketGone (wordAt p 0) r) := (guidanceTicketGone_within _ r).sameLink
    have lane (v : LaneView) : SameLink s (s.setLane v) := ⟨rfl, rfl, rfl, rfl⟩
    exact (guidance _).after ((cert _).after ((plate _).after ((roller _).after (lane _))))
  · exact SameLink.refl s

theorem onAxleEvent_link (p : List Byte) (s : State) : SameLink s (onAxleEvent p s) := by
  unfold onAxleEvent
  split
  · exact ⟨rfl, rfl, rfl, rfl⟩
  · exact SameLink.refl s

theorem onBrakeResult_link (p : List Byte) (s : State) : SameLink s (onBrakeResult p s) := by
  unfold onBrakeResult
  dsimp only
  split
  · exact (takeResult_within _ _ _ s).sameLink
  · exact SameLink.refl s

theorem onCertDone_link (p : List Byte) (s : State) : SameLink s (onCertDone p s) := by
  unfold onCertDone
  split
  · exact ⟨rfl, rfl, rfl, rfl⟩
  · exact SameLink.refl s

theorem onLaneClear_link (s : State) : SameLink s (onLaneClear s) := by
  have lane (r : State) : SameLink r (clearLane r) := (clearLane_within r).sameLink
  have roller (r : State) : SameLink r (onRoller rollerLaneClear r) := (onRoller_within rollerLaneClear_within r).sameLink
  have plate (r : State) : SameLink r (onPlate plateLaneClear r) := (onPlate_within plateLaneClear_within r).sameLink
  have cert (r : State) : SameLink r (certLaneClear r) := (certLaneClear_within r).sameLink
  have guidance (r : State) : SameLink r (guidanceLaneClear r) := (guidanceLaneClear_within r).sameLink
  exact (guidance _).after ((cert _).after ((plate _).after ((roller _).after (lane s))))

/-- A command that brings a frame hears it, and the blocks it reaches leave link, mode and peer list; a PRESENCE, a PRINT_ANSWER and a
frame without sense reach none. -/
theorem exec_heard {i : Instr} {f : WireFrame} (h : heardOf i = some f) :
    ∃ deliver : State → State, (∀ s, SameLink s (deliver s)) ∧
      ((f.cls, f.kind) = (2, 11) ∨ (f.cls, f.kind) = (3, 1) → ∀ s, deliver s = s) ∧
      ∀ s, exec i s = .next (outside (hearFrame f deliver) s) := by
  cases i with
  | unknownKindFrame c k src p =>
    simp only [heardOf, Option.ite_none_left_eq_some, Option.some.injEq] at h
    obtain ⟨senseless, rfl⟩ := h
    have heard : hearSenseless ⟨c.toNat, k.toNat, src.toNat, p⟩ = hearFrame ⟨c.toNat, k.toNat, src.toNat, p⟩ id :=
      funext fun t => if_neg senseless
    exact ⟨id, SameLink.refl, fun _ _ => rfl, fun s => by rw [exec, execUnknownKindFrame, heard]⟩
  | presence src p => cases h; exact ⟨id, SameLink.refl, fun _ _ => rfl, fun _ => rfl⟩
  | laneStop src p => cases h; exact ⟨_, onLaneStop_link _ _, by simp, fun _ => rfl⟩
  | laneResume src p => cases h; exact ⟨_, resumeHeard_link, by simp, fun _ => rfl⟩
  | motorWarning src p => cases h; exact ⟨_, onMotorWarning_link _ _, by simp, fun _ => rfl⟩
  | warningShown src p => cases h; exact ⟨_, onWarningShown_link _ _, by simp, fun _ => rfl⟩
  | rollersStopped src p => cases h; exact ⟨_, fun s => (lowerWarningOf_within _ s).sameLink, by simp, fun _ => rfl⟩
  | vehicleEntry src p => cases h; exact ⟨_, fun s => (registerVehicle_within _ s).sameLink, by simp, fun _ => rfl⟩
  | vehicleCancel src p => cases h; exact ⟨_, onVehicleCancel_link _, by simp, fun _ => rfl⟩
  | axleEvent src p => cases h; exact ⟨_, onAxleEvent_link _, by simp, fun _ => rfl⟩
  | axleLoad src p => cases h; exact ⟨_, fun s => (takeResult_within _ _ _ s).sameLink, by simp, fun _ => rfl⟩
  | brakeResult src p => cases h; exact ⟨_, onBrakeResult_link _, by simp, fun _ => rfl⟩
  | slipResult src p => cases h; exact ⟨_, fun s => (takeResult_within _ _ _ s).sameLink, by simp, fun _ => rfl⟩
  | certRequest src p =>
    cases h
    exact ⟨_, fun s => SameLink.ite (certRequest_within _ _ s).sameLink (SameLink.refl s), by simp, fun _ => rfl⟩
  | reprintRequest src p =>
    cases h
    exact ⟨_, fun s => SameLink.ite (reprintRequest_within _ _ s).sameLink (SameLink.refl s), by simp, fun _ => rfl⟩
  | certDone src p => cases h; exact ⟨_, onCertDone_link _, by simp, fun _ => rfl⟩
  | printAnswer src p => cases h; exact ⟨id, SameLink.refl, fun _ _ => rfl, fun _ => rfl⟩
  | laneClear src p => cases h; exact ⟨_, onLaneClear_link, by simp, fun _ => rfl⟩
  | _ => simp [heardOf] at h

/-! ### The peer list (R34, R36) -/

/-- The entry of a station among those of a list. -/
def peerIn (l : List Peer) (n : Nat) : Option Peer := l.find? fun p => p.station == n

theorem Bus.peer_eq (b : Bus) (n : Nat) : b.peer n = peerIn b.peers n := rfl

theorem Bus.hasPeer_eq (b : Bus) (n : Nat) : b.hasPeer n = (b.peer n).isSome := by
  rw [Bool.eq_iff_iff]
  simp [Bus.hasPeer, Bus.peer, List.find?_isSome]

theorem peerIn_refresh (l : List Peer) (n m : Nat) (fields : Option (PeerRole × Activity × Nat × PrinterState)) :
    peerIn (l.map fun p => if p.station = n then p.refresh fields else p) m =
      if m = n then (peerIn l m).map (·.refresh fields) else peerIn l m := by
  have station (p : Peer) : (if p.station = n then p.refresh fields else p).station = p.station := by
    split <;> simp [Peer.refresh_station]
  simp only [peerIn, List.find?_map, Function.comp_def, station]
  cases found : l.find? fun p => p.station == m with
  | none => simp
  | some p =>
    have at' : p.station = m := by simpa using List.find?_some found
    by_cases same : m = n
    · simp [at', same]
    · simp [at', same]

theorem peerIn_insert {p : Peer} {l : List Peer} (new : peerIn l p.station = none) (m : Nat) :
    peerIn (insertPeer p l) m = if m = p.station then some p else peerIn l m := by
  induction l with
  | nil =>
    by_cases same : m = p.station
    · simp [insertPeer, peerIn, same]
    · simp [insertPeer, peerIn, same, Ne.symm same]
  | cons x xs ih =>
    have other : (x.station == p.station) = false := by
      by_contra same
      simp [peerIn, Bool.eq_true_of_not_eq_false same] at new
    have rest : peerIn xs p.station = none := by simpa [peerIn, other] using new
    unfold insertPeer
    split
    · by_cases same : m = p.station
      · simp [peerIn, same]
      · simp [peerIn, same, Ne.symm same]
    · by_cases here : x.station = m
      · have apart : m ≠ p.station := fun same => by simp [here, same] at other
        simp [peerIn, here, apart]
      · have step (ys : List Peer) : peerIn (x :: ys) m = peerIn ys m := by simp [peerIn, here]
        rw [step, step, ih rest]

/-- A frame of a listed station refreshes its entry (R34). -/
theorem hearPeer_listed {b : Bus} {n : Nat} (listed : (b.peer n).isSome = true)
    (fields : Option (PeerRole × Activity × Nat × PrinterState)) (m : Nat) :
    (b.hearPeer n fields).peer m = if m = n then (b.peer m).map (·.refresh fields) else b.peer m := by
  simp only [Bus.hearPeer, Bus.hasPeer_eq, listed, if_true]
  exact peerIn_refresh b.peers n m fields

/-- A frame of a station that is not listed makes an entry where there is room (R34, R36). -/
theorem hearPeer_new {b : Bus} {n : Nat} (new : b.peer n = none) (room : b.peers.length < 14)
    (fields : Option (PeerRole × Activity × Nat × PrinterState)) (m : Nat) :
    (b.hearPeer n fields).peer m = if m = n then some ((Peer.unknown n).refresh fields) else b.peer m := by
  have station : ((Peer.unknown n).refresh fields).station = n := Peer.refresh_station _ _
  simp only [Bus.hearPeer, Bus.hasPeer_eq, new, Option.isSome_none, Bool.false_eq_true, if_false, Config.peerListSize, room, if_true]
  refine (peerIn_insert (p := (Peer.unknown n).refresh fields) (by rw [station]; exact new) m).trans ?_
  rw [station]
  rfl

/-- A full list takes no new station (R36). -/
theorem hearPeer_full {b : Bus} {n : Nat} (new : b.peer n = none) (full : 14 ≤ b.peers.length)
    (fields : Option (PeerRole × Activity × Nat × PrinterState)) : b.hearPeer n fields = b := by
  simp only [Bus.hearPeer, Bus.hasPeer_eq, new, Option.isSome_none, Bool.false_eq_true, if_false, Config.peerListSize,
    Nat.not_lt.mpr full]

theorem Bus.hearPeer_fields (b : Bus) (n : Nat) (fields : Option (PeerRole × Activity × Nat × PrinterState)) :
    (b.hearPeer n fields).mode = b.mode ∧ (b.hearPeer n fields).link = b.link ∧ (b.hearPeer n fields).recessive = b.recessive ∧
    (b.hearPeer n fields).queue = b.queue ∧ (b.hearPeer n fields).latch = b.latch ∧
    (b.hearPeer n fields).nextStamp = b.nextStamp := by
  unfold Bus.hearPeer
  split
  · simp
  · split <;> simp

end Sys2Proof.Machine
end

section
/-! The state in which a heard frame reaches the blocks, and the statements on the peer list (R26, R34 to R39, R116). -/

namespace Sys2Proof.Machine

/-- A PRESENCE as R37 counts it: of a length that makes sense. -/
def WireFrame.announces (f : WireFrame) : Bool := decide (f.cls = 3 ∧ f.kind = 1) && f.sensible

/-- The fields that a heard frame brings to the peer list. -/
def WireFrame.fields (f : WireFrame) : Option (PeerRole × Activity × Nat × PrinterState) :=
  if f.announces then readPresence f.payload else none

/-- The state in which a heard frame reaches the blocks: its end, then the clash check or the peer list with its report. -/
def passage (f : WireFrame) (s : State) : State :=
  if f.source = s.startUp.ownNumber then clash (frameEnds f s) else enterPeer f.source f.announces f.fields (frameEnds f s)

theorem hearFrame_eq {f : WireFrame} {s : State} (listening : s.bus.isSending = false) (station : f.source ≠ 0)
    (deliver : State → State) :
    hearFrame f deliver s = if f.sensible then deliver (passage f s) else passage f s := by
  simp only [hearFrame, listening, station, if_false, Bool.false_eq_true]
  rfl

theorem hearFrame_nobody {f : WireFrame} {s : State} (listening : s.bus.isSending = false) (nobody : f.source = 0)
    (deliver : State → State) : hearFrame f deliver s = frameEnds f s := by
  simp [hearFrame, listening, nobody]

theorem State.listens_iff {s : State} {src : BitVec 4} :
    s.listens src = true ↔ s.quiet = true ∧ s.bus.isSending = false ∧ src.toNat ≠ 0 := by
  have source : src ≠ 0 ↔ src.toNat ≠ 0 := not_congr ⟨fun h => by simp [h], fun h => BitVec.eq_of_toNat_eq h⟩
  simp only [State.listens, Bool.and_eq_true, Bool.not_eq_true', decide_eq_true_eq, and_assoc, ← source]
  rfl

/-- A frame that makes sense reaches its blocks in the state that its passage leaves. -/
theorem heard_passage {cls kind : Nat} {src : BitVec 4} {p : List Byte} {s : State} (listens : s.listens src = true)
    (length : kindLength cls kind p.length = some true) (deliver : State → State) :
    heard cls kind src p deliver s = .next (deliver (passage ⟨cls, kind, src.toNat, p⟩ s)) := by
  obtain ⟨quiet, listening, station⟩ := State.listens_iff.mp listens
  have sense : WireFrame.sensible ⟨cls, kind, src.toNat, p⟩ = true := by simp [WireFrame.sensible, length]
  rw [heard, outside_quiet quiet, hearFrame_eq listening station, if_pos sense]

/-! ### What the passage leaves -/

theorem frameEnds_fields (f : WireFrame) (s : State) :
    (frameEnds f s).bus = { s.bus with link := .quiet, recessive := trailingRecessive f.bits } ∧
    (frameEnds f s).startUp = s.startUp := ⟨rfl, rfl⟩

theorem passage_changes (f : WireFrame) (s : State) : s.onlyChanges passageBlocks (passage f s) :=
  State.onlyChanges_after (State.onlyChanges_ite (clash_passage _) (enterPeer_passage _ _ _ _)) (setBus_passage s _)

/-- A frame under the own number: LISTEN_ONLY (R39). -/
theorem passage_own {f : WireFrame} {s : State} (own : f.source = s.startUp.ownNumber) :
    (passage f s).bus.link = .quiet ∧ (passage f s).bus.mode = .listenOnly ∧ (passage f s).bus.peers = s.bus.peers ∧
    (passage f s).bus.latch = s.bus.latch := by
  rw [passage, if_pos own, clash]
  split
  · rename_i silent
    exact ⟨rfl, silent, rfl, rfl⟩
  · simp [frameEnds, Bus.setLink, Bus.listenOnly]

/-- The state at the peer heard report of another station's frame. -/
abbrev listed (f : WireFrame) (s : State) : State := (frameEnds f s).setBus ((frameEnds f s).bus.hearPeer f.source f.fields)

/-- What the peer heard report of another station's frame leaves. -/
theorem passage_within {f : WireFrame} {s : State} (other : f.source ≠ s.startUp.ownNumber) :
    Within passageBlocks (listed f s) (passage f s) := by
  rw [passage, if_neg other, enterPeer]
  exact Within.ite (peerHeard_passage _ _ _) (Within.refl _ _)

theorem hearPeer_peers (b : Bus) (l : Link) (k : Nat) (n : Nat) (fields : Option (PeerRole × Activity × Nat × PrinterState)) :
    ((b.setLink l k).hearPeer n fields).peers = (b.hearPeer n fields).peers := by
  unfold Bus.hearPeer Bus.hasPeer Bus.setLink
  split
  · rfl
  · split <;> rfl

/-- A frame of another station: the link quiet, mode, latch and queue use as before, the peer list as R34 and R36 have it. -/
theorem passage_other {f : WireFrame} {s : State} (other : f.source ≠ s.startUp.ownNumber) :
    (passage f s).bus.link = .quiet ∧ (passage f s).bus.mode = s.bus.mode ∧
    (passage f s).bus.peers = (s.bus.hearPeer f.source f.fields).peers ∧ (passage f s).bus.latch = s.bus.latch := by
  obtain ⟨mode, link, -, peers, latch, -⟩ := (passage_within other).sameBus
  obtain ⟨mode', link', -, -, latch', -⟩ := (frameEnds f s).bus.hearPeer_fields f.source f.fields
  exact ⟨link.trans link', mode.trans mode', peers.trans (hearPeer_peers s.bus _ _ _ _), latch.trans latch'⟩

theorem passage_link (f : WireFrame) (s : State) : (passage f s).bus.link = .quiet ∧ (passage f s).bus.latch = s.bus.latch := by
  by_cases own : f.source = s.startUp.ownNumber
  · obtain ⟨link, -, -, latch⟩ := passage_own own
    exact ⟨link, latch⟩
  · obtain ⟨link, -, -, latch⟩ := passage_other own
    exact ⟨link, latch⟩

theorem peer_congr {b c : Bus} (h : b.peers = c.peers) (n : Nat) : b.peer n = c.peer n := by rw [Bus.peer_eq, Bus.peer_eq, h]

/-- Settles O9: link, mode and peer list are set by the frame's passage, and no block changes them after it. -/
theorem heardFramesKeepThePeerList : Obligations.HeardFramesKeepThePeerList := by
  intro s i quiet listening f brings
  obtain ⟨deliver, keeps, -, run⟩ := exec_heard brings
  refine ⟨hearFrame f deliver s, by rw [run, outside_quiet quiet], ?_⟩
  by_cases nobody : f.source = 0
  · rw [hearFrame_nobody listening nobody]
    exact ⟨rfl, fun _ => rfl, fun no => absurd nobody no, fun no => absurd nobody no⟩
  rw [hearFrame_eq listening nobody]
  have after : SameLink (passage f s) (if f.sensible = true then deliver (passage f s) else passage f s) :=
    SameLink.ite (keeps _) (SameLink.refl _)
  generalize (if f.sensible = true then deliver (passage f s) else passage f s) = t at after ⊢
  obtain ⟨mode, link, -, peers⟩ := after
  refine ⟨link.trans (passage_link f s).1, fun no => absurd no nobody, fun _ own => ?_, fun _ other => ?_⟩
  · obtain ⟨-, only, same, -⟩ := passage_own own
    exact ⟨peers.trans same, mode.trans only⟩
  · obtain ⟨-, same, list, -⟩ := passage_other other
    have entry (n : Nat) : t.bus.peer n = (s.bus.hearPeer f.source f.fields).peer n := peer_congr (peers.trans list) n
    refine ⟨mode.trans same, fun n _ apart => ?_, fun bare => ?_, fun new full => ?_⟩
    · rw [entry]
      cases known : s.bus.peer f.source with
      | some p => rw [hearPeer_listed (by simp [known]), if_neg apart]
      | none =>
        by_cases room : s.bus.peers.length < 14
        · rw [hearPeer_new known room, if_neg apart]
        · rw [hearPeer_full known (Nat.not_lt.mp room)]
    · have fields : f.fields = none := by
        unfold WireFrame.fields WireFrame.announces
        rcases bare with h | h | h
        · simp [h]
        · have : ¬(f.cls = 3 ∧ f.kind = 1) := fun c => h (by rw [c.1, c.2])
          simp [this]
        · rw [h]; simp
      refine ⟨fun p known => ?_, fun new room => ?_⟩
      · rw [entry, hearPeer_listed (by simp [known]), if_pos rfl, known, fields]; rfl
      · rw [entry, hearPeer_new new room, if_pos rfl, fields]; rfl
    · exact (peers.trans list).trans (by rw [hearPeer_full new full])

/-! ### The role clash (R116) -/

theorem judgeRoleClash_roleClash (s : State) : (judgeRoleClash s).roller.roleClash = !s.lowerRollers.isEmpty := by
  have shown (b : Bool) (t : State) : (holdChanged b t).roller.roleClash = t.roller.roleClash := by
    unfold holdChanged
    split <;> simp
  unfold judgeRoleClash
  dsimp only
  cases lower : s.lowerRollers with
  | nil =>
    cases clash : s.roller.roleClash with
    | false => simp [clash]
    | true => simp [shown]
  | cons n rest =>
    cases clash : s.roller.roleClash with
    | false => simp [shown]
    | true => simp [clash]

/-- A role clash stands exactly when the list holds a ROLLER of lower number (R116). -/
theorem lowerRollers_iff {s : State} :
    (!s.lowerRollers.isEmpty) = true ↔ ∃ x ∈ s.bus.peers, x.role = some .roller ∧ x.station < s.startUp.ownNumber := by
  simp [State.lowerRollers, List.filter_eq_nil_iff]

theorem State.lowerRollers_congr {s t : State} (peers : t.bus.peers = s.bus.peers) (startUp : t.startUp = s.startUp) :
    t.lowerRollers = s.lowerRollers := by
  simp [State.lowerRollers, peers, startUp]

/-- The peer heard report judges the role clash on the list as it stands (R37, R116). -/
theorem peerHeard_roleClash {s : State} (active : s.rollerActive = true) (n : Nat) (isPresence : Bool) :
    (peerHeard n isPresence s).roller.roleClash = !s.lowerRollers.isEmpty := by
  have left : Within passageBlocks s (if isPresence && s.bus.notPanel n then removeAwaited n s else s) :=
    Within.ite (removeAwaited_passage n s) (Within.refl _ s)
  unfold peerHeard onRoller
  simp only [active, if_true, recheck_frame, judgeEntry_frame, judgeRoleClash_roleClash]
  rw [State.lowerRollers_congr left.sameBus.2.2.2.1 (left.same .startUp (by simp))]

theorem readPeerRole_code (r : PeerRole) : readPeerRole r.code = some r := by cases r <;> rfl

theorem readPresenceMode_code (m : PresenceMode) : readPresenceMode m.code = some m := by cases m <;> rfl

theorem readActivity_code (a : Activity) : readActivity a.code = some a := by cases a <;> rfl

theorem readPrinterState_code (q : PrinterState) : readPrinterState q.code = some q := by cases q <;> rfl

/-- Settles O10, by the entry that the PRESENCE fills and the judgement that its report brings. -/
theorem presenceFillsThePeerEntry : Obligations.PresenceFillsThePeerEntry := by
  intro s src p listens other length room role m a q hr hm ha hq
  have read : readPresence p = some (role, a, wordAt p 3, q) := by
    simp [readPresence, hr, hm, ha, hq, readPeerRole_code, readPresenceMode_code, readActivity_code, readPrinterState_code]
  let f : WireFrame := ⟨3, 1, src.toNat, p⟩
  have announces : f.announces = true := by simp [f, WireFrame.announces, WireFrame.sensible, kindLength, length]
  have fields : f.fields = some (role, a, wordAt p 3, q) := by simp [WireFrame.fields, announces, read, f]
  have changes := passage_changes f s
  refine ⟨passage f s, heard_passage (cls := 3) (kind := 1) listens (by simp [kindLength, length]) id, ?_, fun active => ?_,
    changes .lane (by simp), changes .archive (by simp), changes .capture (by simp), changes .counters (by simp), changes .clock (by simp)⟩
  · rw [peer_congr (passage_other (f := f) other).2.2.1, fields]
    cases known : s.bus.peer src.toNat with
    | some x =>
      have station : x.station = src.toNat := by simpa using List.find?_some known
      rw [hearPeer_listed (by simp [f, known]), if_pos rfl, known]
      simp [Peer.refresh, Peer.fill, station]
    | none =>
      have space : s.bus.peers.length < 14 := room.resolve_left (by simp [known])
      rw [hearPeer_new known space, if_pos rfl]
      rfl
  · have stands : (listed f s).bus.hasPeer f.source = true := by
      have entry : (listed f s).bus.peer f.source = (s.bus.hearPeer f.source f.fields).peer f.source :=
        peer_congr (hearPeer_peers s.bus _ _ _ _) _
      rw [Bus.hasPeer_eq, entry]
      cases known : s.bus.peer src.toNat with
      | some x => rw [hearPeer_listed (by simp [f, known]), if_pos rfl]; simp [f, known]
      | none => rw [hearPeer_new known (room.resolve_left (by simp [known])), if_pos rfl]; rfl
    have report : passage f s = peerHeard f.source true (listed f s) := by
      rw [passage, if_neg other, enterPeer, announces]
      exact if_pos (by simpa using stands)
    have peers : (passage f s).bus.peers = (listed f s).bus.peers := (passage_within other).sameBus.2.2.2.1
    have active' : (listed f s).rollerActive = true := active
    rw [peers, report, peerHeard_roleClash active', lowerRollers_iff]
    rfl

/-- Settles O11: a known station's frame without sense refreshes its entry, makes no report and reaches no block. -/
theorem senselessFramesReachNoBlock : Obligations.SenselessFramesReachNoBlock := by
  intro s i quiet listening f brings station other known blind
  obtain ⟨deliver, -, nowhere, run⟩ := exec_heard brings
  have silent : f.announces = false := by
    rcases blind with h | h
    · simp [WireFrame.announces, h]
    · simp only [Prod.mk.injEq] at h; simp [WireFrame.announces, h.1]
  have heard : hearFrame f deliver s = passage f s := by
    rw [hearFrame_eq listening station]
    split
    · rename_i sense
      exact nowhere (Or.inl (blind.resolve_left (by simp [sense]))) _
    · rfl
  have quietly : passage f s = listed f s := by
    have before : (frameEnds f s).bus.hasPeer f.source = true := by rw [Bus.hasPeer_eq]; exact known
    rw [passage, if_neg other, enterPeer, silent]
    exact if_neg (by simp [before])
  obtain ⟨mode, -, -, queue, latch, -⟩ := (frameEnds f s).bus.hearPeer_fields f.source f.fields
  refine ⟨hearFrame f deliver s, by rw [run, outside_quiet quiet], ?_⟩
  rw [heard, quietly]
  exact ⟨rfl, queue, latch, mode⟩

end Sys2Proof.Machine
end

section
/-! The lane stop latch: heard LANE_STOP and LANE_RESUME (R41 to R43, R117). -/

namespace Sys2Proof.Machine

/-! ### What becomes of a queued frame -/

/-- The transmit queue does not get shorter, and loses no frame but a PRESENCE while it is not full. -/
structure KeepsQueue (s t : State) : Prop where
  grows : s.bus.queue.length ≤ t.bus.queue.length
  keeps : t.bus.queue.length < 8 → ∀ q ∈ s.bus.queue, q.frame.isPresence = false → q ∈ t.bus.queue

theorem KeepsQueue.of_eq {s t : State} (h : t.bus.queue = s.bus.queue) : KeepsQueue s t :=
  ⟨by rw [h], fun _ q m _ => by rwa [h]⟩

theorem KeepsQueue.refl (s : State) : KeepsQueue s s := .of_eq rfl

theorem KeepsQueue.after {s t u : State} (k : KeepsQueue t u) (h : KeepsQueue s t) : KeepsQueue s u :=
  ⟨h.grows.trans k.grows, fun room q m p => k.keeps room q (h.keeps (k.grows.trans_lt room) q m p) p⟩

theorem KeepsQueue.ite {c : Prop} [Decidable c] {s t u : State} (h : KeepsQueue s t) (k : KeepsQueue s u) :
    KeepsQueue s (if c then t else u) := by
  split
  · exact h
  · exact k

theorem Within.keepsQueue {bs : List Block} {s t : State} (h : Within bs s t) : KeepsQueue s t := ⟨h.2.grows, h.2.keeps⟩

theorem presenceIfChanged_keepsQueue {s t : State} (h : KeepsQueue s t) (u : State) : KeepsQueue s (presenceIfChanged u t) := by
  unfold presenceIfChanged
  split
  · exact h
  · exact KeepsQueue.after (requestPresence_within t).keepsQueue h

/-- A frame requested on the way stands in the queue at the end, unless the queue refuses or is full. -/
theorem queues_of_keeps {s r t : State} {f : LaneFrame} (can : r.bus.canQueue = s.bus.canQueue) (lasting : f.isPresence = false)
    (k : KeepsQueue (queueFrame f r) t) : s.queues t f := fun open' room =>
  ⟨_, k.keeps room _ (Bus.mem_enqueue (can.trans open') f (k.grows.trans_lt room)) lasting, rfl⟩

/-! ### The latch set and cleared -/

theorem axleEvent_stampCounter (v : LaneView) (n axle : Nat) (ev : AxleEventKind) (role : MeasuringRole) :
    (v.axleEvent n axle ev role).stampCounter = v.stampCounter := by
  unfold LaneView.axleEvent
  split <;> rfl

theorem rollerStopped_stampCounter (s : State) : (rollerStopped s).lane.stampCounter = s.lane.stampCounter := by
  unfold rollerStopped
  split
  · simp
  · simp [axleEvent_stampCounter]
  · split <;> simp [axleEvent_stampCounter]
  · simp

theorem onPlate_lane_of {f : State → State} (h : ∀ s, (f s).lane = s.lane) (s : State) : (onPlate f s).lane = s.lane := by
  unfold onPlate
  split
  · exact h s
  · rfl

@[simp] theorem dropMeasurement_frame (s : State) :
    ChainFrame s (dropMeasurement s) ∧ (dropMeasurement s).timers = s.timers := by
  simp [dropMeasurement, closePlateStream, ChainFrame, SameOuter]

@[simp] theorem unmeasure_frame (s : State) :
    EntryFrame s (unmeasure s) ∧ (unmeasure s).timers = s.timers ∧ (unmeasure s).guidance = s.guidance ∧ (unmeasure s).roller = s.roller ∧
    (unmeasure s).plate = { s.plate with measure := .unmeasured } := by
  simp [unmeasure, EntryFrame, SameOuter, SameBus]

theorem plateStopped_lane (s : State) : (plateStopped s).lane = s.lane := by
  unfold plateStopped
  split <;> simp

/-- What the change of the latch to stopped is reported to, in R43's order, before the prompt. -/
abbrev stopReported (c : StopCause) (n : Nat) (s : State) : State :=
  onPlate plateStopped (onRoller rollerStopped (s.setBus { s.bus with latch := s.bus.latch.stop c n }))

theorem setLatch_moving {s : State} (moving : s.bus.latch.stopped = false) (c : StopCause) (n : Nat) :
    setLatch c n s = presenceIfChanged s (raise .laneStopped (stopFields c n) (stopReported c n s)) := by
  simp [setLatch, moving]

theorem setLatch_stopped {s : State} (stopped : s.bus.latch.stopped = true) (c : StopCause) (n : Nat) :
    setLatch c n s = updateFields .laneStopped (stopFields c n) (s.setBus { s.bus with latch := s.bus.latch.stop c n }) := by
  simp [setLatch, stopped]

theorem presenceIfChanged_frame (s t : State) : QueueFrame t (presenceIfChanged s t) := by
  unfold presenceIfChanged
  split
  · simp [QueueFrame, PromptFrame, SameOuter, SameBus]
  · exact requestPresence_frame t

@[simp] theorem presenceIfChanged_fields (s t : State) : QueueFrame t (presenceIfChanged s t) := presenceIfChanged_frame s t

theorem stopReported_latch (c : StopCause) (n : Nat) (s : State) : (stopReported c n s).bus.latch = s.bus.latch.stop c n := by
  have plate := (onPlate_within plateStopped_within (onRoller rollerStopped (s.setBus { s.bus with latch := s.bus.latch.stop c n }))).sameBus
  have roller := (onRoller_within rollerStopped_within (s.setBus { s.bus with latch := s.bus.latch.stop c n })).sameBus
  exact plate.2.2.2.2.1.trans roller.2.2.2.2.1

@[simp] theorem setLatch_latch (c : StopCause) (n : Nat) (s : State) : (setLatch c n s).bus.latch = s.bus.latch.stop c n := by
  cases h : s.bus.latch.stopped with
  | true => simp [setLatch_stopped h]
  | false => simp [setLatch_moving h, stopReported_latch]

theorem setLatch_stampCounter (c : StopCause) (n : Nat) (s : State) : (setLatch c n s).lane.stampCounter = s.lane.stampCounter := by
  cases h : s.bus.latch.stopped with
  | true => simp [setLatch_stopped h]
  | false =>
    simp only [setLatch_moving h, presenceIfChanged_fields, raise_frame]
    rw [onPlate_lane_of plateStopped_lane]
    unfold onRoller
    split
    · exact rollerStopped_stampCounter _
    · rfl

theorem setLatch_keepsQueue (c : StopCause) (n : Nat) (s : State) : KeepsQueue s (setLatch c n s) := by
  have latched : KeepsQueue s (s.setBus { s.bus with latch := s.bus.latch.stop c n }) := .of_eq rfl
  cases h : s.bus.latch.stopped with
  | true => rw [setLatch_stopped h]; exact KeepsQueue.after (updateFields_within _ _ _).keepsQueue latched
  | false =>
    rw [setLatch_moving h]
    refine presenceIfChanged_keepsQueue (KeepsQueue.after (raise_within _ _ _).keepsQueue ?_) s
    exact KeepsQueue.after (onPlate_within plateStopped_within _).keepsQueue
      (KeepsQueue.after (onRoller_within rollerStopped_within _).keepsQueue latched)

/-- A stop of a moving lane shows LANE_STOPPED (R43). -/
theorem setLatch_isRaised {s : State} (moving : s.bus.latch.stopped = false) (c : StopCause) (n : Nat) :
    (setLatch c n s).guidance.isRaised .laneStopped = true := by
  simp [setLatch_moving moving, raise_isRaised]

/-- In a stopped lane the sequence rests (R117). -/
theorem State.Geared.stopped_idle {s : State} (g : s.Geared) (stopped : s.bus.latch.stopped = true) :
    s.roller.phase = .idle ∧ s.roller.motors = false := by
  have idle := g.resting (Or.inl stopped)
  exact ⟨idle, g.off (by simp [idle, Phase.turns])⟩

theorem passage_gear (f : WireFrame) (s : State) : SameGear s (passage f s) := by
  have ends : SameGear s (frameEnds f s) := setBus_gear s rfl
  unfold passage
  split
  · exact (clash_gear _).after ends
  · exact (enterPeer_gear _ _ _ _).after ends

theorem readStopCause_eq_some_iff {n : Nat} {c : StopCause} : readStopCause n = some c ↔ n = c.code := by
  match n with
  | 0 | 1 | 2 | _ + 3 => cases c <;> simp [readStopCause, StopCause.code]

/-- Settles O12: the frame reaches the latch with the motor law standing, and in a stopped lane the sequence rests. -/
theorem laneStopSetsTheLatch : Obligations.LaneStopSetsTheLatch := by
  intro s src p listens law length
  let f : WireFrame := ⟨0, 1, src.toNat, p⟩
  have gear := passage_gear f s
  have g : (passage f s).Geared := (State.motorLaw_iff.mp law).congr gear
  have latch := (passage_link f s).2
  refine ⟨onLaneStop src.toNat p (passage f s), heard_passage (cls := 0) (kind := 1) listens (by simp [kindLength, length]) _,
    fun c code => ?_, fun beyond => ?_, ?_⟩
  · have stop : onLaneStop src.toNat p (passage f s) = setLatch c src.toNat (passage f s) := by
      rw [onLaneStop, readStopCause_eq_some_iff.mpr code]
    rw [stop]
    have rest := (setLatch_geared c src.toNat g).stopped_idle (by simp [Latch.stop])
    refine ⟨by rw [setLatch_latch, latch]; rfl, rest.2, fun _ => rest.1, fun moving => setLatch_isRaised ?_ _ _⟩
    rw [latch]; exact moving
  · have unread : readStopCause (byteAt p 0) = none := by
      cases read : readStopCause (byteAt p 0) with
      | none => rfl
      | some c => have := readStopCause_eq_some_iff.mp read; cases c <;> simp [StopCause.code] at this <;> omega
    have ignored : onLaneStop src.toNat p (passage f s) = passage f s := by rw [onLaneStop, unread]
    rw [ignored]
    exact latch
  · exact State.onlyChanges_trans (State.onlyChanges_mono (passage_changes f s) (by simp)) (onLaneStop_changes _ _ _)

@[simp] theorem clearLatch_latch (s : State) :
    (clearLatch s).bus.latch = { s.bus.latch with stopped := false, localCause := false } := by
  have held (t : State) := (onRoller_within (holdChanged_within s.idleHeld) t).sameBus.2.2.2.2.1
  unfold clearLatch
  dsimp only
  split
  · simp [held]
  · simp

/-- A resume of a stopped lane lowers LANE_STOPPED (R42, R43). -/
theorem clearLatch_isRaised {s : State} (stopped : s.bus.latch.stopped = true) :
    (clearLatch s).guidance.isRaised .laneStopped = false := by
  simp [clearLatch, stopped, lower_isRaised]

theorem clearLatch_lane (s : State) : (clearLatch s).lane = s.lane := by
  have held (t : State) : (onRoller (holdChanged s.idleHeld) t).lane = t.lane := by
    unfold onRoller holdChanged
    split
    · split <;> simp
    · rfl
  unfold clearLatch
  dsimp only
  split
  · simp [held]
  · simp

/-- A LANE_STOP of this station is queued, and sets the latch under its own number (R41). -/
theorem stopLane_latch (c : StopCause) (s : State) : (stopLane c s).bus.latch = s.bus.latch.stop c s.startUp.ownNumber := by
  simp [stopLane]

theorem stopLane_queues (c : StopCause) {s r : State} (can : r.bus.canQueue = s.bus.canQueue) : s.queues (stopLane c r) (.laneStop c) :=
  queues_of_keeps can rfl (setLatch_keepsQueue _ _ _)

theorem stopLane_stampCounter (c : StopCause) (s : State) : (stopLane c s).lane.stampCounter = s.lane.stampCounter := by
  rw [stopLane, setLatch_stampCounter]; simp

theorem resumeHeard_stampCounter (s : State) : (resumeHeard s).lane.stampCounter = s.lane.stampCounter := by
  unfold resumeHeard
  split_ifs
  · rw [clearLatch_lane]
  · exact stopLane_stampCounter _ _
  · exact stopLane_stampCounter _ _
  · rw [clearLatch_lane]

/-- A welded contactor stands through the passage of a frame. -/
theorem passage_welded (f : WireFrame) (s : State) : (passage f s).roller.welded = s.roller.welded := by
  have held (b : Bool) (t : State) : (holdChanged b t).roller.welded = t.roller.welded := by
    unfold holdChanged; split <;> simp
  have clashed (t : State) : (judgeRoleClash t).roller.welded = t.roller.welded := by
    unfold judgeRoleClash
    dsimp only
    split <;> split <;> simp [held]
  have removed (n : Nat) (t : State) : (removeAwaited n t).roller.welded = t.roller.welded := by
    unfold removeAwaited
    dsimp only
    split_ifs <;> simp
  have heard (n : Nat) (b : Bool) (t : State) : (peerHeard n b t).roller.welded = t.roller.welded := by
    unfold peerHeard onRoller
    dsimp only
    split_ifs <;> simp [clashed, removed]
  unfold passage clash enterPeer
  dsimp only
  split
  · split
    · rfl
    · simp [frameEnds]
  · split
    · exact heard _ _ _
    · rfl

/-- Settles O13, by the rows of R42's table. -/
theorem laneResumeClearsOrAnswers : Obligations.LaneResumeClearsOrAnswers := by
  intro s src listens other
  let f : WireFrame := ⟨0, 2, src.toNat, []⟩
  obtain ⟨-, mode, -, latch⟩ := passage_other (f := f) other
  have changes := passage_changes f s
  have can : (passage f s).bus.canQueue = s.bus.canQueue := by simp [Bus.canQueue, mode]
  have filter : (passage f s).filter = s.filter := changes .filter (by simp)
  have startUp : (passage f s).startUp = s.startUp := changes .startUp (by simp)
  have lane : (passage f s).lane = s.lane := changes .lane (by simp)
  have welded : (passage f s).reportsWelded = (s.rollerActive && s.roller.welded) := by
    rw [State.reportsWelded, passage_welded, State.rollerActive_congr (changes .power (by simp)) startUp]
  have all : s.onlyChanges eventBlocks (resumeHeard (passage f s)) :=
    State.onlyChanges_trans (State.onlyChanges_mono changes (by simp)) (resumeHeard_changes _)
  refine ⟨resumeHeard (passage f s), heard_passage (cls := 0) (kind := 2) listens rfl _, fun clears => ?_, fun on stop => ?_,
    fun on free weld => ?_, (resumeHeard_stampCounter _).trans (by rw [lane]), all .archive (by simp), all .counters (by simp)⟩
  · have cleared : resumeHeard (passage f s) = clearLatch (passage f s) := by
      unfold resumeHeard
      rcases clears with starting | ⟨free, sound⟩
      · rw [if_pos (mode.trans starting)]
      · rw [filter, free, welded, sound]; simp
    rw [cleared]
    exact ⟨by rw [clearLatch_latch, latch], fun stopped => clearLatch_isRaised (by rw [latch]; exact stopped)⟩
  · have answered : resumeHeard (passage f s) = stopLane .stopInput (passage f s) := by
      unfold resumeHeard
      rw [if_neg (by rw [mode]; exact on), filter, if_pos stop]
    rw [answered, stopLane_latch, latch, startUp]
    exact ⟨rfl, stopLane_queues _ can⟩
  · have answered : resumeHeard (passage f s) = stopLane .contactor (passage f s) := by
      unfold resumeHeard
      rw [if_neg (by rw [mode]; exact on), filter, if_neg (by simp [free]), welded, if_pos weld]
    rw [answered, stopLane_latch, latch, startUp]
    exact ⟨rfl, stopLane_queues _ can⟩

end Sys2Proof.Machine
end

section
/-! The vehicle table: registration fields, the expected vehicle, results, rewrites and closes (R5, R6, R12 to R14, R18). -/

namespace Sys2Proof.Machine

/-! ### Registration (R5) -/

theorem mem_axlesOf {set count k : Nat} (small : count ≤ 8) :
    k ∈ axlesOf set count ↔ 1 ≤ k ∧ k ≤ count ∧ set.testBit (k - 1) = true := by
  simp only [axlesOf, List.mem_filter, List.mem_map, List.mem_range, Bool.and_eq_true, decide_eq_true_eq]
  constructor
  · rintro ⟨⟨i, -, rfl⟩, bit, le⟩
    exact ⟨by omega, le, bit⟩
  · rintro ⟨pos, le, bit⟩
    exact ⟨⟨k - 1, by omega, by omega⟩, bit, le⟩

/-- What a checked VEHICLE_ENTRY passed, and the registration it gives (R5). -/
theorem EntryFields.check_eq_some_iff {f : EntryFields} {r : Registration} :
    f.check = some r ↔ ∃ cls brake, f.cls = some cls ∧ f.brake = some brake ∧
      (f.ticket ≠ 0 ∧ f.axleCount ≠ 0 ∧ f.axleCount ≤ 8 ∧ ¬(brake = .air ∧ f.pref = none)) ∧
      r = { ticket := f.ticket, cls := cls, brake := brake, axleCount := f.axleCount
            parkingSet := axlesOf f.parking f.axleCount, steeredSet := axlesOf f.steered f.axleCount
            pref := if brake = .air then f.pref.map rangedPref else none
            weight := rangedWeight f.weight, time := f.time, plate := f.plate.take 8 } := by
  unfold EntryFields.check
  cases f.cls with
  | none => simp
  | some cls =>
    cases f.brake with
    | none => simp
    | some brake =>
      simp only [Option.ite_none_left_eq_some, Option.some.injEq, Bool.or_eq_true, Bool.and_eq_true, decide_eq_true_eq,
        Option.isNone_iff_eq_none, not_or, not_lt, and_assoc]
      constructor
      · rintro ⟨ticket, count, small, air, rfl⟩
        exact ⟨cls, brake, rfl, rfl, ticket, count, small, air, rfl⟩
      · rintro ⟨_, _, rfl, rfl, ticket, count, small, air, rfl⟩
        exact ⟨ticket, count, small, air, rfl⟩

theorem EntryFields.check_eq_none_iff {f : EntryFields} :
    f.check = none ↔ f.ticket = 0 ∨ f.axleCount = 0 ∨ 8 < f.axleCount ∨ f.cls = none ∨ f.brake = none ∨
      (f.brake = some .air ∧ f.pref = none) := by
  unfold EntryFields.check
  cases f.cls with
  | none => simp
  | some cls =>
    cases f.brake with
    | none => simp
    | some brake =>
      simp only [ite_eq_left_iff, reduceCtorEq, imp_false, not_not, Bool.or_eq_true, Bool.and_eq_true, decide_eq_true_eq,
        Option.isNone_iff_eq_none, Option.some.injEq, false_or, or_assoc]

theorem rangedPref_eq (v : Nat) : rangedPref v = if v < 300 then 300 else if 1000 < v then 1000 else v := by
  unfold rangedPref
  split_ifs <;> omega

theorem rangedWeight_some {v : Nat} (h : v ≠ 0) : rangedWeight (some v) = some (if 60000 < v then 60000 else v) := by
  simp only [rangedWeight, h, if_false]
  split_ifs <;> simp <;> omega

/-- Settles O14, by the check taken apart. -/
theorem registrationIsCheckedAndRanged : Obligations.RegistrationIsCheckedAndRanged := by
  intro f
  refine ⟨EntryFields.check_eq_none_iff, fun r h => ?_⟩
  obtain ⟨cls, brake, hcls, hbrake, ⟨-, -, small, -⟩, rfl⟩ := EntryFields.check_eq_some_iff.mp h
  refine ⟨rfl, hcls.symm, hbrake.symm, rfl, rfl, fun air v pref => ?_, fun hydraulic => ?_, fun absent => ?_, fun v weight nonzero => ?_,
    fun k => mem_axlesOf small, fun k => mem_axlesOf small, rfl⟩
  · simp [show brake = .air from air, pref, rangedPref_eq]
  · simp [show brake = .hydraulic from hydraulic]
  · rcases absent with h | h <;> simp [h, rangedWeight]
  · simp only [weight, rangedWeight_some nonzero]

/-! ### The expected vehicle (R12) -/

theorem oldest_eq_none_iff {l : List Entry} : oldest l = none ↔ l = [] := by
  cases l with
  | nil => simp [oldest]
  | cons e es =>
    simp only [oldest, reduceCtorEq, iff_false]
    split
    · simp
    · split <;> simp

/-- An entry of lower stamp than every other one is the oldest. -/
theorem oldest_eq_some {l : List Entry} {e : Entry} (mem : e ∈ l) (least : ∀ x ∈ l, x ≠ e → e.stamp < x.stamp) : oldest l = some e := by
  induction l with
  | nil => simp at mem
  | cons y ys ih =>
    simp only [oldest]
    cases rest : oldest ys with
    | none =>
      have : ys = [] := oldest_eq_none_iff.mp rest
      simpa [this, eq_comm] using mem
    | some x =>
      have found : x ∈ ys := oldest_mem rest
      by_cases here : y = e
      · by_cases same : x = e
        · simp [here, same]
        · have : e.stamp < x.stamp := least x (List.mem_cons_of_mem _ found) same
          simp [here, Nat.not_lt.mpr this.le]
      · have inside : e ∈ ys := (List.mem_cons.mp mem).resolve_left (Ne.symm here)
        have : x = e := by
          have := ih inside fun z hz => least z (List.mem_cons_of_mem _ hz)
          rw [rest] at this
          exact Option.some.inj this
        have older : e.stamp < y.stamp := least y List.mem_cons_self here
        simp [this, older]

theorem Entry.isOpen_iff {e : Entry} : e.isOpen = true ↔ e.state = .registered ∨ e.state = .inLane := by
  simp [Entry.isOpen]

/-- Settles O23: the entries that qualify are filtered out, and the least stamp among them is unique. -/
theorem expectedVehicleIsTheOldestOpen : Obligations.ExpectedVehicleIsTheOldestOpen := by
  intro v role
  have qualifies {e : Entry} : (e.isOpen && decide (e.passed role < e.axleCount)) = true ↔
      (e.state = .registered ∨ e.state = .inLane) ∧ e.passed role < e.axleCount := by
    rw [Bool.and_eq_true, Entry.isOpen_iff, decide_eq_true_eq]
  refine ⟨fun none => ?_, fun e mem open' left least => ?_⟩
  · have empty : (v.entries.filter fun e => e.isOpen && decide (e.passed role < e.axleCount)) = [] :=
      List.filter_eq_nil_iff.mpr fun e mem h => none e mem (qualifies.mp h)
    simp [LaneView.expected, empty, oldest]
  · have first : oldest (v.entries.filter fun e => e.isOpen && decide (e.passed role < e.axleCount)) = some e := by
      refine oldest_eq_some (List.mem_filter.mpr ⟨mem, qualifies.mpr ⟨open', left⟩⟩) fun x hx apart => ?_
      obtain ⟨hx, h⟩ := List.mem_filter.mp hx
      obtain ⟨openX, leftX⟩ := qualifies.mp h
      exact least x hx openX leftX apart
    simp [LaneView.expected, first]

/-! ### The frame at the table -/

/-- A frame reaches the vehicle table with the table, and its law, as they were. -/
theorem passage_lane (f : WireFrame) (s : State) :
    (passage f s).lane = s.lane ∧ (passage f s).tableLaw = s.tableLaw := by
  have lane : (passage f s).lane = s.lane := passage_changes f s .lane (by simp)
  exact ⟨lane, by simp [State.tableLaw, lane]⟩

/-- A command that brings a frame of any length, to a listening station: the blocks get it where its length is allowed. -/
theorem heard_any {cls kind : Nat} {src : BitVec 4} {p : List Byte} {s : State} (listens : s.listens src = true)
    (deliver : State → State) :
    heard cls kind src p deliver s = .next (deliver (passage ⟨cls, kind, src.toNat, p⟩ s)) ∨
    heard cls kind src p deliver s = .next (passage ⟨cls, kind, src.toNat, p⟩ s) := by
  obtain ⟨quiet, listening, station⟩ := State.listens_iff.mp listens
  rw [heard, outside_quiet quiet, hearFrame_eq listening station]
  split
  · exact Or.inl rfl
  · exact Or.inr rfl

/-- The table, whatever the length, where the blocks would leave it. -/
theorem heard_lane {cls kind : Nat} {src : BitVec 4} {p : List Byte} {s : State} (listens : s.listens src = true)
    {deliver : State → State} (same : ∀ r : State, r.lane = s.lane → (deliver r).lane = s.lane) :
    ∃ t, heard cls kind src p deliver s = .next t ∧ t.lane = s.lane := by
  have lane := (passage_lane ⟨cls, kind, src.toNat, p⟩ s).1
  rcases heard_any (cls := cls) (kind := kind) (p := p) listens deliver with h | h
  · exact ⟨_, h, same _ lane⟩
  · exact ⟨_, h, lane⟩

/-! ### Closes (R18) -/

theorem update_map (v : LaneView) (n : Nat) (f : Entry → Entry) :
    (v.update n f).entries = v.entries.map fun e => if e.ticket = n then f e else e := rfl

/-- An update of a ticket acts on the entries that a test holds for, where it holds for every entry of that ticket. -/
theorem update_entries_of {v : LaneView} {n : Nat} {f : Entry → Entry} {P : Entry → Prop} [DecidablePred P]
    (h : ∀ e ∈ v.entries, e.ticket = n → P e) :
    (v.update n f).entries = v.entries.map fun e => if e.ticket = n ∧ P e then f e else e := by
  rw [update_map]
  refine List.map_congr_left fun e mem => ?_
  by_cases same : e.ticket = n
  · rw [if_pos same, if_pos ⟨same, h e mem same⟩]
  · rw [if_neg same, if_neg fun c => same c.1]

/-- Where the look-up finds no entry, there is none of that ticket. -/
theorem ticket_ne_of_find_none {s : State} (law : s.tableLaw = true) {n : Nat} (h : s.lane.find n = none) {e : Entry}
    (mem : e ∈ s.lane.entries) : e.ticket ≠ n := fun same => by
  rw [(find_eq_some_iff law).mpr ⟨mem, same⟩] at h
  cases h

theorem closeHeard_entries {s : State} (law : s.tableLaw = true) (n : Nat) (c : CertNo) (v : Verdict) :
    (s.lane.closeHeard n c v).stampCounter = s.lane.stampCounter ∧
    (s.lane.closeHeard n c v).entries = s.lane.entries.map (fun e =>
      if e.ticket = n ∧ e.state ≠ .closed ∧ e.state ≠ .abandoned then { e with state := .closed, certNo := some c, verdict := some v }
      else e) := by
  unfold LaneView.closeHeard
  split
  · rename_i x found
    have sole {e : Entry} (mem : e ∈ s.lane.entries) (same : e.ticket = n) : e = x := by
      have := (find_eq_some_iff law).mpr ⟨mem, same⟩
      rw [found] at this
      exact (Option.some.inj this).symm
    split
    · rename_i takes
      exact ⟨rfl, update_entries_of fun e mem same => by rw [sole mem same]; exact Entry.takesResults_iff.mp takes⟩
    · rename_i closed
      refine ⟨rfl, (map_ite_of_forall_not _ ?_).symm⟩
      rintro e mem ⟨same, live⟩
      rw [sole mem same] at live
      exact closed (Entry.takesResults_iff.mpr live)
  · rename_i none
    exact ⟨rfl, (map_ite_of_forall_not _ fun e mem c => ticket_ne_of_find_none law none mem c.1).symm⟩

theorem closeLocal_entries {s : State} (law : s.tableLaw = true) (n : Nat) (c : CertNo) (v : Verdict) :
    (s.lane.closeLocal n c v).stampCounter = s.lane.stampCounter ∧
    (s.lane.closeLocal n c v).entries = s.lane.entries.map (fun e =>
      if e.ticket = n ∧ e.state ≠ .abandoned then { e with state := .closed, certNo := some c, verdict := some v } else e) := by
  unfold LaneView.closeLocal
  split
  · rename_i x found
    have sole {e : Entry} (mem : e ∈ s.lane.entries) (same : e.ticket = n) : e = x := by
      have := (find_eq_some_iff law).mpr ⟨mem, same⟩
      rw [found] at this
      exact (Option.some.inj this).symm
    split
    · rename_i abandoned
      refine ⟨rfl, (map_ite_of_forall_not _ ?_).symm⟩
      rintro e mem ⟨same, live⟩
      rw [sole mem same] at live
      exact live abandoned
    · rename_i live
      exact ⟨rfl, update_entries_of fun e mem same => by rw [sole mem same]; exact live⟩
  · rename_i none
    exact ⟨rfl, (map_ite_of_forall_not _ fun e mem c => ticket_ne_of_find_none law none mem c.1).symm⟩

theorem readVerdict_code (v : Verdict) : readVerdict v.code = some v := by cases v <;> rfl

/-- Settles O21, by the two closes at the table. -/
theorem closesFollowTheirTables : Obligations.ClosesFollowTheirTables := by
  intro s law
  refine ⟨fun src p listens length => ?_, fun n c v => closeLocal_entries law n c v⟩
  let f : WireFrame := ⟨2, 10, src.toNat, p⟩
  obtain ⟨lane, sameLaw⟩ := passage_lane f s
  refine ⟨onCertDone p (passage f s), heard_passage (cls := 2) (kind := 10) listens (by simp [kindLength, length]) _, ?_, fun v code => ?_⟩
  · unfold onCertDone
    split
    · exact (closeHeard_entries (sameLaw.trans law) _ _ _).1.trans (by rw [lane])
    · rw [lane]
  · have closed := closeHeard_entries (sameLaw.trans law) (wordAt p 0) (certAt p 2) v
    have done : onCertDone p (passage f s) = (passage f s).setLane ((passage f s).lane.closeHeard (wordAt p 0) (certAt p 2) v) := by
      rw [onCertDone, code, readVerdict_code]
    rw [done]
    refine closed.2.trans ?_
    rw [lane]
    rfl

end Sys2Proof.Machine
end

section
/-! Results and rewrites at the vehicle table, and the completeness test (R6, R13 to R17, R19). -/

namespace Sys2Proof.Machine

/-! ### Look-up after an update -/

/-- An update of a ticket's entry is found under that ticket; the look-up of another is as before. -/
theorem find_update {v : LaneView} {n : Nat} {f : Entry → Entry} (keeps : ∀ e ∈ v.entries, e.ticket = n → (f e).ticket = n) (m : Nat) :
    (v.update n f).find m = if m = n then (v.find m).map f else v.find m := by
  have find : ∀ l : List Entry, (∀ e ∈ l, e.ticket = n → (f e).ticket = n) →
      (l.map fun e => if e.ticket = n then f e else e).find? (fun e => e.ticket == m) =
        if m = n then (l.find? fun e => e.ticket == m).map f else l.find? fun e => e.ticket == m := by
    intro l
    induction l with
    | nil => intro _; simp
    | cons x xs ih =>
      intro keeps
      have rest := ih fun e mem => keeps e (List.mem_cons_of_mem _ mem)
      rw [List.map_cons, List.find?_cons, List.find?_cons]
      by_cases here : x.ticket = n
      · have same := keeps x List.mem_cons_self here
        by_cases target : m = n
        · subst target
          rw [if_pos here, if_pos rfl]
          simp [same, here]
        · have apart : (n == m) = false := by simpa using Ne.symm target
          rw [if_pos here, if_neg target, same, here, apart, rest, if_neg target]
      · rw [if_neg here]
        by_cases found : x.ticket = m
        · have apart : m ≠ n := fun c => here (found.trans c)
          simp [found, apart]
        · have no : (x.ticket == m) = false := by simpa using found
          rw [no, rest]
  unfold LaneView.find
  by_cases zero : m = 0
  · simp [zero]
  · rw [if_neg zero, if_neg zero]
    exact find v.entries keeps

/-! ### The vehicle computation and the test of R16 leave the records -/

@[simp] theorem Entry.withVerdict_fields (e : Entry) (slip : Bool) :
    (e.withVerdict slip).ticket = e.ticket ∧ (e.withVerdict slip).stamp = e.stamp ∧ (e.withVerdict slip).state = e.state ∧
    (e.withVerdict slip).cls = e.cls ∧ (e.withVerdict slip).brake = e.brake ∧ (e.withVerdict slip).axleCount = e.axleCount ∧
    (e.withVerdict slip).parkingSet = e.parkingSet ∧ (e.withVerdict slip).steeredSet = e.steeredSet ∧
    (e.withVerdict slip).pref = e.pref ∧ (e.withVerdict slip).weight = e.weight ∧ (e.withVerdict slip).time = e.time ∧
    (e.withVerdict slip).plate = e.plate ∧ (e.withVerdict slip).platePassed = e.platePassed ∧
    (e.withVerdict slip).rollerPassed = e.rollerPassed ∧ (e.withVerdict slip).axles = e.axles ∧
    (e.withVerdict slip).certNo = e.certNo := by
  simp [Entry.withVerdict]

@[simp] theorem Entry.computed_fields (e : Entry) (slip : Bool) :
    (e.computed slip).ticket = e.ticket ∧ (e.computed slip).stamp = e.stamp ∧ (e.computed slip).state = e.state ∧
    (e.computed slip).cls = e.cls ∧ (e.computed slip).brake = e.brake ∧ (e.computed slip).axleCount = e.axleCount ∧
    (e.computed slip).parkingSet = e.parkingSet ∧ (e.computed slip).steeredSet = e.steeredSet ∧
    (e.computed slip).pref = e.pref ∧ (e.computed slip).weight = e.weight ∧ (e.computed slip).time = e.time ∧
    (e.computed slip).plate = e.plate ∧ (e.computed slip).platePassed = e.platePassed ∧
    (e.computed slip).rollerPassed = e.rollerPassed ∧ (e.computed slip).axles = e.axles ∧ (e.computed slip).certNo = e.certNo := by
  unfold Entry.computed
  dsimp only
  split <;> simp

@[simp] theorem Entry.recomputed_fields (e : Entry) (slip : Bool) (r : AxleResult) :
    (e.recomputed slip r).ticket = e.ticket ∧ (e.recomputed slip r).state = e.state ∧ (e.recomputed slip r).axles = e.axles ∧
    (e.recomputed slip r).parkingSet = e.parkingSet := by
  unfold Entry.recomputed
  split
  · split <;> simp
  · simp

@[simp] theorem Entry.tested_fields (e : Entry) (slip : Bool) :
    (e.tested slip).ticket = e.ticket ∧ (e.tested slip).stamp = e.stamp ∧ (e.tested slip).cls = e.cls ∧
    (e.tested slip).brake = e.brake ∧ (e.tested slip).axleCount = e.axleCount ∧ (e.tested slip).parkingSet = e.parkingSet ∧
    (e.tested slip).steeredSet = e.steeredSet ∧ (e.tested slip).pref = e.pref ∧ (e.tested slip).weight = e.weight ∧
    (e.tested slip).time = e.time ∧ (e.tested slip).plate = e.plate ∧ (e.tested slip).platePassed = e.platePassed ∧
    (e.tested slip).rollerPassed = e.rollerPassed ∧ (e.tested slip).axles = e.axles ∧ (e.tested slip).certNo = e.certNo := by
  unfold Entry.tested
  split <;> simp

theorem Entry.axle?_congr {e x : Entry} (h : x.axles = e.axles) (k : Nat) : x.axle? k = e.axle? k := by
  simp [Entry.axle?, h]

/-! ### A result at its entry (R13, R14) -/

theorem storeTested_lane (n : Nat) (e : Entry) (s : State) :
    (storeTested n e s).lane = s.lane.update n fun _ => e.tested s.slipRequired := by
  unfold storeTested
  dsimp only
  split <;> simp

/-- What an accepted result makes of its entry. -/
def Entry.afterResult (e : Entry) (axle : Nat) (r : AxleResult) (slip : Bool) : Entry := ((e.write axle r).recomputed slip r).tested slip

@[simp] theorem Entry.write_fields (e : Entry) (axle : Nat) (r : AxleResult) :
    (e.write axle r).ticket = e.ticket ∧ (e.write axle r).state = e.state ∧ (e.write axle r).parkingSet = e.parkingSet ∧
    (e.write axle r).verdict = e.verdict := by
  simp [Entry.write]

theorem Entry.afterResult_ticket (e : Entry) (axle : Nat) (r : AxleResult) (slip : Bool) : (e.afterResult axle r slip).ticket = e.ticket := by
  simp [Entry.afterResult]

/-- The written axle's record, and the others as they were (R14). -/
theorem Entry.afterResult_axle? {e : Entry} {axle : Nat} {a : AxleRecord} (found : e.axle? axle = some a) (r : AxleResult) (slip : Bool)
    (k : Nat) : (e.afterResult axle r slip).axle? k = if k = axle then some (a.write e.brake r) else e.axle? k := by
  have pos : axle ≠ 0 := fun zero => by simp [Entry.axle?, zero] at found
  have record : e.axles[axle - 1]? = some a := by simpa [Entry.axle?, pos] using found
  have same : (e.afterResult axle r slip).axles = (e.write axle r).axles := by simp [Entry.afterResult]
  rw [Entry.axle?_congr same]
  by_cases zero : k = 0
  · simp [Entry.axle?, zero, Ne.symm pos]
  · by_cases here : k = axle
    · simp [Entry.axle?, Entry.write, here, pos, record]
    · have apart : axle - 1 ≠ k - 1 := by omega
      simp [Entry.axle?, Entry.write, zero, here, apart]

/-- A result that its entry takes is found there, and leaves the other tickets. -/
theorem takeResult_find {s : State} (law : s.tableLaw = true) {n axle : Nat} {e : Entry} (live : s.lane.live n axle = some e)
    (r : AxleResult) (m : Nat) :
    (takeResult n axle r s).lane.find m = if m = n then some (e.afterResult axle r s.slipRequired) else s.lane.find m := by
  obtain ⟨⟨mem, ticket⟩, -⟩ := (live_eq_some_iff law).mp live
  have taken : (takeResult n axle r s).lane = s.lane.update n fun _ => e.afterResult axle r s.slipRequired := by
    simp only [takeResult, live]
    exact storeTested_lane _ _ s
  rw [taken, find_update fun x _ _ => by rw [Entry.afterResult_ticket, ticket]]
  by_cases here : m = n
  · simp [here, (find_eq_some_iff law).mpr ⟨mem, ticket⟩]
  · simp [here]

theorem takeResult_ignored {s : State} {n axle : Nat} (none : s.lane.live n axle = none) (r : AxleResult) : takeResult n axle r s = s := by
  simp [takeResult, none]

/-- What leaves a result ignored (R13). -/
theorem live_eq_none {s : State} {n axle : Nat}
    (h : n = 0 ∨ s.lane.find n = none ∨ axle = 0 ∨
      (s.lane.find n).any (fun e => e.state = .closed ∨ e.state = .abandoned ∨ e.axleCount < axle) = true) :
    s.lane.live n axle = none := by
  unfold LaneView.live
  cases found : s.lane.find n with
  | none => rfl
  | some e =>
    have checks : ¬(e.takesResults && decide (1 ≤ axle) && decide (axle ≤ e.axleCount)) = true := by
      simp only [Bool.and_eq_true, Entry.takesResults_iff, decide_eq_true_eq]
      rintro ⟨⟨⟨open', living⟩, pos⟩, inside⟩
      rcases h with rfl | h | h | h
      · simp [LaneView.find] at found
      · simp [h] at found
      · omega
      · simp only [found, Option.any_some, decide_eq_true_eq] at h
        rcases h with h | h | h
        · exact open' h
        · exact living h
        · omega
    simp only [checks]
    rfl

theorem readTestKind_eq_some_iff {n : Nat} {k : TestKind} : readTestKind n = some k ↔ n = k.code := by
  match n with
  | 0 | 1 | _ + 2 => cases k <;> simp [readTestKind, TestKind.code]

theorem readEndReason_eq_some_iff {n : Nat} {r : EndReason} : readEndReason n = some r ↔ n = r.code := by
  match n with
  | 0 | 1 | 2 | _ + 3 => cases r <;> simp [readEndReason, EndReason.code]

/-- A BRAKE_RESULT whose codes are read is a result of its kind and reason. -/
theorem onBrakeResult_read {p : List Byte} {k : TestKind} {r : EndReason} (kind : byteAt p 3 = k.code) (reason : byteAt p 4 = r.code)
    (s : State) : onBrakeResult p s = takeResult (wordAt p 0) (byteAt p 2)
      (.brake k ⟨(readBrakeResult p).figures, r⟩ (readBrakeResult p).load) s := by
  simp only [onBrakeResult, readBrakeResult, readTestKind_eq_some_iff.mpr kind, readEndReason_eq_some_iff.mpr reason]

theorem onBrakeResult_unread {p : List Byte} (h : (∀ k : TestKind, byteAt p 3 ≠ k.code) ∨ ∀ r : EndReason, byteAt p 4 ≠ r.code)
    (s : State) : onBrakeResult p s = s := by
  unfold onBrakeResult
  dsimp only
  split
  · rename_i k r kind reason
    rcases h with h | h
    · exact absurd (readTestKind_eq_some_iff.mp kind) (h k)
    · exact absurd (readEndReason_eq_some_iff.mp reason) (h r)
  · rfl

theorem bothPresent_eq (p : List Byte) (i j : Nat) :
    bothPresent (optWordAt p i) (optWordAt p j) =
      if wordAt p i ≠ 65535 ∧ wordAt p j ≠ 65535 then some ⟨wordAt p i, wordAt p j⟩ else none := by
  unfold optWordAt
  by_cases l : wordAt p i = 65535
  · simp [l, bothPresent]
  · by_cases r : wordAt p j = 65535
    · simp [l, r, bothPresent]
    · simp [l, r, bothPresent]

/-- The figures of a BRAKE_RESULT in their ranges (R13). -/
theorem brakeFigures_ranged (p : List Byte) (k : TestKind) (b : BrakeSystem) :
    (readBrakeResult p).figures.ranged k b =
      { fmax := ⟨min 6000 (wordAt p 9), min 6000 (wordAt p 11)⟩
        fref := if k = .service ∧ b = .air ∧ wordAt p 13 ≠ 65535 ∧ wordAt p 15 ≠ 65535
          then some ⟨min 9999 (wordAt p 13), min 9999 (wordAt p 15)⟩ else none
        imbalance := if byteAt p 17 = 255 then none else some (min 100 (byteAt p 17))
        ovalL := if byteAt p 18 = 255 then none else some (min 100 (byteAt p 18))
        ovalR := if byteAt p 19 = 255 then none else some (min 100 (byteAt p 19))
        rr := ⟨min 6000 (wordAt p 20), min 6000 (wordAt p 22)⟩ } := by
  have percent (i : Nat) : (optByteAt p i).map (min 100) = if byteAt p i = 255 then none else some (min 100 (byteAt p i)) := by
    unfold optByteAt
    split <;> simp
  simp only [Figures.ranged, BrakeFields.figures, readBrakeResult, Pair.upTo, percent, bothPresent_eq, Bool.and_eq_true,
    decide_eq_true_eq]
  congr 1
  split_ifs <;> simp_all

/-- Settles O19: an accepted result's parts are those of its axle's record, and what the checks refuse leaves the table. -/
theorem resultsWriteTheirParts : Obligations.ResultsWriteTheirParts := by
  intro s src p listens law
  refine ⟨fun refused => ⟨?_, ?_, ?_⟩, fun unread => ?_, fun e found open' living inside a axle => ?_⟩
  · have ignored (r : State) (lane : r.lane = s.lane) : r.lane.live (wordAt p 0) (byteAt p 2) = none := by
      rw [lane]; exact live_eq_none refused
    exact heard_lane (cls := 2) (kind := 5) listens fun r lane => by rw [onAxleLoad, takeResult_ignored (ignored r lane), lane]
  · have ignored (r : State) (lane : r.lane = s.lane) : r.lane.live (wordAt p 0) (byteAt p 2) = none := by
      rw [lane]; exact live_eq_none refused
    refine heard_lane (cls := 2) (kind := 6) listens fun r lane => ?_
    unfold onBrakeResult
    dsimp only
    split
    · exact (congrArg State.lane (takeResult_ignored (ignored r lane) _)).trans lane
    · exact lane
  · have ignored (r : State) (lane : r.lane = s.lane) : r.lane.live (wordAt p 0) (byteAt p 2) = none := by
      rw [lane]; exact live_eq_none refused
    exact heard_lane (cls := 2) (kind := 7) listens fun r lane => by rw [onSlipResult, takeResult_ignored (ignored r lane), lane]
  · exact heard_lane (cls := 2) (kind := 6) listens fun r lane => by rw [onBrakeResult_unread unread, lane]
  · have pos : 1 ≤ byteAt p 2 := by
      by_contra zero
      simp [Entry.axle?, show byteAt p 2 = 0 by omega] at axle
    obtain ⟨mem, ticket⟩ := (find_eq_some_iff law).mp found
    have live : s.lane.live (wordAt p 0) (byteAt p 2) = some e :=
      (live_eq_some_iff law).mpr ⟨⟨mem, ticket⟩, open', living, pos, inside⟩
    have written (f : WireFrame) (res : AxleResult) (m : Nat) :
        (takeResult (wordAt p 0) (byteAt p 2) res (passage f s)).lane.find m =
          if m = wordAt p 0 then some (e.afterResult (byteAt p 2) res (passage f s).slipRequired) else s.lane.find m := by
      obtain ⟨lane, sameLaw⟩ := passage_lane f s
      rw [takeResult_find (sameLaw.trans law) (by rw [lane]; exact live), lane]
    refine ⟨fun length => ?_, fun length => ?_, fun length kind reason hk hr => ?_⟩
    · refine ⟨_, heard_passage (cls := 2) (kind := 5) listens (by simp [kindLength, length]) _, _, (written _ _ _).trans (if_pos rfl),
        (Entry.afterResult_axle? axle _ _ _).trans (if_pos rfl), fun k other => (Entry.afterResult_axle? axle _ _ k).trans (if_neg other),
        fun n other => (written _ _ n).trans (if_neg other)⟩
    · refine ⟨_, heard_passage (cls := 2) (kind := 7) listens (by simp [kindLength, length]) _, _, (written _ _ _).trans (if_pos rfl),
        (Entry.afterResult_axle? axle _ _ _).trans (if_pos rfl), fun k other => (Entry.afterResult_axle? axle _ _ k).trans (if_neg other),
        fun n other => (written _ _ n).trans (if_neg other)⟩
    · refine ⟨_, (heard_passage (cls := 2) (kind := 6) listens (by simp [kindLength, length]) _).trans
        (congrArg _ (onBrakeResult_read hk hr _)), _, (written _ _ _).trans (if_pos rfl), _,
        (Entry.afterResult_axle? axle _ _ _).trans (if_pos rfl), ?_⟩
      have others (res : AxleResult) (slip : Bool) : ∀ k, k ≠ byteAt p 2 → (e.afterResult (byteAt p 2) res slip).axle? k = e.axle? k :=
        fun k other => (Entry.afterResult_axle? axle _ _ k).trans (if_neg other)
      cases kind with
      | service =>
        refine ⟨⟨(readBrakeResult p).figures.ranged .service e.brake, reason⟩, rfl, rfl, rfl, rfl, rfl, ?_⟩
        rw [brakeFigures_ranged]
        exact ⟨rfl, rfl, rfl, rfl, rfl, rfl, others _ _, fun n other => (written _ _ n).trans (if_neg other)⟩
      | parking =>
        refine ⟨⟨(readBrakeResult p).figures.ranged .parking e.brake, reason⟩, rfl, rfl, rfl, rfl, rfl, ?_⟩
        rw [brakeFigures_ranged]
        exact ⟨rfl, rfl, rfl, rfl, rfl, rfl, others _ _, fun n other => (written _ _ n).trans (if_neg other)⟩

end Sys2Proof.Machine
end

section
/-! The completeness test: results, rewrites and a lost peer bring an entry to COMPLETE and its ticket to the certificate unit (R6, R15 to
R17, R19, R149). -/

namespace Sys2Proof.Machine

/-! ### The condition of R16 -/

theorem Entry.hasParking_iff {e : Entry} {k : Nat} : e.hasParking k = true ↔ ((e.axle? k).bind (·.parking)).isSome = true := by
  unfold Entry.hasParking
  cases e.axle? k <;> simp

theorem Entry.isComplete_iff {e : Entry} {slip : Bool} : e.isComplete slip = true ↔ e.resultsAllIn (slip = true) := by
  simp only [Entry.isComplete, Entry.resultsAllIn, Bool.and_eq_true, Bool.or_eq_true, Bool.not_eq_true', List.all_eq_true,
    Entry.hasParking_iff, and_assoc]
  cases slip <;> simp

theorem State.slipRequired_iff {s : State} : s.slipRequired = true ↔ s.asksForSlip := by
  simp [State.slipRequired, State.asksForSlip]

theorem State.slipRequired_congr {s t : State} (startUp : t.startUp = s.startUp) (peers : t.bus.peers = s.bus.peers) :
    t.slipRequired = s.slipRequired := by
  simp [State.slipRequired, startUp, peers]

theorem State.printerActive_congr {s t : State} (power : t.power = s.power) (startUp : t.startUp = s.startUp) :
    t.printerActive = s.printerActive := by
  simp [State.printerActive, State.started, State.isRunning, power, startUp]

theorem Entry.resultsAllIn_congr {e x : Entry} (axles : x.axles = e.axles) (parking : x.parkingSet = e.parkingSet) (slip : Prop) :
    x.resultsAllIn slip ↔ e.resultsAllIn slip := by
  simp only [Entry.resultsAllIn, axles, parking, Entry.axle?_congr axles]

theorem Entry.becomesComplete_iff {e : Entry} {s : State} :
    e.becomesComplete s.slipRequired = true ↔ e.isOpen = true ∧ e.resultsAllIn s.asksForSlip := by
  rw [Entry.becomesComplete, Bool.and_eq_true, Entry.isComplete_iff]
  simp only [Entry.resultsAllIn, State.slipRequired_iff]

/-! ### The tested entry -/

theorem Entry.tested_complete {e : Entry} {slip : Bool} (h : e.becomesComplete slip = true) :
    (e.tested slip).state = .complete ∧ (e.tested slip).verdict.isSome = true ∧
    e.tested slip = { e with state := .complete, verdict := (e.tested slip).verdict } := by
  simp [Entry.tested, h, Entry.withVerdict]

theorem Entry.tested_incomplete {e : Entry} {slip : Bool} (h : ¬e.becomesComplete slip = true) : e.tested slip = e := by
  rw [Entry.tested, if_neg h]

theorem Entry.tested_closed {e : Entry} {slip : Bool} (h : e.isOpen = false) : e.tested slip = e :=
  Entry.tested_incomplete (by simp [Entry.becomesComplete, h])

/-- The test tests an entry once. -/
theorem Entry.tested_tested (e : Entry) (slip : Bool) : (e.tested slip).tested slip = e.tested slip := by
  by_cases h : e.becomesComplete slip = true
  · exact Entry.tested_closed (by simp [Entry.isOpen, (Entry.tested_complete h).1])
  · rw [Entry.tested_incomplete h, Entry.tested_incomplete h]

theorem ticket_of_find {v : LaneView} {n : Nat} {e : Entry} (h : v.find n = some e) : e.ticket = n := by
  unfold LaneView.find at h
  split at h
  · cases h
  · simpa using List.find?_some h

/-! ### The completed list (R149) -/

/-- The entry of a ticket is COMPLETE, and the certificate unit lists the ticket. -/
structure State.ListsComplete (s : State) (n : Nat) : Prop where
  listed : n ∈ s.cert.completed
  complete : ∃ e, s.lane.find n = some e ∧ e.state = .complete

theorem recheckTicket_lists {s : State} {n : Nat} (h : s.ListsComplete n) (m : Nat) : (recheckTicket m s).ListsComplete n := by
  obtain ⟨listed, e, found, complete⟩ := h
  unfold recheckTicket
  split
  · rename_i x foundM
    split
    · exact ⟨by split <;> exact listed, e, by split <;> exact found, complete⟩
    · rename_i other
      have apart : n ≠ m := fun same => by
        rw [← same, found] at foundM
        exact other (Option.some.inj foundM ▸ complete)
      exact ⟨by simp [listed, apart], e, found, complete⟩
  · rename_i none
    have apart : n ≠ m := fun same => by
      rw [← same, found] at none
      cases none
    exact ⟨by simp [listed, apart], e, found, complete⟩

theorem recheck_lists {s : State} {n : Nat} (h : s.ListsComplete n) : (recheck s).ListsComplete n := by
  have fold (l : List Nat) : ∀ {r : State}, r.ListsComplete n → (l.foldl (fun s t => recheckTicket t s) r).ListsComplete n := by
    induction l with
    | nil => exact id
    | cons m l ih => exact fun k => ih (recheckTicket_lists k m)
  unfold recheck
  split
  · exact fold _ h
  · exact h

theorem certTicketComplete_lists {s : State} {n m : Nat}
    (h : s.ListsComplete n ∨ (m = n ∧ s.printerActive = true ∧ ∃ e, s.lane.find n = some e ∧ e.state = .complete)) :
    (certTicketComplete m s).ListsComplete n := by
  unfold certTicketComplete
  split
  · refine recheck_lists ?_
    rcases h with ⟨listed, complete⟩ | ⟨rfl, -, complete⟩
    · exact ⟨by dsimp only; split <;> simp [listed], complete⟩
    · refine ⟨?_, complete⟩
      by_cases there : m ∈ s.cert.completed <;> simp [there]
  · rename_i inactive
    exact h.resolve_right fun c => inactive c.2.1

/-! ### An entry stored and tested (R15, R16) -/

theorem storeTested_find {s : State} {n : Nat} {y : Entry} (ticket : y.ticket = n) (m : Nat) :
    (storeTested n y s).lane.find m = if m = n then (s.lane.find n).map fun _ => y.tested s.slipRequired else s.lane.find m := by
  rw [storeTested_lane, find_update fun _ _ _ => by simp [ticket]]
  by_cases here : m = n <;> simp [here]

@[simp] theorem storeTested_frame (n : Nat) (y : Entry) (s : State) : LaneFrameOf s (storeTested n y s) :=
  (storeTested_within n y s).laneFrame

theorem storeTested_lists {s : State} {n : Nat} {y : Entry} (known : (s.lane.find n).isSome = true) (ticket : y.ticket = n)
    (active : s.printerActive = true) (complete : y.becomesComplete s.slipRequired = true) : (storeTested n y s).ListsComplete n := by
  obtain ⟨e, found⟩ := Option.isSome_iff_exists.mp known
  have stored : (s.setLane (s.lane.update n fun _ => y.tested s.slipRequired)).lane.find n = some (y.tested s.slipRequired) := by
    have := find_update (v := s.lane) (n := n) (f := fun _ => y.tested s.slipRequired) (fun _ _ _ => by simp [ticket]) n
    simpa [found] using this
  have tested := (Entry.tested_complete complete).1
  unfold storeTested
  rw [if_pos complete]
  exact certTicketComplete_lists (Or.inr ⟨rfl, active, _, stored, tested⟩)

/-- What R15, R16 and R19 leave of an open entry stored by its ticket. -/
theorem storeTested_outcome {s : State} {n : Nat} {y : Entry} (known : (s.lane.find n).isSome = true) (ticket : y.ticket = n)
    (open' : y.isOpen = true) :
    ∃ x, (storeTested n y s).lane.find n = some x ∧
      (x.resultsAllIn (storeTested n y s).asksForSlip →
        x.state = .complete ∧ x.verdict.isSome = true ∧ (s.printerActive = true → n ∈ (storeTested n y s).cert.completed)) ∧
      (¬x.resultsAllIn (storeTested n y s).asksForSlip → x.state = y.state ∧ x.verdict = y.verdict) := by
  obtain ⟨e, found⟩ := Option.isSome_iff_exists.mp known
  have slip : (storeTested n y s).asksForSlip ↔ s.asksForSlip := by simp [State.asksForSlip]
  have results : (y.tested s.slipRequired).resultsAllIn (storeTested n y s).asksForSlip ↔ y.resultsAllIn s.asksForSlip := by
    rw [Entry.resultsAllIn_congr (e := y) (by simp) (by simp)]
    simp only [Entry.resultsAllIn, slip]
  refine ⟨y.tested s.slipRequired, by rw [storeTested_find ticket, if_pos rfl, found]; rfl, fun all => ?_, fun some => ?_⟩
  · have complete := Entry.becomesComplete_iff.mpr ⟨open', results.mp all⟩
    obtain ⟨state, verdict, -⟩ := Entry.tested_complete complete
    exact ⟨state, verdict, fun active => (storeTested_lists known ticket active complete).listed⟩
  · rw [Entry.tested_incomplete fun complete => some (results.mpr (Entry.becomesComplete_iff.mp complete).2)]
    exact ⟨rfl, rfl⟩

/-- The vehicle computation of an open entry leaves its verdict. -/
theorem Entry.computed_verdict {e : Entry} (h : e.isOpen = true) (slip : Bool) : (e.computed slip).verdict = e.verdict := by
  have : e.state ≠ .complete := by rcases Entry.isOpen_iff.mp h with h | h <;> simp [h]
  simp [Entry.computed, this]

theorem Entry.recomputed_verdict {e : Entry} (h : e.isOpen = true) (slip : Bool) (r : AxleResult) :
    (e.recomputed slip r).verdict = e.verdict := by
  have : e.state ≠ .complete := by rcases Entry.isOpen_iff.mp h with h | h <;> simp [h]
  unfold Entry.recomputed
  split
  · simp [this]
  · exact Entry.computed_verdict h slip

theorem Entry.isOpen_congr {e x : Entry} (h : x.state = e.state) : x.isOpen = e.isOpen := by simp [Entry.isOpen, h]

/-! ### A result at an open entry (R13 to R16) -/

theorem takeResult_outcome {s : State} {n axle : Nat} {e : Entry} (live : s.lane.live n axle = some e) (found : s.lane.find n = some e)
    (open' : e.isOpen = true) (r : AxleResult) :
    ∃ x, (takeResult n axle r s).lane.find n = some x ∧
      (x.resultsAllIn (takeResult n axle r s).asksForSlip →
        x.state = .complete ∧ x.verdict.isSome = true ∧ (s.printerActive = true → n ∈ (takeResult n axle r s).cert.completed)) ∧
      (¬x.resultsAllIn (takeResult n axle r s).asksForSlip → x.state = e.state ∧ x.verdict = e.verdict) := by
  have written : (e.write axle r).isOpen = true := (Entry.isOpen_congr (by simp)).trans open'
  have stored := storeTested_outcome (s := s) (n := n) (y := (e.write axle r).recomputed s.slipRequired r) (by simp [found])
    (by simpa using ticket_of_find found) ((Entry.isOpen_congr (by simp)).trans open')
  simpa [takeResult, live, Entry.recomputed_verdict written] using stored

/-! ### Every open entry tested (R17) -/

theorem retestEntry_find (n : Nat) (s : State) (m : Nat) :
    (retestEntry n s).lane.find m = if m = n then (s.lane.find m).map (·.tested s.slipRequired) else s.lane.find m := by
  unfold retestEntry
  split
  · rename_i e found
    rw [storeTested_find (ticket_of_find found)]
    by_cases here : m = n
    · simp [here, found]
    · simp [here]
  · rename_i none
    by_cases here : m = n
    · simp [here, none]
    · simp [here]

@[simp] theorem retestEntry_frame (n : Nat) (s : State) : LaneFrameOf s (retestEntry n s) := by
  unfold retestEntry
  split
  · exact storeTested_frame _ _ s
  · simp [LaneFrameOf, SameOuter, SameBus]

theorem retestEntry_slip (n : Nat) (s : State) : (retestEntry n s).slipRequired = s.slipRequired :=
  State.slipRequired_congr (by simp) (by simp)

theorem retestEntry_active (n : Nat) (s : State) : (retestEntry n s).printerActive = s.printerActive :=
  State.printerActive_congr (by simp) (by simp)

theorem retestEntry_stampCounter (n : Nat) (s : State) : (retestEntry n s).lane.stampCounter = s.lane.stampCounter := by
  unfold retestEntry
  split
  · rw [storeTested_lane]; rfl
  · rfl

theorem retestEntry_keepsListed {s : State} {n : Nat} (h : s.ListsComplete n) (m : Nat) : (retestEntry m s).ListsComplete n := by
  obtain ⟨listed, e, found, complete⟩ := h
  have finished : e.tested s.slipRequired = e := Entry.tested_closed (by simp [Entry.isOpen, complete])
  unfold retestEntry
  split
  · rename_i x foundM
    have ticket := ticket_of_find foundM
    have stays : (s.setLane (s.lane.update m fun _ => x.tested s.slipRequired)).ListsComplete n := by
      refine ⟨listed, e, ?_, complete⟩
      have := find_update (v := s.lane) (n := m) (f := fun _ => x.tested s.slipRequired) (fun _ _ _ => by simp [ticket]) n
      refine this.trans ?_
      by_cases here : n = m
      · have same : x = e := by rw [← here, found] at foundM; exact (Option.some.inj foundM).symm
        simp [here, foundM, same, finished]
      · rw [if_neg here, found]
    unfold storeTested
    dsimp only
    split
    · exact certTicketComplete_lists (Or.inl stays)
    · exact stays
  · exact ⟨listed, e, found, complete⟩

theorem retestEntry_lists {s : State} {n : Nat} {e : Entry} (found : s.lane.find n = some e) (active : s.printerActive = true)
    (complete : e.becomesComplete s.slipRequired = true) : (retestEntry n s).ListsComplete n := by
  simp only [retestEntry, found]
  exact storeTested_lists (by simp [found]) (ticket_of_find found) active complete

/-- The test of a list of tickets. -/
theorem retest_fold (l : List Nat) (s : State) :
    (l.foldl (fun s t => retestEntry t s) s).lane.stampCounter = s.lane.stampCounter ∧
    (∀ m, (l.foldl (fun s t => retestEntry t s) s).lane.find m =
      if m ∈ l then (s.lane.find m).map (·.tested s.slipRequired) else s.lane.find m) ∧
    (∀ n, s.ListsComplete n → (l.foldl (fun s t => retestEntry t s) s).ListsComplete n) ∧
    ∀ n ∈ l, ∀ e, s.lane.find n = some e → s.printerActive = true → e.becomesComplete s.slipRequired = true →
      (l.foldl (fun s t => retestEntry t s) s).ListsComplete n := by
  induction l generalizing s with
  | nil => exact ⟨rfl, fun m => by simp, fun n => id, by simp⟩
  | cons a l ih =>
    obtain ⟨stamp, find, keeps, lists⟩ := ih (retestEntry a s)
    refine ⟨stamp.trans (retestEntry_stampCounter a s), fun m => (find m).trans ?_, fun n h => keeps n (retestEntry_keepsListed h a), ?_⟩
    · rw [retestEntry_find, retestEntry_slip]
      by_cases here : m = a
      · by_cases again : a ∈ l
        · simp [here, again, Function.comp_def, Entry.tested_tested]
        · simp [here, again]
      · simp [here]
    · intro n mem e found active complete
      by_cases here : n = a
      · subst here
        exact keeps n (retestEntry_lists found active complete)
      · refine lists n ((List.mem_cons.mp mem).resolve_left here) e ?_ ((retestEntry_active a s).trans active) ?_
        · rw [retestEntry_find, if_neg here, found]
        · rwa [retestEntry_slip]

theorem mem_openTickets {v : LaneView} {n : Nat} {e : Entry} (found : v.find n = some e) (open' : e.isOpen = true) :
    n ∈ (byStamp (v.entries.filter Entry.isOpen)).map (·.ticket) := by
  have mem : e ∈ v.entries := by
    unfold LaneView.find at found
    split at found
    · cases found
    · exact List.mem_of_find?_eq_some found
  exact List.mem_map.mpr ⟨e, (byStamp_perm _).mem_iff.mpr (List.mem_filter.mpr ⟨mem, open'⟩), ticket_of_find found⟩

/-- Every entry is tested: the open ones by R17, and the test leaves the others. -/
theorem retestAll_find (s : State) (m : Nat) : (retestAll s).lane.find m = (s.lane.find m).map (·.tested s.slipRequired) := by
  refine ((retest_fold _ s).2.1 m).trans ?_
  split
  · rfl
  · rename_i absent
    cases found : s.lane.find m with
    | none => rfl
    | some e =>
      have closed : e.isOpen = false := by
        by_contra open'
        exact absent (mem_openTickets found (by simpa using open'))
      simp [Entry.tested_closed closed]

theorem retestAll_lists {s : State} {n : Nat} {e : Entry} (found : s.lane.find n = some e) (active : s.printerActive = true)
    (complete : e.becomesComplete s.slipRequired = true) : (retestAll s).ListsComplete n :=
  (retest_fold _ s).2.2.2 n (mem_openTickets found (Bool.and_eq_true _ _ ▸ complete).1) e found active complete

end Sys2Proof.Machine
end

section
/-! The rewrite of a REGISTERED entry, and the statements on the completeness test (R6, R15 to R17, R19). -/

namespace Sys2Proof.Machine

/-! ### The rewrite (R6) -/

theorem AxleRecord.withoutFref_fields (a : AxleRecord) :
    a.withoutFref.load = a.load ∧ a.withoutFref.parking = a.parking ∧ a.withoutFref.slip = a.slip ∧
    a.withoutFref.service.map (·.figures.fref) = a.service.map fun _ => none := by
  cases h : a.service <;> simp [AxleRecord.withoutFref, h]

theorem rewriteAxles_length (r : Registration) (l : List AxleRecord) : (rewriteAxles r l).length = r.axleCount := by
  unfold rewriteAxles
  dsimp only
  split <;> simp

/-- A kept record of a rewrite: without its Fref pair for HYDRAULIC. -/
theorem rewriteAxles_kept {r : Registration} {l : List AxleRecord} {k : Nat} {a : AxleRecord} (inside : k < r.axleCount)
    (record : l[k]? = some a) : (rewriteAxles r l)[k]? = some (if r.brake = .hydraulic then a.withoutFref else a) := by
  have here : k < l.length := (List.getElem?_eq_some_iff.mp record).1
  unfold rewriteAxles
  dsimp only
  split
  · rw [List.getElem?_append_left (by simp; omega)]
    simp [inside, record]
  · rw [List.getElem?_append_left (by simp; omega)]
    simp [inside, record]

/-- An added record of a rewrite is empty. -/
theorem rewriteAxles_added {r : Registration} {l : List AxleRecord} {k : Nat} (inside : k < r.axleCount) (added : l.length ≤ k) :
    (rewriteAxles r l)[k]? = some AxleRecord.empty := by
  have past : min r.axleCount l.length ≤ k := (Nat.min_le_right _ _).trans added
  unfold rewriteAxles
  dsimp only
  split
  · rw [List.getElem?_append_right (by simpa using past), List.getElem?_replicate, if_pos (by simp; omega)]
  · rw [List.getElem?_append_right (by simpa using past), List.getElem?_replicate, if_pos (by simp; omega)]

@[simp] theorem Registration.rewrite_fields (r : Registration) (e : Entry) :
    (r.rewrite e).ticket = e.ticket ∧ (r.rewrite e).stamp = e.stamp ∧ (r.rewrite e).state = e.state ∧ (r.rewrite e).cls = r.cls ∧
    (r.rewrite e).brake = r.brake ∧ (r.rewrite e).axleCount = r.axleCount ∧ (r.rewrite e).parkingSet = r.parkingSet ∧
    (r.rewrite e).steeredSet = r.steeredSet ∧ (r.rewrite e).pref = r.pref ∧ (r.rewrite e).weight = r.weight ∧
    (r.rewrite e).time = r.time ∧ (r.rewrite e).plate = r.plate ∧ (r.rewrite e).platePassed = min e.platePassed r.axleCount ∧
    (r.rewrite e).rollerPassed = min e.rollerPassed r.axleCount ∧ (r.rewrite e).axles = rewriteAxles r e.axles ∧
    (r.rewrite e).certNo = e.certNo ∧ (r.rewrite e).verdict = e.verdict := by
  simp [Registration.rewrite]

/-- A VEHICLE_ENTRY for a REGISTERED entry stores the rewritten entry. -/
theorem registerVehicle_rewrites {f : EntryFields} {r : Registration} {e : Entry} {s : State} (checked : f.check = some r)
    (found : s.lane.find r.ticket = some e) (registered : e.state = .registered) :
    registerVehicle f s = storeTested r.ticket ((r.rewrite e).computed s.slipRequired) s := by
  simp [registerVehicle, checked, found, registered]

/-- Settles O16, by the stored entry's fields. -/
theorem registeredEntryIsRewritten : Obligations.RegisteredEntryIsRewritten := by
  intro s src p listens law low high r checked e found registered count
  let f : WireFrame := ⟨2, 3, src.toNat, p⟩
  obtain ⟨lane, -⟩ := passage_lane f s
  have foundP : (passage f s).lane.find r.ticket = some e := by rw [lane]; exact found
  have rewrites := registerVehicle_rewrites checked foundP registered
  have ticket : ((r.rewrite e).computed (passage f s).slipRequired).ticket = r.ticket := by simpa using ticket_of_find found
  refine ⟨_, heard_passage (cls := 2) (kind := 3) listens (by simp [kindLength, low, high]) _, ?_⟩
  change ∃ x, (registerVehicle (readEntry p) (passage f s)).lane.find r.ticket = some x ∧ _
  rw [rewrites]
  refine ⟨((r.rewrite e).computed (passage f s).slipRequired).tested (passage f s).slipRequired,
    by rw [storeTested_find ticket, if_pos rfl, foundP]; rfl, ?_⟩
  simp only [Entry.tested_fields, Entry.computed_fields, Registration.rewrite_fields, true_and]
  refine ⟨rewriteAxles_length r _, fun k added inside => rewriteAxles_added inside (count ▸ added), fun k inside a record => ?_, ?_,
    fun n other => ?_⟩
  · refine ⟨_, rewriteAxles_kept inside record, ?_⟩
    cases brake : r.brake with
    | air => simp
    | hydraulic => simpa using a.withoutFref_fields
  · rw [storeTested_lane, ← lane]; rfl
  · rw [storeTested_find ticket, if_neg other, lane]

/-! ### The completeness test (R16) -/

theorem passage_printerActive (f : WireFrame) (s : State) : (passage f s).printerActive = s.printerActive :=
  State.printerActive_congr (passage_changes f s .power (by simp)) (passage_changes f s .startUp (by simp))

/-- A frame that carries a result to an open entry. -/
theorem heard_result {cls kind : Nat} {src : BitVec 4} {p : List Byte} {s : State} {n axle : Nat} {e : Entry}
    (listens : s.listens src = true) (length : kindLength cls kind p.length = some true) {deliver : State → State} {r : AxleResult}
    (takes : ∀ u, deliver u = takeResult n axle r u) (live : s.lane.live n axle = some e) (found : s.lane.find n = some e)
    (open' : e.isOpen = true) :
    ∃ t, heard cls kind src p deliver s = .next t ∧ ∃ x, t.lane.find n = some x ∧
      (x.resultsAllIn t.asksForSlip →
        x.state = .complete ∧ x.verdict.isSome = true ∧ (s.printerActive = true → n ∈ t.cert.completed)) ∧
      (¬x.resultsAllIn t.asksForSlip → x.state = e.state ∧ x.verdict = e.verdict) := by
  obtain ⟨lane, -⟩ := passage_lane ⟨cls, kind, src.toNat, p⟩ s
  rw [← lane] at live found
  refine ⟨_, (heard_passage listens length deliver).trans (congrArg _ (takes _)), ?_⟩
  simpa only [passage_printerActive] using takeResult_outcome live found open' r

/-- The loss of a peer: the list without it, then the lane view and the certificate unit on an unchanged table. -/
theorem removePeer_tests (n : Nat) (s : State) :
    ∃ u : State, u.lane = s.lane ∧ u.printerActive = s.printerActive ∧ (u.asksForSlip ↔ (removePeer n s).asksForSlip) ∧
      (removePeer n s).lane = (retestAll u).lane ∧ ∀ m, (retestAll u).ListsComplete m → (removePeer n s).ListsComplete m := by
  let r := s.setBus { s.bus with peers := s.bus.peers.filter fun p => p.station ≠ n }
  have before (t : State) : Within passageBlocks t (judgeRoleClash (removeAwaited n t)) :=
    Within.after (judgeRoleClash_passage _) (removeAwaited_passage n t)
  have fixed : Within passageBlocks r (onRoller (fun t => judgeRoleClash (removeAwaited n t)) r) := by
    unfold onRoller
    split
    · exact before r
    · exact Within.refl _ r
  obtain ⟨-, -, -, peers, -⟩ := fixed.sameBus
  refine ⟨onRoller (fun t => judgeRoleClash (removeAwaited n t)) r, fixed.same .lane (by simp),
    State.printerActive_congr (fixed.same .power (by simp)) (fixed.same .startUp (by simp)), ?_, ?_, fun m h => recheck_lists ?_⟩
  · simp [removePeer, peerGone, State.asksForSlip, r]
  · simp [removePeer, peerGone, r]
  · obtain ⟨listed, complete⟩ := h
    exact ⟨by simpa [r] using listed, by simpa [r] using complete⟩

theorem removePeer_stampCounter (n : Nat) (s : State) : (removePeer n s).lane.stampCounter = s.lane.stampCounter := by
  obtain ⟨u, lane, -, -, after, -⟩ := removePeer_tests n s
  rw [after, retestAll, (retest_fold _ u).1, lane]

/-- Settles O20: results and rewrites by the entry stored and tested, a lost peer by the test of every entry. -/
theorem resultsCompleteTheEntry : Obligations.ResultsCompleteTheEntry := by
  refine ⟨fun s src p listens law e found state => ⟨fun i brings pos inside => ?_, fun low high registered r checked => ?_⟩,
    fun s law ready => ?_⟩
  · have open' : e.isOpen = true := Entry.isOpen_iff.mpr state
    have living : e.state ≠ .closed ∧ e.state ≠ .abandoned := by rcases state with h | h <;> simp [h]
    have live : s.lane.live (wordAt p 0) (byteAt p 2) = some e :=
      (live_eq_some_iff law).mpr ⟨(find_eq_some_iff law).mp found, living.1, living.2, pos, inside⟩
    rcases brings with ⟨rfl, length⟩ | ⟨rfl, length⟩ | ⟨rfl, length, ⟨k, kind⟩, c, reason⟩
    · exact heard_result (cls := 2) (kind := 5) listens (by simp [kindLength, length]) (fun _ => rfl) live found open'
    · exact heard_result (cls := 2) (kind := 7) listens (by simp [kindLength, length]) (fun _ => rfl) live found open'
    · exact heard_result (cls := 2) (kind := 6) listens (by simp [kindLength, length]) (onBrakeResult_read kind reason) live found open'
  · let f : WireFrame := ⟨2, 3, src.toNat, p⟩
    obtain ⟨lane, -⟩ := passage_lane f s
    have name : r.ticket = wordAt p 0 := by
      obtain ⟨cls, brake, -, -, -, rfl⟩ := EntryFields.check_eq_some_iff.mp checked
      rfl
    have foundP : (passage f s).lane.find r.ticket = some e := by rw [lane, name]; exact found
    have open' : (r.rewrite e).isOpen = true := (Entry.isOpen_congr (by simp)).trans (Entry.isOpen_iff.mpr state)
    have stored := storeTested_outcome (s := passage f s) (n := r.ticket) (y := (r.rewrite e).computed (passage f s).slipRequired)
      (by simp [foundP]) (by simpa using ticket_of_find foundP) ((Entry.isOpen_congr (by simp)).trans open')
    rw [← registerVehicle_rewrites checked foundP registered, name] at stored
    refine ⟨_, heard_passage (cls := 2) (kind := 3) listens (by simp [kindLength, low, high]) _, ?_⟩
    simpa only [passage_printerActive, Entry.computed_fields, Registration.rewrite_fields, Entry.computed_verdict open', registered]
      using stored
  · have due : s.isDue .peerAbsent = true := (Bool.and_eq_true _ _ ▸ ready).2
    obtain ⟨n, absent⟩ : ∃ n, s.bus.absent = some n := by
      simp only [State.isDue, Bool.and_eq_true] at due
      exact Option.isSome_iff_exists.mp due.1.1.2
    have run : exec .peerAbsent s = .next (removePeer n s) := by
      change Host.Outcome.next (named .peerAbsent s) = _
      rw [named_ready ready, takeDue, absent]
    obtain ⟨u, lane, active, slip, after, lists⟩ := removePeer_tests n s
    refine ⟨_, run, removePeer_stampCounter n s, fun m e found => ?_⟩
    rw [← lane] at found
    refine ⟨e.tested u.slipRequired, by rw [after, retestAll_find, found]; rfl, fun state all => ?_, fun rest => ?_⟩
    · have complete : e.becomesComplete u.slipRequired = true :=
        Entry.becomesComplete_iff.mpr ⟨Entry.isOpen_iff.mpr state, by simpa only [Entry.resultsAllIn, slip] using all⟩
      obtain ⟨-, verdict, fields⟩ := Entry.tested_complete complete
      exact ⟨fields, verdict, fun printer => (lists m (retestAll_lists found (active.trans printer) complete)).listed⟩
    · refine Entry.tested_incomplete fun complete => ?_
      obtain ⟨open', all⟩ := Entry.becomesComplete_iff.mp complete
      rcases rest with closed | missing
      · rcases Entry.isOpen_iff.mp open' with h | h
        · exact closed.1 h
        · exact closed.2 h
      · exact missing (by simpa only [Entry.resultsAllIn, ← slip] using all)

end Sys2Proof.Machine
end

section
/-! What a RAISED prompt shows, through the operations of the guidance unit (R130, R132, R133, R136, R146). -/

namespace Sys2Proof.Machine

/-- The set's entry of a prompt is RAISED with the fields given. -/
def Guidance.Shows (g : Guidance) (p : Prompt) (f : PromptFields) : Prop :=
  ∃ e, g.find p = some e ∧ e.lowering = false ∧ e.fields = f

theorem Guidance.Shows.find_fields {g : Guidance} {p : Prompt} {f : PromptFields} (h : g.Shows p f) : (g.find p).map (·.fields) = some f := by
  obtain ⟨e, found, -, rfl⟩ := h
  simp [found]

theorem Guidance.Shows.congr {g h : Guidance} {p : Prompt} {f : PromptFields} (shows : g.Shows p f) (same : h.prompts = g.prompts) :
    h.Shows p f := by
  obtain ⟨e, found, rest⟩ := shows
  exact ⟨e, by simpa only [Guidance.find, same] using found, rest⟩

/-! ### The look-up of a prompt through a change of the set -/

theorem find?_map_prompt {l : List PromptEntry} {F : PromptEntry → PromptEntry} (keeps : ∀ e, (F e).prompt = e.prompt) (p : Prompt) :
    (l.map F).find? (fun e => e.prompt == p) = (l.find? fun e => e.prompt == p).map F := by
  rw [List.find?_map]
  congr 2
  funext e
  simp [keeps]

theorem find?_without {l : List PromptEntry} {p q : Prompt} (apart : q ≠ p) :
    (l.filter fun e => e.prompt ≠ p).find? (fun e => e.prompt == q) = l.find? fun e => e.prompt == q := by
  rw [List.find?_filter]
  congr 1
  funext e
  by_cases h : e.prompt = q
  · simp [h, apart]
  · simp [h]

theorem find?_filter_of_kept {l : List PromptEntry} {P : PromptEntry → Bool} {p : Prompt} {e : PromptEntry}
    (found : l.find? (fun e => e.prompt == p) = some e) (kept : P e = true) : (l.filter P).find? (fun e => e.prompt == p) = some e := by
  induction l with
  | nil => simp at found
  | cons x xs ih =>
    rw [List.find?_cons] at found
    by_cases here : x.prompt = p
    · have same : x = e := by simpa [here] using found
      rw [List.filter_cons_of_pos (by rw [same]; exact kept)]
      simp [← same, here]
    · have no : (x.prompt == p) = false := by simpa using here
      have rest : xs.find? (fun e => e.prompt == p) = some e := by rwa [no] at found
      by_cases keep : P x = true
      · rw [List.filter_cons_of_pos keep, List.find?_cons, no]
        exact ih rest
      · rw [List.filter_cons_of_neg keep]
        exact ih rest

/-! ### The display (R132, R138, R141, R144) -/

theorem composePanel_shows {s : State} {p : Prompt} {f : PromptFields} (h : s.guidance.Shows p f) : (composePanel s).guidance.Shows p f :=
  h.congr (composePanel_prompts s)

theorem Guidance.confirmed_shows {g : Guidance} {p : Prompt} {f : PromptFields} (h : g.Shows p f) : g.confirmed.Shows p f := by
  obtain ⟨e, found, raised, fields⟩ := h
  have same : (g.confirmed).find p = (g.find p).map fun e => if e.prompt = .warningFromPeer then { e with confirm := false } else e :=
    find?_map_prompt (fun e => by split <;> rfl) p
  rw [found] at same
  refine ⟨_, same, ?_⟩
  dsimp only
  split <;> exact ⟨raised, fields⟩

theorem showDisplayed_shows {s : State} {p : Prompt} {f : PromptFields} (h : s.guidance.Shows p f) : (showDisplayed s).guidance.Shows p f := by
  have shown : ((composePanel s).guidance.requestHorn).Shows p f := (composePanel_shows h).congr (Guidance.prompts_requestHorn _)
  unfold showDisplayed confirmShown
  dsimp only
  split
  · exact Guidance.confirmed_shows shown
  · exact shown

theorem rechoose_shows {s : State} {p : Prompt} {f : PromptFields} (h : s.guidance.Shows p f) : (rechoose s).guidance.Shows p f := by
  unfold rechoose
  dsimp only
  split
  · exact h
  · split
    · exact h
    · obtain ⟨e, found, raised, fields⟩ := h
      exact showDisplayed_shows ⟨e, find?_filter_of_kept found (by simp [raised]), raised, fields⟩

/-! ### Raise, field update, lower (R130, R133) -/

theorem Guidance.raised_shows (g : Guidance) (p : Prompt) (f : PromptFields) (life : Nat) (confirm : Bool) :
    (g.raised p f life confirm).Shows p f := by
  refine ⟨⟨p, f, false, ((g.find p).map (·.showCount)).getD 0, life, confirm⟩, ?_, rfl, rfl⟩
  have none : (g.without p).find? (fun e => e.prompt == p) = none := by simp [Guidance.without]
  simp [Guidance.find, Guidance.raised, List.find?_append, none]

theorem Guidance.raised_shows_other {g : Guidance} {p q : Prompt} {k : PromptFields} (h : g.Shows q k) (apart : q ≠ p) (f : PromptFields)
    (life : Nat) (confirm : Bool) : (g.raised p f life confirm).Shows q k := by
  obtain ⟨e, found, rest⟩ := h
  refine ⟨e, ?_, rest⟩
  have stays : (g.without p).find? (fun e => e.prompt == q) = some e := (find?_without apart).trans found
  simp [Guidance.find, Guidance.raised, List.find?_append, stays]

theorem raiseWith_keeps {p q : Prompt} {f k : PromptFields} {life : Nat} {confirm : Bool} {s : State}
    (h : (s.guidance.raised p f life confirm).Shows q k) : (raiseWith p f life confirm s).guidance.Shows q k := by
  have chosen : (rechoose (s.setGuidance (s.guidance.raised p f life confirm))).guidance.Shows q k := rechoose_shows h
  unfold raiseWith
  dsimp only
  split
  · exact showDisplayed_shows chosen
  · exact chosen

/-- A raised prompt shows its fields (R130). -/
theorem raiseWith_shows (p : Prompt) (f : PromptFields) (life : Nat) (confirm : Bool) (s : State) :
    (raiseWith p f life confirm s).guidance.Shows p f := raiseWith_keeps (s.guidance.raised_shows p f life confirm)

theorem raise_shows (p : Prompt) (f : PromptFields) (s : State) : (raise p f s).guidance.Shows p f := raiseWith_shows p f 0 false s

theorem raise_shows_other {p q : Prompt} {k : PromptFields} {s : State} (h : s.guidance.Shows q k) (apart : q ≠ p) (f : PromptFields) :
    (raise p f s).guidance.Shows q k := raiseWith_keeps (Guidance.raised_shows_other h apart f 0 false)

theorem updateFields_find (p : Prompt) (f : PromptFields) (s : State) (q : Prompt) :
    (updateFields p f s).guidance.find q = (s.guidance.find q).map fun e => if e.prompt = p then { e with fields := f } else e := by
  have base : ({ s.guidance with
      prompts := s.guidance.prompts.map fun e => if e.prompt = p then { e with fields := f } else e } : Guidance).find q =
      (s.guidance.find q).map fun e => if e.prompt = p then { e with fields := f } else e :=
    find?_map_prompt (fun e => by split <;> rfl) q
  unfold updateFields
  dsimp only
  split
  · refine Eq.trans ?_ base
    simp [Guidance.find, composePanel_prompts]
  · exact base

theorem prompt_of_find {g : Guidance} {p : Prompt} {e : PromptEntry} (h : g.find p = some e) : e.prompt = p := by
  simpa using List.find?_some h

theorem updateFields_shows {p : Prompt} {k : PromptFields} {s : State} (h : s.guidance.Shows p k) (f : PromptFields) :
    (updateFields p f s).guidance.Shows p f := by
  obtain ⟨e, found, raised, -⟩ := h
  exact ⟨{ e with fields := f }, by rw [updateFields_find, found]; simp [prompt_of_find found], raised, rfl⟩

theorem updateFields_shows_other {p q : Prompt} {k : PromptFields} {s : State} (h : s.guidance.Shows q k) (apart : q ≠ p) (f : PromptFields) :
    (updateFields p f s).guidance.Shows q k := by
  obtain ⟨e, found, rest⟩ := h
  exact ⟨e, by rw [updateFields_find, found]; simp [prompt_of_find found, apart], rest⟩

/-- A lower leaves what another prompt shows (R133). -/
theorem lower_shows {p q : Prompt} {k : PromptFields} {s : State} (h : s.guidance.Shows q k) (apart : q ≠ p) :
    (lower p s).guidance.Shows q k := by
  obtain ⟨e, found, rest⟩ := h
  unfold lower
  split
  · exact ⟨e, found, rest⟩
  · split
    · exact ⟨e, found, rest⟩
    · split
      · refine ⟨e, ?_, rest⟩
        refine (find?_map_prompt (fun x => by split <;> rfl) q).trans ?_
        rw [show (s.guidance.prompts.find? fun e => e.prompt == q) = some e from found]
        simp [prompt_of_find found, apart]
      · exact rechoose_shows ⟨e, (find?_without apart).trans found, rest⟩

theorem lowerAll_shows {q : Prompt} {k : PromptFields} : ∀ {ps : List Prompt} {s : State}, s.guidance.Shows q k → q ∉ ps →
    (lowerAll ps s).guidance.Shows q k
  | [], _, h, _ => h
  | _ :: ps, _, h, apart =>
    lowerAll_shows (ps := ps) (lower_shows h fun same => apart (same ▸ List.mem_cons_self)) fun m => apart (List.mem_cons_of_mem _ m)

theorem lowerIfRaised_shows {p q : Prompt} {k : PromptFields} {s : State} (h : s.guidance.Shows q k) (apart : q ≠ p) :
    (lowerIfRaised p s).guidance.Shows q k := by
  unfold lowerIfRaised
  split
  · exact lower_shows h apart
  · exact h

/-! ### Which prompts stand RAISED -/

theorem lowerAll_isRaised (q : Prompt) : ∀ (ps : List Prompt) (s : State), Prompt.laneReady ∉ ps →
    (lowerAll ps s).guidance.isRaised q = (s.guidance.isRaised q && decide (q ∉ ps))
  | [], s, _ => by simp [lowerAll]
  | p :: ps, s, ready => by
    have notReady : p ≠ .laneReady := fun same => ready (same ▸ List.mem_cons_self)
    rw [lowerAll, lowerAll_isRaised q ps _ fun m => ready (List.mem_cons_of_mem _ m), lower_isRaised]
    by_cases here : q = p <;> simp [here, notReady]

theorem lowerIfRaised_isRaised (p : Prompt) (s : State) (q : Prompt) :
    (lowerIfRaised p s).guidance.isRaised q = (s.guidance.isRaised q && (decide (q ≠ p) || decide (p = .laneReady))) := by
  unfold lowerIfRaised
  split
  · exact lower_isRaised p s q
  · rename_i not
    by_cases here : q = p
    · simp [here, not]
    · simp [here]

theorem raiseOrUpdate_isRaised (p : Prompt) (f : PromptFields) (s : State) (q : Prompt) :
    (raiseOrUpdate p f s).guidance.isRaised q = (decide (q = p) || s.guidance.isRaised q) := by
  unfold raiseOrUpdate
  split
  · rename_i raised
    have : (decide (q = p) || s.guidance.isRaised q) = s.guidance.isRaised q := by
      by_cases here : q = p <;> simp [here, raised]
    rw [this]
    split
    · rfl
    · exact updateFields_isRaised p f s q
  · exact raise_isRaised p f s q

/-- The lane-entry judgement leaves every prompt but WAIT and DRIVE_ON as it is (R146). -/
theorem judgeEntry_isRaised {q : Prompt} (wait : q ≠ .wait) (driveOn : q ≠ .driveOn) (s : State) :
    (judgeEntry s).guidance.isRaised q = s.guidance.isRaised q := by
  unfold judgeEntry
  dsimp only
  split
  · rfl
  · split
    · simp [lowerIfRaised_isRaised, raiseOrUpdate_isRaised, wait, driveOn]
    · split <;> simp [lowerIfRaised_isRaised, raiseOrUpdate_isRaised, wait, driveOn]

end Sys2Proof.Machine
end

section
/-! A VEHICLE_ENTRY that makes an entry: the place it takes, the renumbering of the order stamps, and the reports (R1, R5 to R7). -/

namespace Sys2Proof.Machine

/-! ### Entries in order of stamp -/

theorem insertByStamp_sorted (e : Entry) {l : List Entry} (h : l.Pairwise fun a b => a.stamp ≤ b.stamp) :
    (insertByStamp e l).Pairwise fun a b => a.stamp ≤ b.stamp := by
  induction l with
  | nil => simp [insertByStamp]
  | cons x xs ih =>
    obtain ⟨first, rest⟩ := List.pairwise_cons.mp h
    unfold insertByStamp
    split
    · rename_i before
      refine List.pairwise_cons.mpr ⟨fun y mem => ?_, h⟩
      rcases List.mem_cons.mp mem with rfl | mem
      · omega
      · have := first y mem
        omega
    · rename_i after
      refine List.pairwise_cons.mpr ⟨fun y mem => ?_, ih rest⟩
      rcases List.mem_cons.mp ((insertByStamp_perm e xs).mem_iff.mp mem) with rfl | mem
      · omega
      · exact first y mem

theorem byStamp_sorted (l : List Entry) : (byStamp l).Pairwise fun a b => a.stamp ≤ b.stamp := by
  induction l with
  | nil => simp [byStamp]
  | cons e es ih => exact insertByStamp_sorted e ih

/-- In a list of rising stamps the place of an entry is the number of lower stamps. -/
theorem place_of_rising {l : List Entry} (rising : l.Pairwise fun a b => a.stamp < b.stamp) {i : Nat} {e : Entry} (here : l[i]? = some e) :
    (l.filter fun x => x.stamp < e.stamp).length = i := by
  induction l generalizing i with
  | nil => simp at here
  | cons x xs ih =>
    obtain ⟨first, rest⟩ := List.pairwise_cons.mp rising
    cases i with
    | zero =>
      have same : x = e := by simpa using here
      have none : xs.filter (fun y => y.stamp < e.stamp) = [] := by
        simp only [List.filter_eq_nil_iff, decide_eq_true_eq, not_lt]
        exact fun y mem => same ▸ (first y mem).le
      simp [same, none]
    | succ i =>
      have later : xs[i]? = some e := by simpa using here
      have lower : x.stamp < e.stamp := first e (List.mem_of_getElem? later)
      simp [lower, ih rest later]

/-- The renumbering gives each entry the number of lower stamps (R1). -/
theorem mem_renumbered {l : List Entry} (stamps : (l.map (·.stamp)).Nodup) {e : Entry} (mem : e ∈ l) :
    { e with stamp := (l.filter fun x => x.stamp < e.stamp).length } ∈ (byStamp l).mapIdx fun i x => { x with stamp := i } := by
  have perm := byStamp_perm l
  have distinct : (byStamp l).Pairwise fun a b => a.stamp ≠ b.stamp :=
    List.pairwise_map.mp ((perm.map _).nodup_iff.mpr stamps)
  have rising : (byStamp l).Pairwise fun a b => a.stamp < b.stamp :=
    ((byStamp_sorted l).and distinct).imp fun h => lt_of_le_of_ne h.1 h.2
  obtain ⟨i, here⟩ := List.getElem?_of_mem (perm.mem_iff.mpr mem)
  have place : (l.filter fun x => x.stamp < e.stamp).length = i :=
    ((perm.filter _).length_eq.symm).trans (place_of_rising rising here)
  refine List.mem_of_getElem? (i := i) ?_
  rw [List.getElem?_mapIdx, here, place]
  rfl

/-! ### The table with one entry more (R1, R7) -/

theorem LaneView.without_entries (v : LaneView) (n : Nat) :
    (v.without n).entries = v.entries.filter (fun e => e.ticket ≠ n) ∧ (v.without n).stampCounter = v.stampCounter := ⟨rfl, rfl⟩

theorem LaneView.add_getLast (v : LaneView) (r : Registration) :
    (v.add r).entries.getLast? = some (r.entry v.renumbered.stampCounter) ∧ (v.add r).stampCounter = v.renumbered.stampCounter + 1 := by
  simp [LaneView.add]

/-- What R1 says of the table with a new entry. -/
theorem LaneView.add_entries (v : LaneView) (r : Registration) (stamps : (v.entries.map (·.stamp)).Nodup) :
    (v.add r).entries.length = v.entries.length + 1 ∧
    (v.stampCounter < 65535 → (v.add r).entries.dropLast = v.entries ∧ (v.add r).stampCounter = v.stampCounter + 1) ∧
    (65535 ≤ v.stampCounter → (v.add r).stampCounter = v.entries.length + 1 ∧
      ∀ e ∈ v.entries, { e with stamp := (v.entries.filter fun x => x.stamp < e.stamp).length } ∈ (v.add r).entries.dropLast) := by
  by_cases low : v.stampCounter < 65535
  · have same : v.renumbered = v := if_pos low
    simp [LaneView.add, same, low, Nat.not_le.mpr low]
  · have numbered : v.renumbered = ⟨(byStamp v.entries).mapIdx fun i e => { e with stamp := i }, v.entries.length⟩ := if_neg low
    refine ⟨by simp [LaneView.add, numbered, (byStamp_perm v.entries).length_eq], fun c => absurd c low, fun _ => ?_⟩
    refine ⟨by simp [LaneView.add, numbered], fun e mem => ?_⟩
    have := mem_renumbered stamps mem
    simpa [LaneView.add, numbered] using this

/-! ### The place (R7) -/

theorem place_free {v : LaneView} (room : v.entries.length < 4) : v.place = .free := if_pos room

theorem oldestIn_none_iff {v : LaneView} {st : EntryState} : v.oldestIn st = none ↔ ∀ x ∈ v.entries, x.state ≠ st := by
  simp [LaneView.oldestIn, oldest_eq_none_iff, List.filter_eq_nil_iff]

/-- In a full table the oldest CLOSED entry goes, or with none the oldest ABANDONED one. -/
theorem place_discards {v : LaneView} (full : v.entries.length = 4) {e : Entry} (mem : e ∈ v.entries)
    (state : e.state = .closed ∨ (e.state = .abandoned ∧ ∀ x ∈ v.entries, x.state ≠ .closed))
    (least : ∀ x ∈ v.entries, x.state = e.state → x ≠ e → e.stamp < x.stamp) : v.place = .discard e.ticket := by
  have first : v.oldestIn e.state = some e := by
    refine oldest_eq_some (List.mem_filter.mpr ⟨mem, by simp⟩) fun x hx apart => ?_
    obtain ⟨hx, same⟩ := List.mem_filter.mp hx
    exact least x hx (by simpa using same) apart
  have crowded : ¬v.entries.length < Config.tableSize := by simp [full, Config.tableSize]
  unfold LaneView.place
  rw [if_neg crowded]
  rcases state with closed | ⟨abandoned, none⟩
  · rw [closed] at first
    simp [first]
  · rw [abandoned] at first
    simp [oldestIn_none_iff.mpr none, first]

theorem place_full {v : LaneView} (full : v.entries.length = 4)
    (none : ∀ x ∈ v.entries, x.state ≠ .closed ∧ x.state ≠ .abandoned) : v.place = .full := by
  simp [LaneView.place, full, Config.tableSize, oldestIn_none_iff.mpr fun x hx => (none x hx).1,
    oldestIn_none_iff.mpr fun x hx => (none x hx).2]

theorem place_ne_full {v : LaneView} (h : (∃ x ∈ v.entries, x.state = .closed ∨ x.state = .abandoned) ∨ v.entries.length < 4) :
    v.place ≠ .full := by
  intro full
  unfold LaneView.place at full
  split at full
  · cases full
  · rename_i crowded
    split at full
    · cases full
    · rename_i noClosed
      split at full
      · cases full
      · rename_i noAbandoned
        rcases h with ⟨x, mem, closed | abandoned⟩ | room
        · exact oldestIn_none_iff.mp noClosed x mem closed
        · exact oldestIn_none_iff.mp noAbandoned x mem abandoned
        · exact crowded room

/-! ### The new entry made (R7, R21) -/

theorem ticketDropped_lane (n : Nat) (s : State) : (ticketDropped n s).lane = s.lane := by simp [ticketDropped]

theorem makeEntry_free {s : State} (place : s.lane.place = .free) (r : Registration) :
    (makeEntry r s).lane = s.lane.add r ∧ (makeEntry r s).guidance.isRaised .laneFull = false := by
  simp [makeEntry, place, lowerIfRaised_isRaised]

theorem makeEntry_discard {s : State} {n : Nat} (place : s.lane.place = .discard n) (r : Registration) :
    (makeEntry r s).lane = (s.lane.without n).add r ∧ (makeEntry r s).guidance.isRaised .laneFull = false := by
  simp [makeEntry, place, lowerIfRaised_isRaised, ticketDropped_lane]

theorem makeEntry_full {s : State} (place : s.lane.place = .full) (r : Registration) :
    (makeEntry r s).lane = s.lane ∧
    ((makeEntry r s).guidance.find .laneFull).map (·.fields) = some { ticket := some r.ticket } := by
  rw [makeEntry, place]
  exact ⟨by simp, (raise_shows _ _ _).find_fields⟩

/-- The table that the new entry joins. -/
theorem makeEntry_joins {s : State} (r : Registration) (room : s.lane.place ≠ .full) :
    ∃ v : LaneView, (makeEntry r s).lane = v.add r := by
  cases place : s.lane.place with
  | free => exact ⟨_, (makeEntry_free place r).1⟩
  | discard n => exact ⟨_, (makeEntry_discard place r).1⟩
  | full => exact absurd place room

/-- The table without the entry whose place is taken, and the lane without its prompt LANE_FULL. -/
theorem makeEntry_kept {s : State} (law : s.tableLaw = true) (r : Registration) {n : Nat}
    (h : (s.lane.entries.length < 4 ∧ n = 0) ∨ (s.lane.entries.length = 4 ∧ ∃ v ∈ s.lane.entries, v.ticket = n ∧
      (v.state = .closed ∨ (v.state = .abandoned ∧ ∀ x ∈ s.lane.entries, x.state ≠ .closed)) ∧
      ∀ x ∈ s.lane.entries, x.state = v.state → x.ticket ≠ n → v.stamp < x.stamp)) :
    (makeEntry r s).guidance.isRaised .laneFull = false ∧ ∃ v : LaneView, (makeEntry r s).lane = v.add r ∧
      v.entries = s.lane.entries.filter (fun x => x.ticket ≠ n) ∧ v.stampCounter = s.lane.stampCounter := by
  rcases h with ⟨room, rfl⟩ | ⟨full, v, mem, rfl, state, least⟩
  · obtain ⟨lane, lowered⟩ := makeEntry_free (place_free room) r
    refine ⟨lowered, _, lane, (List.filter_eq_self.mpr fun e mem => ?_).symm, rfl⟩
    simp only [State.tableLaw, Bool.and_eq_true, List.all_eq_true] at law
    exact law.2 e mem
  · have sole (x : Entry) (hx : x ∈ s.lane.entries) (same : x.ticket = v.ticket) : x = v := by
      have found := (find_eq_some_iff law).mpr ⟨hx, same⟩
      rw [(find_eq_some_iff law).mpr ⟨mem, rfl⟩] at found
      exact (Option.some.inj found).symm
    obtain ⟨lane, lowered⟩ := makeEntry_discard
      (place_discards full mem state fun x hx same apart => least x hx same fun ticket => apart (sole x hx ticket)) r
    exact ⟨lowered, _, lane, rfl, rfl⟩

theorem registerVehicle_past {f : EntryFields} {r : Registration} {e : Entry} {s : State} (checked : f.check = some r)
    (found : s.lane.find r.ticket = some e) (past : e.state ≠ .registered) : registerVehicle f s = s := by
  simp [registerVehicle, checked, found, past]

theorem registerVehicle_new {f : EntryFields} {r : Registration} {s : State} (checked : f.check = some r)
    (new : s.lane.find r.ticket = none) : registerVehicle f s = makeEntry r s := by
  simp [registerVehicle, checked, new]

/-- Settles O15, by the place that R7 gives and the table that the new entry joins. -/
theorem vehicleEntryIsTakenIn : Obligations.VehicleEntryIsTakenIn := by
  intro s src p listens law low high stamps kept hkept
  let f : WireFrame := ⟨2, 3, src.toNat, p⟩
  obtain ⟨lane, sameLaw⟩ := passage_lane f s
  refine ⟨registerVehicle (readEntry p) (passage f s), heard_passage (cls := 2) (kind := 3) listens (by simp [kindLength, low, high]) _,
    fun refused => ?_, fun r checked => ⟨fun e found past => ?_, fun new => ?_⟩⟩
  · rw [registerVehicle, refused]
    exact ⟨by simp [lane], (raiseWith_shows _ _ _ _ _).find_fields⟩
  · rw [← lane] at found
    rw [registerVehicle_past checked found past, lane]
  · rw [← lane] at new
    rw [registerVehicle_new checked new]
    refine ⟨fun n place => ?_, fun full none => ?_, fun room e last => ?_⟩
    · rw [← lane] at place
      obtain ⟨lowered, v, joined, entries, counter⟩ := makeEntry_kept (sameLaw.trans law) r place
      rw [lane] at entries counter
      rw [← hkept] at entries
      have distinct : (v.entries.map (·.stamp)).Nodup := by
        rw [entries, hkept]
        exact stamps.sublist (List.filter_sublist.map _)
      obtain ⟨length, below, above⟩ := v.add_entries r distinct
      rw [entries] at length
      rw [entries, counter] at below above
      rw [joined]
      exact ⟨lowered, fun c => ⟨length, below c⟩, fun c => ⟨length, above c⟩⟩
    · rw [← lane] at full none
      obtain ⟨stays, shown⟩ := makeEntry_full (place_full full none) r
      exact ⟨stays.trans lane, shown⟩
    · rw [← lane] at room
      obtain ⟨v, joined⟩ := makeEntry_joins r (place_ne_full room)
      rw [joined] at last ⊢
      obtain ⟨newest, counter⟩ := v.add_getLast r
      rw [newest] at last
      obtain rfl := Option.some.inj last
      exact ⟨rfl, counter.symm, rfl, rfl, rfl, rfl, rfl, rfl, rfl, rfl, rfl, rfl, rfl, rfl, rfl, rfl, rfl, rfl, rfl⟩

end Sys2Proof.Machine
end

section
/-! What a stream write leaves of the capture block and the evaluation unit (R59, R60, R68, R69, R73). -/

namespace Sys2Proof.Machine

/-! ### A hand-over at the other streams and at the unit -/

/-- What a hand-over leaves of a stream. -/
structure SameRun (x y : Stream) : Prop where
  config : y.config = x.config
  running : y.running = x.running
  runNumber : y.runNumber = x.runNumber
  seqCounter : y.seqCounter = x.seqCounter
  requests : y.requests = x.requests
  rails : y.rails = x.rails
  latest : y.latest = x.latest

theorem SameRun.refl (x : Stream) : SameRun x x := ⟨rfl, rfl, rfl, rfl, rfl, rfl, rfl⟩

theorem SameRun.after {x y z : Stream} (k : SameRun y z) (h : SameRun x y) : SameRun x z :=
  ⟨k.config.trans h.config, k.running.trans h.running, k.runNumber.trans h.runNumber, k.seqCounter.trans h.seqCounter,
    k.requests.trans h.requests, k.rails.trans h.rails, k.latest.trans h.latest⟩

theorem Stream.setBuffer_same (x : Stream) (inB : Bool) (b : Buffer) : SameRun x (x.setBuffer inB b) := by
  cases inB <;> exact ⟨rfl, rfl, rfl, rfl, rfl, rfl, rfl⟩

theorem Stream.takeBuffer_same (x : Stream) (held : Bool) : SameRun x (x.takeBuffer held) := by
  unfold Stream.takeBuffer
  split
  · exact ⟨rfl, rfl, rfl, rfl, rfl, rfl, rfl⟩
  · split <;> exact ⟨rfl, rfl, rfl, rfl, rfl, rfl, rfl⟩

theorem Stream.release_same (x : Stream) (inB held : Bool) : SameRun x (x.release inB held) := by
  have cleared := x.setBuffer_same inB Buffer.clear
  unfold Stream.release
  dsimp only
  split
  · exact (Stream.takeBuffer_same _ held).after cleared
  · exact cleared

theorem Stream.handOver_same (x : Stream) (inB : Bool) : SameRun x (x.handOver inB) := by
  cases inB <;> exact ⟨rfl, rfl, rfl, rfl, rfl, rfl, rfl⟩

/-- What a hand-over leaves of the capture block. -/
structure SameCapture (c d : Capture) : Prop where
  streams : ∀ i, SameRun (c.stream i) (d.stream i)
  gateOpen : d.gateOpen = c.gateOpen
  faulted : d.faulted = c.faulted
  oneOffs : d.oneOffs = c.oneOffs
  faultDue : d.faultDue = c.faultDue
  converter : d.converter = c.converter

theorem SameCapture.refl (c : Capture) : SameCapture c c := ⟨fun _ => SameRun.refl _, rfl, rfl, rfl, rfl, rfl⟩

theorem SameCapture.after {c d e : Capture} (k : SameCapture d e) (h : SameCapture c d) : SameCapture c e :=
  ⟨fun i => (k.streams i).after (h.streams i), k.gateOpen.trans h.gateOpen, k.faulted.trans h.faulted, k.oneOffs.trans h.oneOffs,
    k.faultDue.trans h.faultDue, k.converter.trans h.converter⟩

theorem SameCapture.setStream {c : Capture} {i : StreamId} {x : Stream} (h : SameRun (c.stream i) x) : SameCapture c (c.setStream i x) := by
  obtain ⟨gate, faulted, oneOffs, due, converter⟩ := c.setStream_rest i x
  refine ⟨fun j => ?_, gate, faulted, oneOffs, due, converter⟩
  by_cases here : j = i
  · subst here
    simpa using h
  · rw [Capture.stream_setStream_other c here]
    exact SameRun.refl _

/-- The hand-over moves pages alone, and of the evaluation unit the slot alone (R69). -/
theorem handOverPages_same : ∀ (fuel : Nat) (c : Capture) (e : Eval),
    SameCapture c (handOverPages fuel (c, e)).1 ∧ (handOverPages fuel (c, e)).2 = { e with slot := (handOverPages fuel (c, e)).2.slot }
  | 0, c, e => ⟨SameCapture.refl c, rfl⟩
  | fuel + 1, c, e => by
    unfold handOverPages
    split
    · exact ⟨SameCapture.refl c, rfl⟩
    · split
      · exact ⟨SameCapture.refl c, rfl⟩
      · rename_i i inB next
        have handed : SameCapture c (c.setStream i ((c.stream i).handOver inB)) := .setStream (Stream.handOver_same _ _)
        dsimp only
        split
        · exact ⟨handed, rfl⟩
        · obtain ⟨same, slot⟩ := handOverPages_same fuel ((c.setStream i ((c.stream i).handOver inB)).release i inB) e
          exact ⟨same.after ((SameCapture.setStream (Stream.release_same _ _ _)).after handed), slot⟩

theorem handOver_same (c : Capture) (e : Eval) :
    SameCapture c (handOver (c, e)).1 ∧ (handOver (c, e)).2 = { e with slot := (handOver (c, e)).2.slot } := handOverPages_same 9 c e

/-! ### A stream written (R59) -/

/-- The configuration of a written stream, and whether it runs. -/
theorem Stream.configure_fields (x : Stream) (k : StreamConfig) (held : Bool) :
    (x.configure k held).config = k.stored ∧
    (x.configure k held).running = (if k.trigger = .off ∨ k.columns = [] then x.running else true) ∧
    (x.configure k held).runNumber = (if k.trigger = .off ∨ k.columns = [] then x.runNumber else (x.runNumber + 1) % 256) := by
  unfold Stream.configure
  by_cases off : k.trigger = .off ∨ k.columns = []
  · have : (decide (k.trigger = .off) || k.columns.isEmpty) = true := by simpa using off
    simp [off, this]
  · have : (decide (k.trigger = .off) || k.columns.isEmpty) = false := by simpa using off
    dsimp only
    rw [if_neg (by simp [this]), if_neg off, if_neg off]
    split
    · obtain ⟨config, running, runNumber, -⟩ := Stream.takeBuffer_same
        ({ x with config := k.stored, running := true, runNumber := (x.runNumber + 1) % 256, rails := List.replicate k.columns.length 0 } : Stream) held
      exact ⟨config, running, runNumber⟩
    · exact ⟨rfl, rfl, rfl⟩

theorem stopStream_same (i : StreamId) (c : Capture) (e : Eval) :
    (∀ j, j ≠ i → SameRun (c.stream j) ((stopStream i (c, e)).1.stream j)) ∧ ((stopStream i (c, e)).1.stream i).running = false ∧
    ((stopStream i (c, e)).1.stream i).runNumber = (c.stream i).runNumber ∧ (stopStream i (c, e)).1.gateOpen = c.gateOpen ∧
    (stopStream i (c, e)).2 = { e with slot := (stopStream i (c, e)).2.slot } := by
  unfold stopStream
  dsimp only
  split
  · obtain ⟨same, slot⟩ := handOver_same { c.setStream i (c.stream i).stop with converter := c.converter.discardOf i } e
    have stopped := same.streams i
    rw [Capture.stream_withConverter, Capture.stream_setStream_same] at stopped
    refine ⟨fun j other => ?_, stopped.running, stopped.runNumber, ?_, slot⟩
    · have kept := same.streams j
      rwa [Capture.stream_withConverter, Capture.stream_setStream_other c other] at kept
    · exact same.gateOpen.trans (c.setStream_rest i _).1
  · rename_i off
    exact ⟨fun j _ => SameRun.refl _, by simpa using off, rfl, rfl, rfl⟩

/-- A written stream has its configuration, and runs under a new run number unless it is OFF or has no columns (R59). -/
theorem writeStream_written (i : StreamId) (k : StreamConfig) (s : State) :
    ((writeStream i k s).capture.stream i).config = k.stored ∧
    ((writeStream i k s).capture.stream i).running = !(decide (k.trigger = .off ∨ k.columns = [])) ∧
    ((writeStream i k s).capture.stream i).runNumber =
      if k.trigger = .off ∨ k.columns = [] then (s.capture.stream i).runNumber else ((s.capture.stream i).runNumber + 1) % 256 := by
  obtain ⟨-, off, run, -⟩ := stopStream_same i s.capture s.eval
  have configured := ((stopStream i (s.capture, s.eval)).1.stream i).configure_fields k ((stopStream i (s.capture, s.eval)).1.heldByOther i)
  rw [off, run] at configured
  have written : (writeStream i k s).capture.stream i = ((stopStream i (s.capture, s.eval)).1.stream i).configure k
      ((stopStream i (s.capture, s.eval)).1.heldByOther i) := by simp [writeStream, writeStreamOn]
  rw [written]
  refine ⟨configured.1, configured.2.1.trans ?_, configured.2.2⟩
  split <;> simp_all

/-- A write leaves the other streams' runs, the gate, and the evaluation unit but for its slot (R59, R69). -/
theorem writeStream_leaves (i : StreamId) (k : StreamConfig) (s : State) :
    (∀ j, j ≠ i → SameRun (s.capture.stream j) ((writeStream i k s).capture.stream j)) ∧
    (writeStream i k s).capture.gateOpen = s.capture.gateOpen ∧
    (writeStream i k s).eval = { s.eval with slot := (writeStream i k s).eval.slot } := by
  obtain ⟨others, -, -, gate, slot⟩ := stopStream_same i s.capture s.eval
  refine ⟨fun j other => ?_, ?_, ?_⟩
  · have kept : (writeStream i k s).capture.stream j = (stopStream i (s.capture, s.eval)).1.stream j := by
      simp [writeStream, writeStreamOn, Capture.stream_setStream_other _ other]
    rw [kept]
    exact others j other
  · simpa [writeStream, writeStreamOn] using gate
  · simpa [writeStream, writeStreamOn] using slot

/-- The context of the evaluation unit, with all it holds but the page in its slot. -/
structure SameContext (e f : Eval) : Prop where
  context : f.context = e.context
  loads : f.loads = e.loads
  zt : f.zt = e.zt
  rr : f.rr = e.rr
  wantS0 : f.wantS0 = e.wantS0
  wantS1 : f.wantS1 = e.wantS1
  test : f.test = e.test
  acc : f.acc = e.acc
  requested : f.requested = e.requested
  peak : f.peak = e.peak
  calib : f.calib = e.calib

theorem SameContext.of_slot {e f : Eval} (h : f = { e with slot := f.slot }) : SameContext e f := by
  rw [h]
  exact ⟨rfl, rfl, rfl, rfl, rfl, rfl, rfl, rfl, rfl, rfl, rfl⟩

theorem SameContext.refl (e : Eval) : SameContext e e := .of_slot rfl

theorem SameContext.after {e f g : Eval} (k : SameContext f g) (h : SameContext e f) : SameContext e g :=
  ⟨k.context.trans h.context, k.loads.trans h.loads, k.zt.trans h.zt, k.rr.trans h.rr, k.wantS0.trans h.wantS0, k.wantS1.trans h.wantS1,
    k.test.trans h.test, k.acc.trans h.acc, k.requested.trans h.requested, k.peak.trans h.peak, k.calib.trans h.calib⟩

theorem SameContext.eq_of_slot {e f : Eval} (h : SameContext e f) : f = { e with slot := f.slot } := by
  obtain ⟨h1, h2, h3, h4, h5, h6, h7, h8, h9, h10, h11⟩ := h
  cases e
  cases f
  simp_all

theorem writeStream_context (i : StreamId) (k : StreamConfig) (s : State) : SameContext s.eval (writeStream i k s).eval :=
  .of_slot (writeStream_leaves i k s).2.2

theorem pacePhase_chain (p : Phase) (s : State) : (pacePhase p s).capture = s.capture ∧ (pacePhase p s).eval = s.eval := by
  unfold pacePhase
  split <;> exact ⟨rfl, rfl⟩

/-- The streams of a phase leave the evaluation unit's context (R73). -/
theorem writePhaseStreams_context (p : Phase) (pressure : Bool) (s : State) : SameContext s.eval (writePhaseStreams p pressure s).eval := by
  unfold writePhaseStreams
  dsimp only
  split
  · rw [(pacePhase_chain p _).2]
    exact (writeStream_context _ _ _).after (writeStream_context _ _ _)
  · exact SameContext.refl _

end Sys2Proof.Machine
end

section
/-! Which frames an operation may put into the transmit queue: none but the routine ones, for most (R30 to R33, R144). -/

namespace Sys2Proof.Machine

/-- Neither an axle report nor a CERT_DONE. -/
def LaneFrame.routine : LaneFrame → Bool
  | .axleEvent _ _ _ _ | .slipResult _ _ _ | .certDone _ _ _ => false
  | _ => true

/-- From `s` to `t` no frame enters the transmit queue but such as `P` holds for. -/
def State.Adds (P : LaneFrame → Bool) (s t : State) : Prop := ∀ q ∈ t.bus.queue, q ∈ s.bus.queue ∨ P q.frame = true

/-- No frame enters the transmit queue but a routine one. -/
abbrev State.AddsRoutine (s t : State) : Prop := s.Adds LaneFrame.routine t

section
variable {P : LaneFrame → Bool} {s t u : State}

theorem State.Adds.of_eq (h : t.bus.queue = s.bus.queue) : s.Adds P t := fun _ m => Or.inl (h ▸ m)

theorem State.Adds.refl (s : State) : s.Adds P s := .of_eq rfl

theorem State.Adds.after (k : t.Adds P u) (h : s.Adds P t) : s.Adds P u := fun q m => (k q m).elim (h q) Or.inr

theorem State.Adds.mono {Q : LaneFrame → Bool} (h : s.Adds P t) (weaker : ∀ f, P f = true → Q f = true) : s.Adds Q t :=
  fun q m => (h q m).imp_right (weaker _)

theorem State.Adds.ite {c : Prop} [Decidable c] (h : s.Adds P t) (k : s.Adds P u) : s.Adds P (if c then t else u) := by
  split
  · exact h
  · exact k

/-- What is not routine was in the queue before. -/
theorem State.Adds.reportsNoAxle (h : s.AddsRoutine t) : s.reportsNoAxle t := fun q mem report => (h q mem).resolve_right fun c => by
  cases frame : q.frame <;> simp_all [LaneFrame.reportsAxle, LaneFrame.routine]

theorem State.Adds.noCertDone (h : s.AddsRoutine t) : ∀ q ∈ t.bus.queue, (q.frame.cls, q.frame.kind) = (2, 10) → q ∈ s.bus.queue :=
  fun q mem done => (h q mem).resolve_right fun c => by
    cases frame : q.frame <;> simp_all [LaneFrame.routine, LaneFrame.cls, LaneFrame.kind]

end

/-! ### Requests to queue -/

theorem queueFrame_adds {P : LaneFrame → Bool} {f : LaneFrame} (h : P f = true) (s : State) : s.Adds P (queueFrame f s) := by
  have placed (l : List QueuedFrame) (sub : ∀ x ∈ l, x ∈ s.bus.queue) : ∀ q ∈ s.bus.placed ⟨f, s.bus.nextStamp⟩ l,
      q ∈ s.bus.queue ∨ P q.frame = true := by
    intro q mem
    rcases List.mem_cons.mp ((s.bus.placed_perm _ l).mem_iff.mp mem) with rfl | old
    · exact Or.inr h
    · exact Or.inl (sub q old)
  unfold queueFrame Bus.enqueue
  split
  · exact .refl s
  · split
    · exact placed _ fun _ => id
    · split
      · exact placed _ fun _ => List.mem_of_mem_erase
      · exact .refl s

theorem requestPresence_adds (s : State) : s.AddsRoutine (requestPresence s) := by
  unfold requestPresence Bus.enqueuePresence
  split
  · exact .refl s
  · split
    · intro q mem
      obtain ⟨x, old, rfl⟩ := List.mem_map.mp mem
      split
      · exact Or.inr rfl
      · exact Or.inl old
    · exact queueFrame_adds rfl s

theorem presenceIfChanged_adds {s t : State} (h : s.AddsRoutine t) (u : State) : s.AddsRoutine (presenceIfChanged u t) :=
  .ite h ((requestPresence_adds t).after h)

theorem answer_adds (r : Nat) (sub : Subject) (o : AnswerOutcome) (s : State) : s.AddsRoutine (answer r sub o s) :=
  .ite (.refl s) (queueFrame_adds rfl s)

/-! ### Prompts -/

theorem composePanel_adds (s : State) : s.AddsRoutine (composePanel s) := by
  unfold composePanel
  split
  · exact .ite (.refl s) (.of_eq rfl)
  · exact .refl s

theorem refreshPanel_adds (s : State) : s.AddsRoutine (refreshPanel s) := by
  unfold refreshPanel
  split
  · exact .of_eq rfl
  · exact .refl s

theorem confirmShown_adds (s : State) : s.AddsRoutine (confirmShown s) := by
  unfold confirmShown
  split
  · rename_i f shown
    have routine : f.routine = true := by
      unfold Guidance.confirmation at shown
      split at shown
      · split at shown
        · split at shown
          · cases shown; rfl
          · cases shown
        · cases shown
      · cases shown
    exact queueFrame_adds routine s
  · exact .refl s

theorem showDisplayed_adds (s : State) : s.AddsRoutine (showDisplayed s) :=
  (confirmShown_adds _).after ((State.Adds.of_eq rfl).after (composePanel_adds s))

theorem rechoose_adds (s : State) : s.AddsRoutine (rechoose s) :=
  .ite (.refl s) (.ite (.refl s) ((showDisplayed_adds _).after (.of_eq rfl)))

theorem raiseWith_adds (p : Prompt) (f : PromptFields) (life : Nat) (confirm : Bool) (s : State) :
    s.AddsRoutine (raiseWith p f life confirm s) := by
  have chosen : s.AddsRoutine (rechoose (s.setGuidance (s.guidance.raised p f life confirm))) := (rechoose_adds _).after (.of_eq rfl)
  exact .ite ((showDisplayed_adds _).after chosen) chosen

theorem raise_adds (p : Prompt) (f : PromptFields) (s : State) : s.AddsRoutine (raise p f s) := raiseWith_adds p f 0 false s

theorem updateFields_adds (p : Prompt) (f : PromptFields) (s : State) : s.AddsRoutine (updateFields p f s) :=
  .ite ((composePanel_adds _).after (.of_eq rfl)) (.of_eq rfl)

theorem lower_adds (p : Prompt) (s : State) : s.AddsRoutine (lower p s) := by
  unfold lower
  split
  · exact .refl s
  · split
    · exact .refl s
    · exact .ite (.of_eq rfl) ((rechoose_adds _).after (.of_eq rfl))

theorem lowerAll_adds : ∀ (ps : List Prompt) (s : State), s.AddsRoutine (lowerAll ps s)
  | [], s => .refl s
  | p :: ps, s => (lowerAll_adds ps _).after (lower_adds p s)

theorem raiseOrUpdate_adds (p : Prompt) (f : PromptFields) (s : State) : s.AddsRoutine (raiseOrUpdate p f s) :=
  .ite (.ite (.refl s) (updateFields_adds p f s)) (raise_adds p f s)

theorem lowerIfRaised_adds (p : Prompt) (s : State) : s.AddsRoutine (lowerIfRaised p s) := .ite (lower_adds p s) (.refl s)

theorem judgeEntry_adds (s : State) : s.AddsRoutine (judgeEntry s) := by
  unfold judgeEntry
  dsimp only
  split
  · exact .refl s
  · split
    · exact (lowerIfRaised_adds _ _).after (raiseOrUpdate_adds _ _ s)
    · exact .ite ((lowerIfRaised_adds _ _).after (lowerIfRaised_adds _ s)) ((raiseOrUpdate_adds _ _ _).after (lowerIfRaised_adds _ s))

theorem lowerForTicket_adds (n : Nat) (p : Prompt) (s : State) : s.AddsRoutine (lowerForTicket n p s) := by
  unfold lowerForTicket
  split
  · exact .ite (lower_adds p s) (.refl s)
  · exact .refl s

theorem guidanceTicketGone_adds (n : Nat) (s : State) : s.AddsRoutine (guidanceTicketGone n s) :=
  (judgeEntry_adds _).after ((lowerForTicket_adds n _ _).after ((lowerForTicket_adds n _ _).after (lowerForTicket_adds n _ s)))

theorem guidanceLaneClear_adds (s : State) : s.AddsRoutine (guidanceLaneClear s) := (judgeEntry_adds _).after (lowerAll_adds _ s)

/-! ### The certificate unit's bookkeeping -/

theorem recheckTicket_queue (n : Nat) (s : State) : (recheckTicket n s).bus.queue = s.bus.queue := by
  unfold recheckTicket
  split
  · split
    · split <;> rfl
    · rfl
  · rfl

theorem recheck_queue (s : State) : (recheck s).bus.queue = s.bus.queue := by
  have fold (l : List Nat) : ∀ r : State, (l.foldl (fun s t => recheckTicket t s) r).bus.queue = r.bus.queue := by
    induction l with
    | nil => exact fun _ => rfl
    | cons n l ih => exact fun r => (ih _).trans (recheckTicket_queue n r)
  unfold recheck
  split
  · exact fold _ s
  · rfl

theorem recheck_adds (s : State) : s.AddsRoutine (recheck s) := .of_eq (recheck_queue s)

theorem certChange_adds {f : State → State} {s : State} (h : s.AddsRoutine (f s)) : s.AddsRoutine (certChange f s) :=
  .ite h ((recheck_adds _).after ((requestPresence_adds _).after h))

theorem dropHead_adds (s : State) : s.AddsRoutine (dropHead s) := (recheck_adds _).after (certChange_adds (.of_eq rfl))

theorem removeQueued_adds (p : Job → Bool) (s : State) : s.AddsRoutine (removeQueued p s) := by
  have fold (l : List Job) : ∀ r : State, r.AddsRoutine (l.foldl (fun s j => answer j.requester j.subject .refusedUnknown s) r) := by
    induction l with
    | nil => exact fun r => .refl r
    | cons j l ih => exact fun r => (ih _).after (answer_adds _ _ _ r)
  exact (fold _ _).after (.of_eq rfl)

theorem certTicketGone_adds (n : Nat) (s : State) : s.AddsRoutine (certTicketGone n s) :=
  .ite ((State.Adds.of_eq rfl).after (removeQueued_adds _ s)) (.refl s)

theorem certLaneClear_adds (s : State) : s.AddsRoutine (certLaneClear s) :=
  .ite ((State.Adds.of_eq rfl).after (removeQueued_adds _ s)) (.refl s)

theorem certTicketComplete_adds (n : Nat) (s : State) : s.AddsRoutine (certTicketComplete n s) :=
  .ite ((recheck_adds _).after (.of_eq rfl)) (.refl s)

theorem ticketDropped_adds (n : Nat) (s : State) : s.AddsRoutine (ticketDropped n s) :=
  (guidanceTicketGone_adds n _).after (certTicketGone_adds n s)

theorem storeTested_adds (n : Nat) (e : Entry) (s : State) : s.AddsRoutine (storeTested n e s) :=
  .ite ((certTicketComplete_adds n _).after (.of_eq rfl)) (.of_eq rfl)

theorem takeResult_adds (n axle : Nat) (r : AxleResult) (s : State) : s.AddsRoutine (takeResult n axle r s) := by
  unfold takeResult
  split
  · exact storeTested_adds _ _ s
  · exact .refl s

theorem clearLane_adds (s : State) : s.AddsRoutine (clearLane s) := by
  have fold (l : List Nat) : ∀ r : State, r.AddsRoutine (l.foldl (fun s t => ticketDropped t s) r) := by
    induction l with
    | nil => exact fun r => .refl r
    | cons n l ih => exact fun r => (ih _).after (ticketDropped_adds n r)
  exact (fold _ _).after (.of_eq rfl)

/-! ### The sequences -/

theorem changeRoller_adds (f : Roller → Roller) (s : State) : s.AddsRoutine (changeRoller f s) := presenceIfChanged_adds (.of_eq rfl) s

theorem changePlate_adds (f : Plate → Plate) (s : State) : s.AddsRoutine (changePlate f s) := presenceIfChanged_adds (.of_eq rfl) s

theorem motorStop_adds (s : State) : s.AddsRoutine (motorStop s) := .ite ((queueFrame_adds rfl _).after (.of_eq rfl)) (.refl s)

theorem showDriveOn_adds (s : State) : s.AddsRoutine (showDriveOn s) := .ite (lower_adds _ s) (raise_adds _ _ s)

theorem writePhaseStreams_adds (p : Phase) (pressure : Bool) (s : State) : s.AddsRoutine (writePhaseStreams p pressure s) :=
  .of_eq (by simp)

theorem enterIdle_adds (k : Bool) (s : State) : s.AddsRoutine (enterIdle k s) := by
  have written : s.AddsRoutine (cancelSeqTimer (writePhaseStreams .idle false s)) := .of_eq (by simp)
  have idled : s.AddsRoutine (changeRoller (·.idled k) (cancelSeqTimer (writePhaseStreams .idle false s))) :=
    (changeRoller_adds _ _).after written
  have discarded := State.Adds.ite (c := k = true) idled ((State.Adds.of_eq rfl).after idled :
    s.AddsRoutine (evalDiscardAxle (changeRoller (·.idled k) (cancelSeqTimer (writePhaseStreams .idle false s)))))
  have lowered := (lowerAll_adds idleLowers _).after discarded
  exact (showDriveOn_adds _).after (.ite lowered ((raise_adds _ _ _).after lowered))

theorem enterExit_adds (s : State) : s.AddsRoutine (enterExit s) := by
  have written : s.AddsRoutine (cancelSeqTimer (writePhaseStreams .exit false s)) := .of_eq (by simp)
  exact (raise_adds _ _ _).after ((lowerAll_adds _ _).after ((changeRoller_adds _ _).after written))

theorem abandonAxle_adds (s : State) : s.AddsRoutine (abandonAxle s) :=
  (enterIdle_adds _ _).after ((State.Adds.of_eq rfl).after (motorStop_adds s))

theorem holdChanged_adds (wasHeld : Bool) (s : State) : s.AddsRoutine (holdChanged wasHeld s) :=
  .ite ((showDriveOn_adds _).after (.of_eq rfl)) (.refl s)

theorem removeAwaited_adds (n : Nat) (s : State) : s.AddsRoutine (removeAwaited n s) :=
  .ite (.ite (.of_eq rfl) (.of_eq rfl)) (.refl s)

theorem judgeRoleClash_adds (s : State) : s.AddsRoutine (judgeRoleClash s) := by
  unfold judgeRoleClash
  dsimp only
  split
  · exact .ite (.refl s) ((holdChanged_adds _ _).after ((raise_adds _ _ _).after (.of_eq rfl)))
  · exact .ite ((holdChanged_adds _ _).after ((lower_adds _ _).after (.of_eq rfl))) (.refl s)

theorem onRoller_adds {f : State → State} (h : ∀ s : State, s.AddsRoutine (f s)) (s : State) : s.AddsRoutine (onRoller f s) :=
  .ite (h s) (.refl s)

theorem onPlate_adds {f : State → State} (h : ∀ s : State, s.AddsRoutine (f s)) (s : State) : s.AddsRoutine (onPlate f s) :=
  .ite (h s) (.refl s)

theorem rollerCancelled_adds (n : Nat) (s : State) : s.AddsRoutine (rollerCancelled n s) :=
  .ite (.refl s) (.ite (.of_eq rfl) (.ite
    ((enterExit_adds _).after ((State.Adds.of_eq rfl).after (motorStop_adds s))) (.refl s)))

theorem dropMeasurement_adds (s : State) : s.AddsRoutine (dropMeasurement s) := .of_eq (by simp)

theorem plateToClear_adds (s : State) : s.AddsRoutine (plateToClear s) :=
  (lower_adds _ _).after ((changePlate_adds _ _).after (.of_eq rfl))

theorem unmeasure_adds (s : State) : s.AddsRoutine (unmeasure s) := (changePlate_adds _ _).after (dropMeasurement_adds s)

theorem plateLaneClear_adds (s : State) : s.AddsRoutine (plateLaneClear s) := by
  unfold plateLaneClear
  split
  · exact (changePlate_adds _ _).after (dropMeasurement_adds s)
  · exact (plateToClear_adds _).after (.of_eq rfl)
  · exact .of_eq rfl
  · exact .refl s

theorem plateStopped_adds (s : State) : s.AddsRoutine (plateStopped s) := .ite (unmeasure_adds s) (.refl s)

theorem plateCancelled_adds (n : Nat) (s : State) : s.AddsRoutine (plateCancelled n s) := .ite (unmeasure_adds s) (.refl s)

/-! ### A heard frame's passage -/

theorem peerHeard_adds (n : Nat) (isPresence : Bool) (s : State) : s.AddsRoutine (peerHeard n isPresence s) := by
  refine (recheck_adds _).after ((judgeEntry_adds _).after (onRoller_adds (fun r => ?_) s))
  exact (judgeRoleClash_adds _).after (.ite (removeAwaited_adds n r) (.refl r))

theorem hearPeer_queue (b : Bus) (n : Nat) (fields : Option (PeerRole × Activity × Nat × PrinterState)) :
    (b.hearPeer n fields).queue = b.queue := (b.hearPeer_fields n fields).2.2.2.1

theorem passage_adds (f : WireFrame) (s : State) : s.AddsRoutine (passage f s) := by
  have ended : s.AddsRoutine (frameEnds f s) := .of_eq rfl
  unfold passage
  split
  · unfold clash
    split
    · exact ended
    · refine (raise_adds _ _ _).after fun q mem => ?_
      simp [Bus.listenOnly] at mem
  · have heard : s.AddsRoutine (listed f s) := (State.Adds.of_eq (hearPeer_queue _ _ _)).after ended
    exact .ite ((peerHeard_adds _ _ _).after heard) heard

end Sys2Proof.Machine
end

section
/-! What the entries to the roller phases make of the evaluation context, the prompts and the transmit queue (R96 to R118). -/

namespace Sys2Proof.Machine

/-! ### The evaluation context -/

theorem enterIdle_eval (k : Bool) (s : State) : (enterIdle k s).eval =
    if k then (writePhaseStreams .idle false s).eval else (writePhaseStreams .idle false s).eval.discardAxle := by
  have shown (r : State) : (if r.measures then r else raise .calibrationMissing {} r).eval = r.eval := by split <;> simp
  unfold enterIdle
  dsimp only
  rw [(showDriveOn_frame _).2.2.2.2.2.2.1, shown]
  cases k <;> simp

theorem enterIdle_context (k : Bool) (s : State) : SameContext (if k then s.eval else s.eval.discardAxle) (enterIdle k s).eval := by
  have streams := writePhaseStreams_context .idle false s
  rw [enterIdle_eval]
  cases k with
  | true => exact streams
  | false => exact ⟨rfl, rfl, rfl, rfl, rfl, rfl, streams.test, rfl, rfl, streams.peak, streams.calib⟩

theorem enterPositioned_context (s : State) : SameContext s.eval (enterPositioned s).eval := by
  have same : (enterPositioned s).eval = (writePhaseStreams .positioned false s).eval := by simp [enterPositioned]
  rw [same]
  exact writePhaseStreams_context _ _ s

theorem enterWarn_context (s : State) : SameContext s.eval (enterWarn s).eval := by
  have same : (enterWarn s).eval = (writePhaseStreams .warn false s).eval := by simp [enterWarn]
  rw [same]
  exact writePhaseStreams_context _ _ s

theorem enterExit_context (s : State) : SameContext s.eval (enterExit s).eval := by
  have same : (enterExit s).eval = (writePhaseStreams .exit false s).eval := by simp [enterExit]
  rw [same]
  exact writePhaseStreams_context _ _ s

/-- After an axle is given up the unit holds nothing of it (R77, R117). -/
theorem abandonAxle_context (s : State) : SameContext s.eval.discardAxle (abandonAxle s).eval := by
  have idle := enterIdle_context false (evalDiscardAxle (motorStop s))
  have twice : s.eval.discardAxle.discardAxle = s.eval.discardAxle := rfl
  simpa [abandonAxle, twice] using idle

/-! ### The prompts -/

theorem showDriveOn_isRaised {q : Prompt} (other : q ≠ .driveOn) (s : State) :
    (showDriveOn s).guidance.isRaised q = s.guidance.isRaised q := by
  unfold showDriveOn
  split
  · simp [lower_isRaised, other]
  · simp [raise_isRaised, other]

theorem enterIdle_isRaised {q : Prompt} (driveOn : q ≠ .driveOn) (missing : q ≠ .calibrationMissing) (k : Bool) (s : State) :
    (enterIdle k s).guidance.isRaised q = (s.guidance.isRaised q && decide (q ∉ idleLowers)) := by
  have ready : Prompt.laneReady ∉ idleLowers := by decide
  unfold enterIdle
  dsimp only
  rw [showDriveOn_isRaised driveOn]
  have lowered (r : State) (same : r.guidance = s.guidance) :
      (if (lowerAll idleLowers r).measures = true then lowerAll idleLowers r
        else raise .calibrationMissing {} (lowerAll idleLowers r)).guidance.isRaised q =
      (s.guidance.isRaised q && decide (q ∉ idleLowers)) := by
    split
    · rw [lowerAll_isRaised q _ _ ready, same]
    · rw [raise_isRaised, lowerAll_isRaised q _ _ ready, same]
      simp [missing]
  refine lowered _ ?_
  split <;> simp

theorem enterPositioned_isRaised (q : Prompt) (s : State) :
    (enterPositioned s).guidance.isRaised q = (decide (q = applyPrompt s.roller.kind) ||
      (s.guidance.isRaised q && decide (q ∉ [Prompt.motorsStarting, .releaseBrake, .axleResult]))) := by
  simp only [enterPositioned, raiseApply, raise_isRaised]
  rw [lowerAll_isRaised q _ _ (by decide)]
  simp

theorem enterWarn_isRaised (q : Prompt) (s : State) :
    (enterWarn s).guidance.isRaised q = (decide (q = .motorsStarting) ||
      (s.guidance.isRaised q && decide (q ∉ [Prompt.applyBrake, .applyParking, .axleResult]))) := by
  have frame : (enterWarn s).guidance = (raise .motorsStarting
      { ticket := some s.roller.axle.ticket, axle := some s.roller.axle.axle, kind := some s.roller.kind }
      (lowerAll [.applyBrake, .applyParking, .axleResult] (queueFrame (.motorWarning s.roller.axle.ticket s.roller.axle.axle s.roller.kind)
        (cancelSeqTimer (writePhaseStreams .warn false s))))).guidance := by simp [enterWarn]
  rw [frame, raise_isRaised, lowerAll_isRaised q _ _ (by decide)]
  simp

theorem enterExit_isRaised (q : Prompt) (s : State) :
    (enterExit s).guidance.isRaised q = (decide (q = .driveOff) ||
      (s.guidance.isRaised q && decide (q ∉ [Prompt.applyBrake, .applyParking, .motorsStarting, .axleResult]))) := by
  simp only [enterExit, raise_isRaised]
  rw [lowerAll_isRaised q _ _ (by decide)]
  simp

/-- The prompts that a ticket gone leaves (R136, R146). -/
def Prompt.outlastsTicket (q : Prompt) : Bool :=
  decide (q ∉ [Prompt.entryRejected, .laneFull, .warningFromPeer, .wait, .driveOn])

theorem lowerForTicket_isRaised {p q : Prompt} (other : q ≠ p) (n : Nat) (s : State) :
    (lowerForTicket n p s).guidance.isRaised q = s.guidance.isRaised q := by
  unfold lowerForTicket
  split
  · split
    · simp [lower_isRaised, other]
    · rfl
  · rfl

theorem guidanceTicketGone_isRaised {q : Prompt} (lasts : q.outlastsTicket = true) (n : Nat) (s : State) :
    (guidanceTicketGone n s).guidance.isRaised q = s.guidance.isRaised q := by
  simp only [Prompt.outlastsTicket, decide_eq_true_eq, List.mem_cons, List.not_mem_nil, or_false, not_or] at lasts
  obtain ⟨rejected, full, warning, wait, driveOn⟩ := lasts
  rw [guidanceTicketGone, judgeEntry_isRaised wait driveOn, lowerForTicket_isRaised warning, lowerForTicket_isRaised full,
    lowerForTicket_isRaised rejected]

/-! ### Motor stops in the queue -/

/-- A motor stop's ROLLERS_STOPPED stands in the queue at the end, unless the queue refuses or is full (R97). -/
theorem motorStop_queues {s r t : State} (can : r.bus.canQueue = s.bus.canQueue) (axle : r.roller.axle = s.roller.axle)
    (on : r.roller.motors = true) (k : KeepsQueue (motorStop r) t) :
    s.queues t (.rollersStopped s.roller.axle.ticket s.roller.axle.axle) := by
  rw [motorStop, if_pos on] at k
  rw [← axle]
  refine queues_of_keeps (r := r.setRoller { r.roller with motors := false, fbL := false, fbR := false, weldedCount := 0 }) ?_ rfl k
  simpa using can

/-! ### The passage of a frame that is no PRESENCE -/

/-- The items of the roller sequence but for the role clash and the wheel count that a hold sets back. -/
def Roller.SameButHold (r q : Roller) : Prop := q = { r with roleClash := q.roleClash, wheelCount := q.wheelCount }

theorem Roller.SameButHold.refl (r : Roller) : r.SameButHold r := rfl

theorem Roller.SameButHold.fields {r q : Roller} (h : r.SameButHold q) :
    q.phase = r.phase ∧ q.fixed = r.fixed ∧ q.motors = r.motors ∧ q.faultHold = r.faultHold ∧ q.axle = r.axle ∧ q.kind = r.kind ∧
    q.weighed = r.weighed ∧ q.awaited = r.awaited ∧ q.warnWait = r.warnWait := by
  unfold Roller.axle
  rw [h]
  exact ⟨rfl, rfl, rfl, rfl, rfl, rfl, rfl, rfl, rfl⟩

theorem judgeRoleClash_items (s : State) :
    s.roller.SameButHold (judgeRoleClash s).roller ∧ (judgeRoleClash s).timers = s.timers := by
  have held (b : Bool) (t : State) (same : s.roller.SameButHold t.roller) (timers : t.timers = s.timers) :
      s.roller.SameButHold (holdChanged b t).roller ∧ (holdChanged b t).timers = s.timers := by
    unfold holdChanged
    split
    · unfold Roller.SameButHold at same ⊢
      constructor
      · simp only [showDriveOn_frame, State.setRoller_fields]
        rw [same]
      · simpa using timers
    · exact ⟨same, timers⟩
  unfold judgeRoleClash
  dsimp only
  split
  · split
    · exact ⟨rfl, rfl⟩
    · refine held _ _ ?_ (by simp)
      simp [Roller.SameButHold]
  · split
    · refine held _ _ ?_ (by simp)
      simp [Roller.SameButHold]
    · exact ⟨rfl, rfl⟩

/-- A frame that is no PRESENCE reaches its blocks with the sequence and the timers as they were, but for the role clash (R37, R116). -/
theorem passage_items {f : WireFrame} (silent : f.announces = false) (s : State) :
    s.roller.SameButHold (passage f s).roller ∧ (passage f s).timers = s.timers := by
  unfold passage
  split
  · unfold clash
    split
    · exact ⟨rfl, rfl⟩
    · simp [Roller.SameButHold, frameEnds]
  · unfold enterPeer
    dsimp only
    split
    · rw [silent]
      have judged := judgeRoleClash_items (listed f s)
      have report : (peerHeard f.source false (listed f s)).roller = (onRoller judgeRoleClash (listed f s)).roller ∧
          (peerHeard f.source false (listed f s)).timers = (onRoller judgeRoleClash (listed f s)).timers := by
        simp [peerHeard]
      change s.roller.SameButHold (peerHeard f.source false (listed f s)).roller ∧ (peerHeard f.source false (listed f s)).timers = s.timers
      rw [report.1, report.2]
      unfold onRoller
      split
      · exact judged
      · exact ⟨rfl, rfl⟩
    · exact ⟨rfl, rfl⟩

theorem onPlate_of_roller {s : State} (active : s.rollerActive = true) (f : State → State) : onPlate f s = s := by
  have : s.plateActive = false := by
    simp only [State.rollerActive, Bool.and_eq_true, beq_iff_eq] at active
    simp [State.plateActive, active.2]
  simp [onPlate, this]

theorem State.plateActive_congr {s t : State} (power : t.power = s.power) (startUp : t.startUp = s.startUp) :
    t.plateActive = s.plateActive := by
  simp [State.plateActive, State.started, State.isRunning, power, startUp]

end Sys2Proof.Machine
end

section
/-! A heard VEHICLE_CANCEL (R8, R21, R118, R128, R162). -/

namespace Sys2Proof.Machine

/-! ### The certificate unit (R162) -/

theorem removeQueued_cert (p : Job → Bool) (s : State) :
    (removeQueued p s).cert = { s.cert with jobs := s.cert.jobs.filter fun j => !(j.state == .queued && p j) } := by
  have fold (l : List Job) : ∀ r : State, (l.foldl (fun s j => answer j.requester j.subject .refusedUnknown s) r).cert = r.cert := by
    induction l with
    | nil => exact fun _ => rfl
    | cons j l ih => exact fun r => (ih _).trans (by simp)
  exact fold _ _

theorem certTicketGone_cert {s : State} (active : s.printerActive = true) (n : Nat) :
    n ∉ (certTicketGone n s).cert.completed ∧
    ∀ j ∈ (certTicketGone n s).cert.jobs, j.state = .queued → j.subject ≠ .ticket n := by
  unfold certTicketGone
  rw [if_pos active]
  refine ⟨by simp, fun j mem queued subject => ?_⟩
  simp [removeQueued_cert, List.mem_filter, queued, subject] at mem

theorem certLaneClear_cert {s : State} (active : s.printerActive = true) :
    (certLaneClear s).cert.completed = [] ∧ ∀ j ∈ (certLaneClear s).cert.jobs, j.state ≠ .queued := by
  unfold certLaneClear
  rw [if_pos active]
  refine ⟨by simp, fun j mem queued => ?_⟩
  simp [removeQueued_cert, List.mem_filter, queued] at mem

/-! ### The sequences (R118, R128) -/

@[simp] theorem rollerCancelled_frame (n : Nat) (s : State) :
    EntryFrame s (rollerCancelled n s) ∧ (rollerCancelled n s).plate = s.plate := by
  unfold rollerCancelled
  split
  · simp [EntryFrame, SameOuter, SameBus]
  · split
    · simp [EntryFrame, SameOuter, SameBus]
    · split <;> simp [EntryFrame, SameOuter, SameBus]

@[simp] theorem onRollerCancelled_frame (n : Nat) (s : State) :
    EntryFrame s (onRoller (rollerCancelled n) s) ∧ (onRoller (rollerCancelled n) s).plate = s.plate := by
  unfold onRoller
  split
  · exact rollerCancelled_frame n s
  · simp [EntryFrame, SameOuter, SameBus]

@[simp] theorem onPlateCancelled_frame (n : Nat) (s : State) :
    EntryFrame s (onPlate (plateCancelled n) s) ∧ (onPlate (plateCancelled n) s).timers = s.timers ∧
    (onPlate (plateCancelled n) s).guidance = s.guidance ∧ (onPlate (plateCancelled n) s).roller = s.roller := by
  unfold onPlate plateCancelled
  split
  · split
    · exact ⟨(unmeasure_frame s).1, (unmeasure_frame s).2.1, (unmeasure_frame s).2.2.1, (unmeasure_frame s).2.2.2.1⟩
    · simp [EntryFrame, SameOuter, SameBus]
  · simp [EntryFrame, SameOuter, SameBus]

/-- A cancel of the fixed ticket by its cases (R118). -/
theorem rollerCancelled_other {n : Nat} {s : State} (h : s.roller.fixed.map (·.ticket) ≠ some n) : rollerCancelled n s = s := if_pos h

theorem rollerCancelled_held {n : Nat} {s : State} (fixed : s.roller.fixed.map (·.ticket) = some n) (held : s.roller.faultHold.isSome = true) :
    rollerCancelled n s = s.setRoller { s.roller with releaseOwed := true } := by
  simp [rollerCancelled, fixed, held]

theorem rollerCancelled_resting {n : Nat} {s : State} (free : s.roller.faultHold = none) (rests : s.roller.phase = .idle ∨ s.roller.phase = .exit) :
    rollerCancelled n s = s := by
  unfold rollerCancelled
  split
  · rfl
  · rcases rests with h | h <;> simp [free, h]

theorem rollerCancelled_leaves {n : Nat} {s : State} (fixed : s.roller.fixed.map (·.ticket) = some n) (free : s.roller.faultHold = none)
    (idle : s.roller.phase ≠ .idle) (exit : s.roller.phase ≠ .exit) :
    rollerCancelled n s = enterExit (evalDiscardAxle (motorStop s)) := by
  simp [rollerCancelled, fixed, free, idle, exit]

/-! ### The cancel at the blocks (R8, R21) -/

/-- What follows the cancelled entry: the reports to the sequences, the certificate unit and the guidance unit (R21). -/
def cancelReports (n : Nat) (s : State) : State :=
  guidanceTicketGone n (certTicketGone n (onPlate (plateCancelled n) (onRoller (rollerCancelled n) s)))

theorem onVehicleCancel_eq (p : List Byte) (s : State) : onVehicleCancel p s =
    if s.lane.cancels (wordAt p 0) then cancelReports (wordAt p 0) (s.setLane (s.lane.cancel (wordAt p 0))) else s := rfl

@[simp] theorem cancelReports_frame (n : Nat) (s : State) :
    SameOuter s (cancelReports n s) ∧ SameBus s (cancelReports n s) ∧ (cancelReports n s).lane = s.lane ∧
    (cancelReports n s).archive = s.archive ∧ (cancelReports n s).roller = (onRoller (rollerCancelled n) s).roller := by
  simp [cancelReports, SameOuter, SameBus]

theorem onVehicleCancel_frame (p : List Byte) (s : State) :
    (onVehicleCancel p s).archive = s.archive ∧ (onVehicleCancel p s).counters = s.counters ∧ (onVehicleCancel p s).startUp = s.startUp := by
  rw [onVehicleCancel_eq]
  split <;> simp

theorem cancelReports_cert {s : State} (active : s.printerActive = true) (n : Nat) :
    n ∉ (cancelReports n s).cert.completed ∧ ∀ j ∈ (cancelReports n s).cert.jobs, j.state = .queued → j.subject ≠ .ticket n := by
  have still : (onPlate (plateCancelled n) (onRoller (rollerCancelled n) s)).printerActive = true :=
    (State.printerActive_congr (by simp) (by simp)).trans active
  have gone := certTicketGone_cert still n
  simpa [cancelReports] using gone

theorem cancels_iff {s : State} (law : s.tableLaw = true) {n : Nat} :
    s.lane.cancels n = true ↔ ∃ e ∈ s.lane.entries, e.ticket = n ∧ (e.state = .registered ∨ e.state = .inLane ∨ e.state = .complete) := by
  have takes (e : Entry) : e.takesResults = true ↔ e.state = .registered ∨ e.state = .inLane ∨ e.state = .complete := by
    cases h : e.state <;> simp [Entry.takesResults, Entry.isOpen, h]
  unfold LaneView.cancels
  constructor
  · intro h
    split at h
    · rename_i e found
      obtain ⟨mem, ticket⟩ := (find_eq_some_iff law).mp found
      exact ⟨e, mem, ticket, (takes e).mp h⟩
    · cases h
  · rintro ⟨e, mem, ticket, live⟩
    rw [(find_eq_some_iff law).mpr ⟨mem, ticket⟩]
    exact (takes e).mpr live

/-- The cancelled entry is ABANDONED with its fields kept; the others stand (R8). -/
theorem onVehicleCancel_lane {s : State} (law : s.tableLaw = true) (p : List Byte) :
    (onVehicleCancel p s).lane.stampCounter = s.lane.stampCounter ∧
    (onVehicleCancel p s).lane.entries = s.lane.entries.map (fun e =>
      if e.ticket = wordAt p 0 ∧ (e.state = .registered ∨ e.state = .inLane ∨ e.state = .complete)
      then { e with state := .abandoned } else e) := by
  rw [onVehicleCancel_eq]
  split
  · rename_i cancels
    obtain ⟨x, memX, ticketX, live⟩ := (cancels_iff law).mp cancels
    have sole {e : Entry} (mem : e ∈ s.lane.entries) (same : e.ticket = wordAt p 0) : e = x := by
      have found := (find_eq_some_iff law).mpr ⟨mem, same⟩
      rw [(find_eq_some_iff law).mpr ⟨memX, ticketX⟩] at found
      exact (Option.some.inj found).symm
    have marked := update_entries_of (v := s.lane) (n := wordAt p 0) (f := fun e => { e with state := .abandoned })
      (P := fun e => e.state = .registered ∨ e.state = .inLane ∨ e.state = .complete)
      fun e mem same => by rw [sole mem same]; exact live
    refine ⟨by simp [LaneView.cancel, LaneView.update], ?_⟩
    rw [(cancelReports_frame _ _).2.2.1]
    exact marked
  · rename_i stands
    refine ⟨rfl, (map_ite_of_forall_not _ ?_).symm⟩
    rintro e mem ⟨same, live⟩
    exact stands ((cancels_iff law).mpr ⟨e, mem, same, live⟩)

/-- The axle of a cancelled ticket is sent off (R118). -/
theorem cancelReports_exit {s r : State} {n : Nat} (active : r.rollerActive = true) (fixed : r.roller.fixed.map (·.ticket) = some n)
    (free : r.roller.faultHold = none) (idle : r.roller.phase ≠ .idle) (exit : r.roller.phase ≠ .exit)
    (same : s.roller.SameButHold r.roller) :
    s.entersExit (cancelReports n r) ∧ (cancelReports n r).roller.motors = false ∧ (cancelReports n r).eval.context = .noContext ∧
    (cancelReports n r).eval.loads = none ∧ (cancelReports n r).eval.zt = none ∧ (cancelReports n r).eval.rr = none ∧
    (r.bus.canQueue = s.bus.canQueue → s.roller.motors = true →
      s.queues (cancelReports n r) (.rollersStopped s.roller.axle.ticket s.roller.axle.axle)) := by
  let u := enterExit (evalDiscardAxle (motorStop r))
  have sent : onRoller (rollerCancelled n) r = u := (if_pos active).trans (rollerCancelled_leaves fixed free idle exit)
  have activeU : u.rollerActive = true := (State.rollerActive_congr (by simp [u]) (by simp [u])).trans active
  have reports : cancelReports n r = guidanceTicketGone n (certTicketGone n u) := by
    rw [cancelReports, sent, onPlate_of_roller activeU]
  have context := enterExit_context (evalDiscardAxle (motorStop r))
  have raised (q : Prompt) (lasts : q.outlastsTicket = true) :
      (cancelReports n r).guidance.isRaised q = u.guidance.isRaised q := by
    rw [reports, guidanceTicketGone_isRaised lasts]
    simp
  have prompts (q : Prompt) : u.guidance.isRaised q = (decide (q = .driveOff) ||
      (r.guidance.isRaised q && decide (q ∉ [Prompt.applyBrake, .applyParking, .motorsStarting, .axleResult]))) := by
    simp only [u, enterExit_isRaised]
    simp
  have eval : (cancelReports n r).eval = u.eval := by rw [reports]; simp
  have items : (cancelReports n r).roller =
      { r.roller.stopped with phase := .exit, wheelCount := 0, awaited := [], warnWait := none } := by rw [reports]; simp [u]
  obtain ⟨-, sameFixed, sameMotors, -, sameAxle, -⟩ := same.fields
  refine ⟨⟨by rw [items], by rw [items]; simp [sameFixed], by rw [items], ?_, ?_, ?_, ?_⟩,
    by rw [items]; simp, ?_, ?_, ?_, ?_, fun can on => ?_⟩
  · rw [raised _ rfl, prompts]; rfl
  · rw [raised _ rfl, prompts]; simp
  · rw [raised _ rfl, prompts]; simp
  · rw [raised _ rfl, prompts]; simp
  · rw [eval, context.context]; simp [Eval.discardAxle]
  · rw [eval, context.loads]; simp [Eval.discardAxle]
  · rw [eval, context.zt]; simp [Eval.discardAxle]
  · rw [eval, context.rr]; simp [Eval.discardAxle]
  · refine motorStop_queues (r := r) can sameAxle (by rw [sameMotors, on]) ?_
    rw [reports]
    refine (guidanceTicketGone_within n _).keepsQueue.after ((certTicketGone_within n _).keepsQueue.after ?_)
    exact (enterExit_within _).keepsQueue.after (.of_eq (by simp))

/-- Settles O17, by the table and the reports that follow a cancel. -/
theorem vehicleCancelAbandons : Obligations.VehicleCancelAbandons := by
  intro s src p listens law length
  let f : WireFrame := ⟨2, 2, src.toNat, p⟩
  obtain ⟨lane, sameLaw⟩ := passage_lane f s
  have changes := passage_changes f s
  have power : (passage f s).power = s.power := changes .power (by simp)
  have startUp : (passage f s).startUp = s.startUp := changes .startUp (by simp)
  have archive : (passage f s).archive = s.archive := changes .archive (by simp)
  have counters : (passage f s).counters = s.counters := changes .counters (by simp)
  obtain ⟨same, -⟩ := passage_items (f := f) (by simp [f, WireFrame.announces]) s
  obtain ⟨phase, fixed, motors, hold, axle, -⟩ := same.fields
  obtain ⟨stamp, entries⟩ := onVehicleCancel_lane (sameLaw.trans law) p
  rw [lane] at stamp entries
  let r := (passage f s).setLane ((passage f s).lane.cancel (wordAt p 0))
  have cancelled (e : Entry) (found : s.lane.find (wordAt p 0) = some e) (live : e.state = .registered ∨ e.state = .inLane ∨ e.state = .complete) :
      onVehicleCancel p (passage f s) = cancelReports (wordAt p 0) r := by
    obtain ⟨mem, ticket⟩ := (find_eq_some_iff law).mp found
    rw [onVehicleCancel_eq, if_pos]
    rw [lane]
    exact (cancels_iff law).mpr ⟨e, mem, ticket, live⟩
  have sameBack (q : Roller) (h : s.roller.SameButHold q) : q = { s.roller with roleClash := q.roleClash, wheelCount := q.wheelCount } := h
  refine ⟨_, heard_passage (cls := 2) (kind := 2) listens (by simp [kindLength, length]) _, stamp, entries, fun e found live => ?_,
    fun stays => ?_, ?_, ?_, ?_⟩
  · rw [cancelled e found live]
    have rollerActive : r.rollerActive = s.rollerActive := State.rollerActive_congr power startUp
    refine ⟨fun active => ?_, fun active mine => ⟨fun free idle exit => ?_, fun free rests => ?_, fun held => ?_⟩⟩
    · exact cancelReports_cert ((State.printerActive_congr power startUp : r.printerActive = s.printerActive).trans active) _
    · obtain ⟨exits, off, context, loads, zt, rr, stops⟩ := cancelReports_exit (s := s) (r := r) (n := wordAt p 0) (rollerActive.trans active)
        (by simpa [r, fixed] using mine) (by simpa [r, hold] using free) (by simpa [r, phase] using idle)
        (by simpa [r, phase] using exit) same
      refine ⟨exits, off, context, loads, zt, rr, fun on other => stops ?_ on⟩
      simp [r, Bus.canQueue, (passage_other (f := f) other).2.1]
    · have stands : (cancelReports (wordAt p 0) r).roller = (passage f s).roller := by
        rw [(cancelReports_frame _ r).2.2.2.2, onRoller, if_pos (rollerActive.trans active),
          rollerCancelled_resting (by simpa [r, hold] using free) (by simpa [r, phase] using rests)]
        rfl
      rw [stands]
      exact sameBack _ same
    · have owed : (cancelReports (wordAt p 0) r).roller = { (passage f s).roller with releaseOwed := true } := by
        rw [(cancelReports_frame _ r).2.2.2.2, onRoller, if_pos (rollerActive.trans active),
          rollerCancelled_held (by simpa [r, fixed] using mine) (by simpa [r, hold] using held)]
        rfl
      rw [owed, sameBack _ same]
  · have stands : (onVehicleCancel p (passage f s)).roller = (passage f s).roller := by
      rw [onVehicleCancel_eq]
      split
      · rename_i cancels
        obtain ⟨e, mem, ticket, -⟩ := (cancels_iff (sameLaw.trans law)).mp cancels
        rw [lane] at mem
        have apart : r.roller.fixed.map (·.ticket) ≠ some (wordAt p 0) := by
          rcases stays with other | unknown
          · simpa [r, fixed] using other
          · rw [(find_eq_some_iff law).mpr ⟨mem, ticket⟩] at unknown
            cases unknown
        rw [(cancelReports_frame _ _).2.2.2.2, onRoller]
        split
        · exact (congrArg State.roller (rollerCancelled_other (s := r) apart)).trans rfl
        · rfl
      · rfl
    rw [stands]
    exact sameBack _ same
  · exact (onVehicleCancel_frame p _).1.trans archive
  · exact (onVehicleCancel_frame p _).2.1.trans counters
  · exact (onVehicleCancel_frame p _).2.2.trans startUp

end Sys2Proof.Machine
end

section
/-! A heard LANE_CLEAR (R20, R118, R129, R136, R162), and what the plate sequence does with a crossing (R121 to R129). -/

namespace Sys2Proof.Machine

/-! ### Crossings given up (R126 to R129) -/

theorem onRoller_of_plate {s : State} (active : s.plateActive = true) (f : State → State) : onRoller f s = s := by
  have : s.rollerActive = false := by
    simp only [State.plateActive, Bool.and_eq_true, beq_iff_eq] at active
    simp [State.rollerActive, active.2]
  simp [onRoller, this]

@[simp] theorem closePlateStream_frame (s : State) : ChainFrame s (closePlateStream s) ∧ (closePlateStream s).timers = s.timers := by
  simp [closePlateStream, ChainFrame, SameOuter]

/-- The gate closed and S0 OFF, the context as it was (R122). -/
theorem closePlateStream_chain (s : State) :
    (closePlateStream s).capture.gateOpen = false ∧ (closePlateStream s).capture.s0.running = false ∧
    (closePlateStream s).capture.s0.config.trigger = .off ∧ SameContext s.eval (closePlateStream s).eval := by
  obtain ⟨config, running, -⟩ := writeStream_written .s0 offConfig (setGate false s)
  obtain ⟨-, gate, -⟩ := writeStream_leaves .s0 offConfig (setGate false s)
  exact ⟨gate, running, congrArg StreamConfig.trigger config, writeStream_context .s0 offConfig (setGate false s)⟩

theorem Eval.discardCrossing_ends {e : Eval} (h : e.context = .crossing ∨ e.context = .crossingDrain) :
    e.discardCrossing.context = .noContext ∧ e.discardCrossing.peak = none := by
  unfold Eval.discardCrossing
  rw [if_pos (by simpa using h)]
  exact ⟨rfl, rfl⟩

/-- A measurement is given up (R128), seen from a state of the same context. -/
theorem dropMeasurement_givesUp {s r t : State} (context : r.eval.context = s.eval.context) (capture : t.capture = (dropMeasurement r).capture)
    (eval : t.eval = (dropMeasurement r).eval) : s.givesUpMeasuring t := by
  obtain ⟨gate, stopped, off, same⟩ := closePlateStream_chain r
  have sameCapture : (dropMeasurement r).capture = (closePlateStream r).capture := by simp [dropMeasurement]
  have discarded : (dropMeasurement r).eval = (closePlateStream r).eval.discardCrossing := by simp [dropMeasurement]
  unfold State.givesUpMeasuring
  rw [capture, eval, sameCapture, discarded]
  exact ⟨gate, stopped, off, fun crossing => Eval.discardCrossing_ends (Or.inl (by rw [same.context, context, crossing]))⟩

/-- A return to CLEAR (R123 to R126). -/
@[simp] theorem plateToClear_frame (s : State) :
    EntryFrame s (plateToClear s) ∧ (plateToClear s).capture = s.capture ∧ (plateToClear s).eval = s.eval ∧
    (plateToClear s).roller = s.roller ∧ (plateToClear s).timers = { s.timers with seqTimer := ⟨false, 0, false⟩ } ∧
    (plateToClear s).plate = { s.plate with fixed := none, measure := .unmeasured, reportExit := false, crossing := .clear } := by
  simp [plateToClear, EntryFrame, SameOuter, SameBus]

/-- A LANE_CLEAR at the plate sequence by its cases (R129). -/
theorem plateLaneClear_off {s : State} (h : s.plate.crossing ≠ .onPlate) : plateLaneClear s = s := by
  unfold plateLaneClear
  split <;> simp_all

theorem plateLaneClear_measuring {s : State} (on : s.plate.crossing = .onPlate) (measure : s.plate.measure = .measuring) :
    plateLaneClear s = changePlate (fun p => { p with measure := .unmeasured, reportExit := false }) (dropMeasurement s) := by
  unfold plateLaneClear
  simp only [on, measure]

theorem plateLaneClear_unmeasured {s : State} (on : s.plate.crossing = .onPlate) (measure : s.plate.measure = .unmeasured) :
    plateLaneClear s = s.setPlate { s.plate with reportExit := false } := by
  unfold plateLaneClear
  simp only [on, measure]

theorem plateLaneClear_draining {s : State} (on : s.plate.crossing = .onPlate) (measure : s.plate.measure = .draining) :
    plateLaneClear s = plateToClear ((evalDiscardCrossing s).setPlate { s.plate with pendingEntry := false }) := by
  unfold plateLaneClear
  simp only [on, measure]

/-! ### The blocks in turn (section 2.9) -/

theorem clearLane_lane (s : State) : (clearLane s).lane = ⟨[], 0⟩ := by
  have fold (l : List Nat) : ∀ r : State, (l.foldl (fun s t => ticketDropped t s) r).lane = r.lane := by
    induction l with
    | nil => exact fun _ => rfl
    | cons n l ih => exact fun r => (ih _).trans (ticketDropped_lane n r)
  exact fold _ _

@[simp] theorem plateLaneClear_frame (s : State) : EntryFrame s (plateLaneClear s) ∧ (plateLaneClear s).roller = s.roller := by
  unfold plateLaneClear
  split <;> simp [EntryFrame, SameOuter, SameBus]

/-- The lane, the sequences and the lists after a LANE_CLEAR. -/
theorem onLaneClear_roller (s : State) :
    (onLaneClear s).roller = (onRoller rollerLaneClear (clearLane s)).roller := by
  unfold onLaneClear
  have plate (r : State) : (onPlate plateLaneClear r).roller = r.roller := by
    unfold onPlate
    split <;> simp
  simp [plate]

@[simp] theorem rollerLaneClear_frame (s : State) :
    EntryFrame s (rollerLaneClear s) ∧ (rollerLaneClear s).plate = s.plate ∧ (rollerLaneClear s).roller = s.roller.stopped.idled false := by
  rw [rollerLaneClear]
  exact abandonAxle_frame s

@[simp] theorem onRollerLaneClear_frame (s : State) :
    EntryFrame s (onRoller rollerLaneClear s) ∧ (onRoller rollerLaneClear s).plate = s.plate := by
  unfold onRoller
  split
  · exact ⟨(rollerLaneClear_frame s).1, (rollerLaneClear_frame s).2.1⟩
  · simp [EntryFrame, SameOuter, SameBus]

@[simp] theorem onPlateLaneClear_frame (s : State) : EntryFrame s (onPlate plateLaneClear s) := by
  unfold onPlate
  split
  · exact (plateLaneClear_frame s).1
  · simp [EntryFrame, SameOuter, SameBus]

@[simp] theorem onLaneClear_frame (s : State) :
    SameOuter s (onLaneClear s) ∧ SameBus s (onLaneClear s) ∧ (onLaneClear s).lane = ⟨[], 0⟩ ∧ (onLaneClear s).archive = s.archive := by
  simp [onLaneClear, SameOuter, SameBus, clearLane_lane]

theorem onLaneClear_cert {s : State} (active : s.printerActive = true) :
    (onLaneClear s).cert.completed = [] ∧ ∀ j ∈ (onLaneClear s).cert.jobs, j.state ≠ .queued := by
  have still : (onPlate plateLaneClear (onRoller rollerLaneClear (clearLane s))).printerActive = true :=
    (State.printerActive_congr (by simp) (by simp)).trans active
  have cleared := certLaneClear_cert still
  simpa [onLaneClear] using cleared

theorem onLaneClear_isRaised (s : State) :
    (onLaneClear s).guidance.isRaised .entryRejected = false ∧ (onLaneClear s).guidance.isRaised .laneFull = false := by
  have lowered (q : Prompt) (wait : q ≠ .wait) (driveOn : q ≠ .driveOn) (mem : q ∈ [Prompt.entryRejected, .laneFull, .warningFromPeer])
      (r : State) : (guidanceLaneClear r).guidance.isRaised q = false := by
    rw [guidanceLaneClear, judgeEntry_isRaised wait driveOn, lowerAll_isRaised q _ _ (by decide)]
    simp [mem]
  exact ⟨lowered _ (by decide) (by decide) (by decide) _, lowered _ (by decide) (by decide) (by decide) _⟩

theorem rollerLaneClear_adds (s : State) : s.AddsRoutine (rollerLaneClear s) := abandonAxle_adds s

theorem onLaneClear_adds (s : State) : s.AddsRoutine (onLaneClear s) := by
  have lane := clearLane_adds s
  have roller := (onRoller_adds rollerLaneClear_adds _).after lane
  have plate := (onPlate_adds plateLaneClear_adds _).after roller
  exact (guidanceLaneClear_adds _).after ((certLaneClear_adds _).after plate)

/-- On a PLATE station the sequence alone acts on the crossing, the streams and its timer. -/
theorem onLaneClear_plate {s : State} (active : s.plateActive = true) :
    (onLaneClear s).plate = (plateLaneClear (clearLane s)).plate ∧ (onLaneClear s).capture = (plateLaneClear (clearLane s)).capture ∧
    (onLaneClear s).eval = (plateLaneClear (clearLane s)).eval ∧ (onLaneClear s).timers = (plateLaneClear (clearLane s)).timers := by
  have still : (clearLane s).plateActive = true := (State.plateActive_congr (by simp) (by simp)).trans active
  have crossing : onPlate plateLaneClear (onRoller rollerLaneClear (clearLane s)) = plateLaneClear (clearLane s) := by
    rw [onRoller_of_plate still, onPlate, if_pos still]
  simp [onLaneClear, crossing]

/-- Settles O22, block by block. -/
theorem laneClearSweepsTheLane : Obligations.LaneClearSweepsTheLane := by
  intro s src listens
  let f : WireFrame := ⟨2, 1, src.toNat, []⟩
  have changes := passage_changes f s
  have power : (passage f s).power = s.power := changes .power (by simp)
  have startUp : (passage f s).startUp = s.startUp := changes .startUp (by simp)
  have samePlate : (passage f s).plate = s.plate := changes .plate (by simp)
  have sameCapture : (passage f s).capture = s.capture := changes .capture (by simp)
  have sameEval : (passage f s).eval = s.eval := changes .eval (by simp)
  obtain ⟨-, timers⟩ := passage_items (f := f) (by simp [f, WireFrame.announces]) s
  let r := clearLane (passage f s)
  have plate : r.plate = s.plate := by simp [r, samePlate]
  have capture : r.capture = s.capture := by simp [r, sameCapture]
  have eval : r.eval = s.eval := by simp [r, sameEval]
  have sameTimers : r.timers = s.timers := by simp [r, timers]
  refine ⟨onLaneClear (passage f s), heard_passage (cls := 2) (kind := 1) listens rfl _, by simp, fun active => ?_, fun active => ?_,
    fun active => onLaneClear_cert ((State.printerActive_congr power startUp).trans active), ?_, ?_, ?_, ?_, onLaneClear_isRaised _⟩
  · have still : (clearLane (passage f s)).rollerActive = true := (State.rollerActive_congr (by simp [power]) (by simp [startUp])).trans active
    rw [onLaneClear_roller, onRoller, if_pos still]
    simp
  · obtain ⟨tPlate, tCapture, tEval, tTimers⟩ := onLaneClear_plate ((State.plateActive_congr power startUp).trans active)
    have adds : s.AddsRoutine (onLaneClear (passage f s)) := (onLaneClear_adds _).after (passage_adds f s)
    refine ⟨adds.reportsNoAxle, fun off => ?_, fun on measure => ?_, fun on measure => ?_, fun on measure => ?_⟩
    · have stands : plateLaneClear r = r := plateLaneClear_off (by rw [plate]; exact off)
      rw [tPlate, stands, plate]
    · have drops := plateLaneClear_measuring (s := r) (by rw [plate]; exact on) (by rw [plate]; exact measure)
      refine ⟨dropMeasurement_givesUp (r := r) (by rw [eval]) ?_ ?_, ?_, ?_⟩
      · rw [tCapture, drops]; simp
      · rw [tEval, drops]; simp
      · rw [tPlate, drops]; simp [plate]
      · rw [tTimers, drops]; simp [sameTimers]
    · have goesOn := plateLaneClear_unmeasured (s := r) (by rw [plate]; exact on) (by rw [plate]; exact measure)
      exact ⟨by rw [tPlate, goesOn, plate]; simp, by rw [tTimers, goesOn]; simp [sameTimers], by rw [tCapture, goesOn]; simp [capture]⟩
    · have ends := plateLaneClear_draining (s := r) (by rw [plate]; exact on) (by rw [plate]; exact measure)
      refine ⟨?_, ?_, fun context => ?_⟩
      · rw [tPlate, ends]; simp [plate]
      · rw [tTimers, ends]; simp
      · rw [tEval, ends]
        have := Eval.discardCrossing_ends (e := r.eval) (Or.inr (by rw [eval]; exact context))
        simpa using this
  · rw [(onLaneClear_frame _).2.1.2.2.2.2.1]
    exact (passage_link f s).2
  · rw [(onLaneClear_frame _).2.2.2]
    exact changes .archive (by simp)
  · have counters : (passage f s).counters = s.counters := changes .counters (by simp)
    simpa using counters
  · have clock : (passage f s).clock = s.clock := changes .clock (by simp)
    simpa using clock

end Sys2Proof.Machine
end

section
/-! The 32 Hz tick line by line: what becomes of the filter, and the event of the only line that changes (R44 to R47). -/

namespace Sys2Proof.Machine

/-! ### The order in which the takers of a tick are served -/

theorem mem_onceEach {α : Type} [DecidableEq α] {l : List α} {a : α} : a ∈ onceEach l ↔ a ∈ l := by
  induction l with
  | nil => simp [onceEach]
  | cons x xs ih =>
    by_cases here : a = x <;> simp [onceEach, ih, here]

theorem onceEach_nodup {α : Type} [DecidableEq α] (l : List α) : (onceEach l).Nodup := by
  induction l with
  | nil => simp [onceEach]
  | cons x xs ih => exact List.nodup_cons.mpr ⟨by simp, ih.filter _⟩

/-- Those named first, each once, then the rest of a table: each member of the table once. -/
theorem served_once {α : Type} [DecidableEq α] {first all : List α} (table : all.Nodup) (whole : ∀ a, a ∈ all) :
    (onceEach first ++ all.filter fun a => !first.contains a).Nodup ∧ ∀ a, a ∈ onceEach first ++ all.filter fun a => !first.contains a := by
  refine ⟨(onceEach_nodup first).append (table.filter _) fun a named rest => ?_, fun a => ?_⟩
  · have out := (List.mem_filter.mp rest).2
    simp [mem_onceEach.mp named] at out
  · by_cases named : a ∈ first
    · exact List.mem_append_left _ (mem_onceEach.mpr named)
    · exact List.mem_append_right _ (List.mem_filter.mpr ⟨whole a, by simpa using named⟩)

theorem lineOrder_once (first : List Line) : (lineOrder first).Nodup ∧ ∀ l, l ∈ lineOrder first :=
  served_once (by decide) fun l => by cases l <;> decide

theorem takerOrder_once (first : List TickTaker) : (takerOrder first).Nodup ∧ ∀ k, k ∈ takerOrder first :=
  served_once (by decide) fun k => by cases k <;> decide

/-! ### The lines of the filter (R47) -/

theorem lineLevel_setLine (x : Samples) (l : Line) (v : Bool) (m : Line) :
    lineLevel (setLine x l v) m = if m = l then v else lineLevel x m := by
  cases l <;> cases m <;> rfl

theorem Filter.changes_iff {f : Filter} {l : Line} {v : Bool} :
    f.changes l v = true ↔ v ≠ lineLevel f.accepted l ∧ v = lineLevel f.last l := by
  simp [Filter.changes]

/-- One sample at the filter: the line's last sample, and its accepted level where the sample repeats (R47). -/
theorem Filter.sample_levels (f : Filter) (l : Line) (v : Bool) (m : Line) :
    lineLevel (f.sample l v).last m = (if m = l then v else lineLevel f.last m) ∧
    lineLevel (f.sample l v).accepted m = if m = l ∧ v = lineLevel f.last l then v else lineLevel f.accepted m := by
  refine ⟨lineLevel_setLine _ _ _ _, ?_⟩
  unfold Filter.sample
  dsimp only
  by_cases changed : f.changes l v = true
  · obtain ⟨-, repeated⟩ := Filter.changes_iff.mp changed
    rw [if_pos changed, lineLevel_setLine]
    by_cases here : m = l
    · simp [here, repeated]
    · simp [here]
  · rw [if_neg changed]
    by_cases here : m = l ∧ v = lineLevel f.last l
    · rw [if_pos here, here.1]
      by_contra differs
      exact changed (Filter.changes_iff.mpr ⟨fun same => differs same.symm, here.2⟩)
    · rw [if_neg here]

/-! ### A line's event at its owner -/

theorem abortKey_changes (s : State) : s.onlyChanges eventBlocks (abortKey s) := by
  have capture (r : State) : r.onlyChanges eventBlocks (r.setCapture r.capture.abortKey) := (Within.setCapture r _).event (by simp)
  exact State.onlyChanges_after (capture _) (State.onlyChanges_after ((onPlate_within plateAbort_within _).event (by simp))
    ((onRoller_within rollerAbort_within s).event (by simp)))

theorem dimEvent_changes (active : Bool) (s : State) : s.onlyChanges eventBlocks (dimEvent active s) := by
  have timers (x : Timers) : s.onlyChanges eventBlocks (s.setTimers x) := (Within.setTimers s x).event (by simp)
  exact State.onlyChanges_after ((composePanel_within _).event (by simp)) (State.onlyChanges_ite (timers _) (s.onlyChanges_refl _))

theorem lineEvent_changes (l : Line) (active : Bool) (s : State) : s.onlyChanges eventBlocks (lineEvent l active s) := by
  have roller {f : State → State} (h : ∀ r, Within rollerBlocks r (f r)) : s.onlyChanges eventBlocks (onRoller f s) :=
    (onRoller_within h s).event (by simp)
  have plate {f : State → State} (h : ∀ r, Within plateBlocks r (f r)) : s.onlyChanges eventBlocks (onPlate f s) :=
    (onPlate_within h s).event (by simp)
  unfold lineEvent
  split
  · exact roller wheelsLeaving_within
  · exact roller wheelsLeaving_within
  · exact plate plateEntry_within
  · exact plate plateExit_within
  · exact roller (feedbackActive_within _)
  · exact roller (feedbackActive_within _)
  · exact roller (feedbackInactive_within _)
  · exact roller (feedbackInactive_within _)
  · exact roller keyStart_within
  · exact roller keyNext_within
  · exact roller keyRepeat_within
  · exact abortKey_changes s
  · exact stopInputActive_changes s
  · exact stopInputInactive_changes s
  · exact dimEvent_changes _ s
  · exact s.onlyChanges_refl _

theorem setFilter_changes (s : State) (f : Filter) : s.onlyChanges [.filter] (s.setFilter f) := by
  intro b hb
  cases b with
  | filter => simp at hb
  | _ => rfl

theorem lineEvent_filter (l : Line) (active : Bool) (s : State) : (lineEvent l active s).filter = s.filter :=
  lineEvent_changes l active s .filter (by simp)

/-! ### The lines of a tick in turn -/

theorem sampleLine_filter (x : Samples) (s : State) (l : Line) : (sampleLine x s l).filter = s.filter.sample l (lineLevel x l) := by
  unfold sampleLine
  dsimp only
  split
  · rw [lineEvent_filter]
    rfl
  · rfl

theorem sampleLine_still {x : Samples} {s : State} {l : Line} (h : s.filter.changes l (lineLevel x l) = false) :
    sampleLine x s l = s.setFilter (s.filter.sample l (lineLevel x l)) := by
  simp [sampleLine, h]

theorem sampleLine_changes (x : Samples) (s : State) (l : Line) : s.onlyChanges (.filter :: eventBlocks) (sampleLine x s l) := by
  have sampled : s.onlyChanges (.filter :: eventBlocks) (s.setFilter (s.filter.sample l (lineLevel x l))) :=
    State.onlyChanges_mono (setFilter_changes s _) (by simp)
  unfold sampleLine
  dsimp only
  split
  · exact State.onlyChanges_after (State.onlyChanges_mono (lineEvent_changes _ _ _) (by simp)) sampled
  · exact sampled

/-- The filter after the lines of a list, each standing there once. -/
theorem samples_filter (x : Samples) {lines : List Line} (once : lines.Nodup) (s : State) (m : Line) :
    lineLevel (lines.foldl (sampleLine x) s).filter.last m = (if m ∈ lines then lineLevel x m else lineLevel s.filter.last m) ∧
    lineLevel (lines.foldl (sampleLine x) s).filter.accepted m =
      if m ∈ lines ∧ lineLevel x m = lineLevel s.filter.last m then lineLevel x m else lineLevel s.filter.accepted m := by
  induction lines generalizing s with
  | nil => simp
  | cons l ls ih =>
    obtain ⟨new, rest⟩ := List.nodup_cons.mp once
    obtain ⟨last, accepted⟩ := ih rest (sampleLine x s l)
    obtain ⟨lastL, acceptedL⟩ := s.filter.sample_levels l (lineLevel x l) m
    rw [List.foldl_cons, last, accepted, sampleLine_filter, lastL, acceptedL]
    by_cases here : m = l
    · subst here
      simp [new]
    · simp [here]

theorem samples_changes (x : Samples) (lines : List Line) (s : State) :
    s.onlyChanges (.filter :: eventBlocks) (lines.foldl (sampleLine x) s) := by
  induction lines generalizing s with
  | nil => exact s.onlyChanges_refl _
  | cons l ls ih => exact State.onlyChanges_after (ih _) (sampleLine_changes x s l)

/-- Lines whose accepted levels stay: the filter alone changes. -/
theorem samples_still (x : Samples) {lines : List Line} (once : lines.Nodup) {s : State}
    (still : ∀ m ∈ lines, lineLevel x m = lineLevel s.filter.last m → lineLevel x m = lineLevel s.filter.accepted m) :
    ∃ g : Filter, lines.foldl (sampleLine x) s = s.setFilter g := by
  induction lines generalizing s with
  | nil => exact ⟨s.filter, rfl⟩
  | cons l ls ih =>
    obtain ⟨new, rest⟩ := List.nodup_cons.mp once
    have quiet : s.filter.changes l (lineLevel x l) = false := by
      by_contra changed
      obtain ⟨differs, repeated⟩ := Filter.changes_iff.mp (by simpa using changed)
      exact differs (still l List.mem_cons_self repeated)
    obtain ⟨g, fold⟩ := ih rest (s := sampleLine x s l) fun m mem repeated => by
      have apart : m ≠ l := fun same => new (same ▸ mem)
      obtain ⟨last, accepted⟩ := s.filter.sample_levels l (lineLevel x l) m
      rw [sampleLine_filter, last, if_neg apart] at repeated
      rw [sampleLine_filter, accepted, if_neg fun c => apart c.1]
      exact still m (List.mem_cons_of_mem _ mem) repeated
    exact ⟨g, by rw [List.foldl_cons, fold, sampleLine_still quiet]; rfl⟩

/-- The samples change one line of a list: its event alone is delivered, in a state that differs in the filter. -/
theorem samples_onlyLine (x : Samples) {lines : List Line} (once : lines.Nodup) {l : Line} (mem : l ∈ lines) {s : State} (only : s.onlyLine x l) :
    ∃ f g : Filter, f.accepted = setLine s.filter.accepted l (lineLevel x l) ∧
      lines.foldl (sampleLine x) s = (lineEvent l (lineLevel x l) (s.setFilter f)).setFilter g := by
  induction lines generalizing s with
  | nil => cases mem
  | cons a ls ih =>
    obtain ⟨others, repeated, differs⟩ := only
    obtain ⟨new, rest⟩ := List.nodup_cons.mp once
    rw [List.foldl_cons]
    by_cases here : a = l
    · subst here
      have changed : s.filter.changes a (lineLevel x a) = true := Filter.changes_iff.mpr ⟨differs, repeated⟩
      have sampled : sampleLine x s a = lineEvent a (lineLevel x a) (s.setFilter (s.filter.sample a (lineLevel x a))) := by
        simp [sampleLine, changed]
      obtain ⟨g, fold⟩ := samples_still x rest (s := sampleLine x s a) fun m memM _ => by
        have apart : m ≠ a := fun same => new (same ▸ memM)
        rw [sampleLine_filter, (s.filter.sample_levels a (lineLevel x a) m).2, if_neg fun c => apart c.1]
        exact others m apart
      exact ⟨s.filter.sample a (lineLevel x a), g, by simp [Filter.sample, changed], by rw [fold, sampled]⟩
    · have same : lineLevel x a = lineLevel s.filter.accepted a := others a here
      have quiet : s.filter.changes a (lineLevel x a) = false := by simp [Filter.changes, same]
      have stays : (s.filter.sample a (lineLevel x a)).accepted = s.filter.accepted := by simp [Filter.sample, quiet]
      obtain ⟨f, g, accepted, fold⟩ := ih rest ((List.mem_cons.mp mem).resolve_left (Ne.symm here)) (s := sampleLine x s a) (by
        rw [sampleLine_still quiet]
        refine ⟨fun m apart => ?_, ?_, ?_⟩
        · exact (others m apart).trans (by rw [State.setFilter_fields .. |>.2.2.2.2.2.2.1, stays])
        · rw [State.setFilter_fields .. |>.2.2.2.2.2.2.1, (s.filter.sample_levels a _ l).1, if_neg (Ne.symm here)]
          exact repeated
        · rw [State.setFilter_fields .. |>.2.2.2.2.2.2.1, stays]
          exact differs)
      refine ⟨f, g, ?_, ?_⟩
      · rw [accepted, sampleLine_filter, stays]
      · rw [fold, sampleLine_still quiet]
        rfl

/-! ### The tick (R44 to R47) -/

theorem Clock.passage_count_dvd (c : Clock) {period : Nat} (divides : period ∣ 256) (taken : Bool) :
    (c.passage period taken).count % period = 0 := by
  unfold Clock.passage
  split
  · rename_i here
    simp only [Bool.and_eq_true, decide_eq_true_eq] at here
    exact here.1
  · dsimp only
    rw [Nat.mod_mod_of_dvd _ divides]
    exact Nat.mul_mod_left _ _

/-- The tick with one line's accepted level changing: the clock, then that line's event, with the filter's levels about it. -/
theorem tick32_onlyLine {s : State} (quiet : s.quiet = true) {x : Samples} {l : Line} (only : s.onlyLine x l) (first : List Line) :
    ∃ f g : Filter, f.accepted = setLine s.filter.accepted l (lineLevel x l) ∧ exec (.tick32Hz x first) s =
      .next ((lineEvent l (lineLevel x l) ((s.setClock s.clock.tick32).setFilter f)).setFilter g) := by
  obtain ⟨once, whole⟩ := lineOrder_once first
  obtain ⟨f, g, accepted, fold⟩ := samples_onlyLine x once (whole l) (s := s.setClock s.clock.tick32) only
  exact ⟨f, g, accepted, (exec_outside_quiet quiet (tick32 x first)).trans (congrArg _ fold)⟩

theorem mem_ticksAt {d : Divided} {n : Nat} : d ∈ ticksAt n ↔ n % d.period = 0 := by
  cases d <;> simp [ticksAt]

theorem Clock.level_iff (c : Clock) (d : Divided) : c.level d = true ↔ d.period / 2 ≤ c.count % d.period := by
  unfold Clock.level Divided.period
  rw [Nat.testBit_eq_decide_div_mod_eq, decide_eq_true_eq]
  cases d <;> simp only [Divided.bit] <;> omega

/-- Settles O24: the signals by their bit, the filter line by line. -/
theorem ticksSampleTheLines : Obligations.TicksSampleTheLines := by
  refine ⟨fun d period mem n _ x y z => ?_, fun s x first quiet => ?_⟩
  · have same : period = d.period := by
      simp only [List.mem_cons, Prod.mk.injEq, List.not_mem_nil, or_false] at mem
      rcases mem with ⟨rfl, rfl⟩ | ⟨rfl, rfl⟩ | ⟨rfl, rfl⟩ | ⟨rfl, rfl⟩ <;> rfl
    rw [same]
    exact ⟨Clock.level_iff _ d, mem_ticksAt⟩
  · obtain ⟨once, whole⟩ := lineOrder_once first
    have changes := samples_changes x (lineOrder first) (s.setClock s.clock.tick32)
    refine ⟨_, exec_outside_quiet quiet (tick32 x first), fun l => ?_, fun still => ?_, ?_, changes .power (by simp),
      changes .counters (by simp), changes .pins (by simp)⟩
    · have levels := samples_filter x once (s.setClock s.clock.tick32) l
      simpa [tick32, whole] using levels
    · obtain ⟨g, fold⟩ := samples_still x once (s := s.setClock s.clock.tick32) fun m _ => still m
      rw [tick32, fold]
      exact State.onlyChanges_after (State.onlyChanges_mono (setFilter_changes _ _) (by simp))
        (State.onlyChanges_mono (Within.setClock s _).1 (by simp))
    · have clock : (tick32 x first s).clock = s.clock.tick32 := changes .clock (by simp)
      rw [clock]
      exact Clock.passage_count_dvd _ (by decide) _

end Sys2Proof.Machine
end

section
/-! The wire: bits and numbers, stuffing undone bit by bit, and the reception of a whole frame (R22 to R25, R179). -/

namespace Sys2Proof.Machine

/-! ### Bits and numbers -/

theorem natBits_succ (w n : Nat) : natBits (w + 1) n = n.testBit w :: natBits w n := by
  simp [natBits, List.range_succ]

@[simp] theorem natBits_length (w n : Nat) : (natBits w n).length = w := by simp [natBits]

/-- The fold of `bitsNat` from any number read so far. -/
theorem foldl_natBits (w n a : Nat) :
    (natBits w n).foldl (fun m b => 2 * m + b.toNat) a = a * 2 ^ w + n % 2 ^ w := by
  induction w generalizing a with
  | zero => simp [natBits, Nat.mod_one]
  | succ w ih =>
    rw [natBits_succ, List.foldl_cons, ih, Nat.mod_pow_succ, Nat.toNat_testBit, Nat.pow_succ]
    ring

theorem bitsNat_natBits {w n : Nat} (small : n < 2 ^ w) : bitsNat (natBits w n) = n := by
  rw [bitsNat, foldl_natBits, Nat.zero_mul, Nat.zero_add, Nat.mod_eq_of_lt small]

@[simp] theorem byteBits_length (b : Byte) : (byteBits b).length = 8 := natBits_length 8 _

theorem bitsNat_byteBits (b : Byte) : BitVec.ofNat 8 (bitsNat (byteBits b)) = b := by
  rw [byteBits, bitsNat_natBits b.isLt, BitVec.ofNat_toNat, BitVec.setWidth_eq]

theorem flatMap_byteBits_length (p : List Byte) : (p.flatMap byteBits).length = 8 * p.length := by
  induction p with
  | nil => rfl
  | cons b p ih => simp only [List.flatMap_cons, List.length_append, byteBits_length, ih, List.length_cons]; omega

/-- The bytes of a run of bits are read back from their bits. -/
theorem bytesOfBits_byteBits (p : List Byte) : bytesOfBits p.length (p.flatMap byteBits) = p := by
  induction p with
  | nil => rfl
  | cons b p ih =>
    have eight : (byteBits b).length = 8 := byteBits_length b
    rw [List.flatMap_cons, List.length_cons, bytesOfBits, List.take_left' eight, List.drop_left' eight, ih, bitsNat_byteBits]

/-! ### The stuffed region (R23) -/

/-- A receiver takes off the stuff bits a sender put in: the data bits come back, and what stands after them is the rest of
the region, stuffed from the level and run the data left. -/
theorem destuff_stuff (data : List Bool) (lvl : Bool) (run : Nat) :
    ∃ (lvl' : Bool) (run' : Nat), ∀ more rest : List Bool,
      destuff data.length lvl run (stuff lvl run (data ++ more) ++ rest) = .taken data lvl' run' (stuff lvl' run' more ++ rest) := by
  induction data generalizing lvl run with
  | nil =>
    refine ⟨lvl, run, fun more rest => ?_⟩
    cases shown : stuff lvl run more ++ rest <;> simp [destuff, shown]
  | cons b data ih =>
    by_cases full : run = 5
    · obtain ⟨lvl', run', ended⟩ := ih b (if b = !lvl then 2 else 1)
      refine ⟨lvl', run', fun more rest => ?_⟩
      simp [stuff, destuff, full, ended, Destuffed.push]
    · obtain ⟨lvl', run', ended⟩ := ih b (if b = lvl then run + 1 else 1)
      refine ⟨lvl', run', fun more rest => ?_⟩
      simp [stuff, destuff, full, ended, Destuffed.push]

/-! ### A whole frame -/

theorem receiveEnd_endField (f : WireFrame) : receiveEnd f endField = .heard f := rfl

/-- The stuff bit after the CRC field, where one stands, and the end field. -/
theorem receiveTail_stuff (f : WireFrame) (lvl : Bool) (run : Nat) :
    receiveTail f lvl run (stuff lvl run [] ++ endField) = .heard f := by
  by_cases full : run = 5
  · simp [receiveTail, stuff, full, receiveEnd_endField]
  · simp [receiveTail, stuff, full, receiveEnd_endField]

@[simp] theorem WireFrame.headBits_length (f : WireFrame) : f.headBits.length = 16 := by simp [WireFrame.headBits]

/-- The four fields of the header and length are read back from their places. -/
theorem WireFrame.headBits_fields (f : WireFrame) (cls : f.cls < 4) (kind : f.kind < 32) (source : f.source < 16)
    (length : f.payload.length < 32) :
    bitsNat (f.headBits.take 2) = f.cls ∧ bitsNat ((f.headBits.drop 2).take 5) = f.kind ∧
      bitsNat ((f.headBits.drop 7).take 4) = f.source ∧ bitsNat (f.headBits.drop 11) = f.payload.length := by
  refine ⟨?_, ?_, ?_, ?_⟩
  · simpa [WireFrame.headBits, List.take_append] using bitsNat_natBits (w := 2) cls
  · simpa [WireFrame.headBits, List.take_append, List.drop_append] using bitsNat_natBits (w := 5) kind
  · simpa [WireFrame.headBits, List.take_append, List.drop_append, List.drop_eq_nil_of_le] using bitsNat_natBits (w := 4) source
  · simpa [WireFrame.headBits, List.drop_append, List.drop_eq_nil_of_le] using bitsNat_natBits (w := 5) length

/-- The payload and the CRC behind a header that was read. -/
theorem receiveBody_stuff (f : WireFrame) (cls : f.cls < 4) (kind : f.kind < 32) (source : f.source < 16)
    (length : f.payload.length < 32) (lvl : Bool) (run : Nat) :
    receiveBody f.headBits lvl run (stuff lvl run (f.payload.flatMap byteBits ++ natBits 16 (crcBits f.crcInput).toNat) ++ endField) =
      .heard f := by
  obtain ⟨clsRead, kindRead, sourceRead, lengthRead⟩ := f.headBits_fields cls kind source length
  have bits : (f.payload.flatMap byteBits).length = 8 * f.payload.length := flatMap_byteBits_length f.payload
  obtain ⟨lvl', run', taken⟩ := destuff_stuff (f.payload.flatMap byteBits ++ natBits 16 (crcBits f.crcInput).toNat) lvl run
  have data := taken [] endField
  rw [List.append_nil, List.length_append, bits, natBits_length] at data
  simp only [receiveBody, clsRead, kindRead, sourceRead, lengthRead, data, List.take_left' bits, List.drop_left' bits,
    bytesOfBits_byteBits, receiveTail_stuff]
  rw [if_pos]
  rfl

/-- Settles O60: the start bit, the header and the length are read first, then the payload and the CRC, then the end field. -/
theorem framesSurviveTheWire : Obligations.FramesSurviveTheWire := by
  intro f cls kind source length
  obtain ⟨lvl, run, taken⟩ := destuff_stuff (false :: f.headBits) true 0
  have data := taken (f.payload.flatMap byteBits ++ natBits 16 (crcBits f.crcInput).toNat) endField
  have region : f.region = (false :: f.headBits) ++ (f.payload.flatMap byteBits ++ natBits 16 (crcBits f.crcInput).toNat) := by
    simp [WireFrame.region, WireFrame.crcInput]
  rw [← region, List.length_cons, f.headBits_length] at data
  obtain ⟨_, _, _, lengthRead⟩ := f.headBits_fields cls kind source (by omega)
  have short : ¬29 ≤ bitsNat (f.headBits.drop 11) := by omega
  simp only [receive, WireFrame.bits, data, List.head?_cons, Option.some.injEq, Bool.false_eq_true, if_false,
    List.drop_succ_cons, List.drop_zero, if_neg short]
  exact receiveBody_stuff f cls kind source (by omega) lvl run

end Sys2Proof.Machine
end

section
/-! From the end of start-up a prompt is displayed: LANE_READY is in the set whatever is raised or lowered (R132, R137). -/

namespace Sys2Proof.Machine

/-! ### The choice of the displayed prompt (R132) -/

theorem bestPrompt_isSome {ps : List PromptEntry} (some : ps ≠ []) : (bestPrompt ps).isSome = true := by
  have kept (l : List PromptEntry) (x : PromptEntry) : (l.foldl (fun acc e => match acc with
      | none => Option.some e
      | Option.some x => if x.prompt.priority ≤ e.prompt.priority then Option.some e else Option.some x) (Option.some x)).isSome = true := by
    induction l generalizing x with
    | nil => rfl
    | cons e l ih =>
      rw [List.foldl_cons]
      dsimp only
      split
      · exact ih e
      · exact ih x
  cases ps with
  | nil => exact absurd rfl some
  | cons e l =>
    rw [bestPrompt, Option.isSome_map, List.foldl_cons]
    exact kept l e

theorem Guidance.prompts_ne_nil {g : Guidance} {p : Prompt} (h : g.isRaised p = true) : g.prompts ≠ [] := by
  rintro empty
  simp [Guidance.isRaised, empty] at h

theorem Guidance.choice_isSome {g : Guidance} {p : Prompt} (h : g.isRaised p = true) : g.choice.isSome = true := by
  unfold Guidance.choice
  split
  · split
    · rfl
    · exact bestPrompt_isSome (Guidance.prompts_ne_nil h)
  · exact bestPrompt_isSome (Guidance.prompts_ne_nil h)

/-! ### The operations keep a prompt displayed -/

/-- A prompt is displayed, and LANE_READY is raised, to be chosen where nothing else is. -/
structure State.Displays (s : State) : Prop where
  displayed : s.guidance.displayed.isSome = true
  ready : s.guidance.isRaised .laneReady = true

theorem State.Displays.congr {s t : State} (h : s.Displays) (same : t.guidance = s.guidance) : t.Displays :=
  ⟨by rw [same]; exact h.displayed, by rw [same]; exact h.ready⟩

@[simp] theorem composePanel_displayed (s : State) : (composePanel s).guidance.displayed = s.guidance.displayed := by
  have due (frame : List Byte) : (s.guidance.due frame).displayed = s.guidance.displayed := by
    unfold Guidance.due
    split <;> rfl
  unfold composePanel
  split
  · split
    · rfl
    · exact due _
  · rfl

@[simp] theorem showDisplayed_displayed (s : State) : (showDisplayed s).guidance.displayed = s.guidance.displayed := by
  have horn (g : Guidance) : g.requestHorn.displayed = g.displayed := by
    unfold Guidance.requestHorn
    split <;> rfl
  have confirmed (r : State) : (confirmShown r).guidance.displayed = r.guidance.displayed := by
    unfold confirmShown
    split <;> rfl
  unfold showDisplayed
  dsimp only
  rw [confirmed]
  exact (horn _).trans (composePanel_displayed s)

theorem firstDisplay_displays {s : State} (ready : s.guidance.isRaised .laneReady = true) : (firstDisplay s).Displays := by
  refine ⟨?_, ?_⟩
  · rw [firstDisplay, showDisplayed_displayed]
    exact bestPrompt_isSome (Guidance.prompts_ne_nil ready)
  · rw [firstDisplay, showDisplayed_isRaised]
    exact ready

theorem rechoose_displays {s : State} (h : s.Displays) : (rechoose s).Displays := by
  refine ⟨?_, by rw [rechoose_isRaised]; exact h.ready⟩
  unfold rechoose
  dsimp only
  split
  · exact h.displayed
  · split
    · exact h.displayed
    · rw [showDisplayed_displayed]
      exact Guidance.choice_isSome h.ready

theorem raiseWith_displays (p : Prompt) (f : PromptFields) (life : Nat) (confirm : Bool) {s : State} (h : s.Displays) :
    (raiseWith p f life confirm s).Displays := by
  refine ⟨?_, by rw [raiseWith_isRaised, h.ready]; simp⟩
  have ready : (s.guidance.raised p f life confirm).isRaised .laneReady = true := by
    rw [Guidance.isRaised_raised, h.ready, Bool.or_true]
  have chosen := rechoose_displays (s := s.setGuidance (s.guidance.raised p f life confirm)) ⟨h.displayed, ready⟩
  unfold raiseWith
  dsimp only
  split
  · rw [showDisplayed_displayed]
    exact chosen.displayed
  · exact chosen.displayed

theorem raise_displays (p : Prompt) (f : PromptFields) {s : State} (h : s.Displays) : (raise p f s).Displays := raiseWith_displays p f 0 false h

theorem updateFields_displays (p : Prompt) (f : PromptFields) {s : State} (h : s.Displays) : (updateFields p f s).Displays := by
  refine ⟨?_, by rw [updateFields_isRaised]; exact h.ready⟩
  unfold updateFields
  dsimp only
  split
  · rw [composePanel_displayed]
    exact h.displayed
  · exact h.displayed

theorem lower_displays (p : Prompt) {s : State} (h : s.Displays) : (lower p s).Displays := by
  have ready : (lower p s).guidance.isRaised .laneReady = true := by
    rw [lower_isRaised, h.ready]
    by_cases same : p = .laneReady <;> simp [same, Ne.symm]
  refine ⟨?_, ready⟩
  unfold lower at ready ⊢
  split at ready
  · rw [if_pos ‹_›]
    exact h.displayed
  · rw [if_neg ‹_›]
    split at ready
    · exact h.displayed
    · split at ready
      · rw [if_pos ‹_›]
        exact h.displayed
      · rw [if_neg ‹_›]
        rw [rechoose_isRaised] at ready
        exact (rechoose_displays (s := s.setGuidance { s.guidance with prompts := s.guidance.without p }) ⟨h.displayed, ready⟩).displayed

theorem lowerAll_displays (ps : List Prompt) {s : State} (h : s.Displays) : (lowerAll ps s).Displays := by
  induction ps generalizing s with
  | nil => exact h
  | cons p ps ih => exact ih (lower_displays p h)

theorem State.Displays.ite {c : Prop} [Decidable c] {s t : State} (h : s.Displays) (k : t.Displays) : (if c then s else t).Displays := by
  split
  · exact h
  · exact k

theorem lowerIfRaised_displays (p : Prompt) {s : State} (h : s.Displays) : (lowerIfRaised p s).Displays := .ite (lower_displays p h) h

theorem raiseOrUpdate_displays (p : Prompt) (f : PromptFields) {s : State} (h : s.Displays) : (raiseOrUpdate p f s).Displays :=
  .ite (.ite h (updateFields_displays p f h)) (raise_displays p f h)

theorem judgeEntry_displays {s : State} (h : s.Displays) : (judgeEntry s).Displays := by
  unfold judgeEntry
  dsimp only
  split
  · exact h
  · split
    · exact lowerIfRaised_displays _ (raiseOrUpdate_displays _ _ h)
    · exact .ite (lowerIfRaised_displays _ (lowerIfRaised_displays _ h)) (raiseOrUpdate_displays _ _ (lowerIfRaised_displays _ h))

theorem showDriveOn_displays {s : State} (h : s.Displays) : (showDriveOn s).Displays := .ite (lower_displays _ h) (raise_displays _ _ h)

theorem enterIdle_displays (k : Bool) {s : State} (h : s.Displays) : (enterIdle k s).Displays := by
  have lowered : (lowerAll idleLowers (if k then changeRoller (·.idled k) (cancelSeqTimer (writePhaseStreams .idle false s))
      else evalDiscardAxle (changeRoller (·.idled k) (cancelSeqTimer (writePhaseStreams .idle false s))))).Displays :=
    lowerAll_displays _ (.ite (h.congr (by simp)) (h.congr (by simp)))
  exact showDriveOn_displays (.ite lowered (raise_displays _ _ lowered))

theorem holdChanged_displays (wasHeld : Bool) {s : State} (h : s.Displays) : (holdChanged wasHeld s).Displays :=
  .ite (showDriveOn_displays (h.congr rfl)) h

theorem judgeRoleClash_displays {s : State} (h : s.Displays) : (judgeRoleClash s).Displays := by
  unfold judgeRoleClash
  dsimp only
  split
  · exact .ite h (holdChanged_displays _ (raise_displays _ _ (h.congr rfl)))
  · exact .ite (holdChanged_displays _ (lower_displays _ (h.congr rfl))) h

end Sys2Proof.Machine
end

section
/-! The end of start-up: what the blocks take, and what the rest of the step leaves of it (R41, R137, R176, R178). -/

namespace Sys2Proof.Machine

/-! ### Operations that leave what start-up's end has set -/

/-- The link, the calibration, the dimmer and PT1 stand, and of the blocks those alone change that an event can change. -/
structure KeepsSettings (s t : State) : Prop where
  only : s.onlyChanges eventBlocks t
  link : SameLink s t
  calib : t.eval.calib = s.eval.calib
  dimmer : t.timers.dimmer = s.timers.dimmer
  pt1 : t.timers.pt1 = s.timers.pt1

theorem KeepsSettings.refl (s : State) : KeepsSettings s s := ⟨s.onlyChanges_refl _, SameLink.refl s, rfl, rfl, rfl⟩

theorem KeepsSettings.after {s t u : State} (k : KeepsSettings t u) (h : KeepsSettings s t) : KeepsSettings s u where
  only := State.onlyChanges_trans h.only k.only
  link := k.link.after h.link
  calib := k.calib.trans h.calib
  dimmer := k.dimmer.trans h.dimmer
  pt1 := k.pt1.trans h.pt1

theorem KeepsSettings.ite {c : Prop} [Decidable c] {s t u : State} (h : KeepsSettings s t) (k : KeepsSettings s u) :
    KeepsSettings s (if c then t else u) := by
  split
  · exact h
  · exact k

theorem Within.keepsSettings {bs : List Block} {s t : State} (h : Within bs s t) (sub : bs ⊆ [.bus, .roller, .guidance, .cert]) :
    KeepsSettings s t := by
  have only : s.onlyChanges [.bus, .roller, .guidance, .cert] t := State.onlyChanges_mono h.1 sub
  have eval : t.eval = s.eval := only .eval (by simp)
  have timers : t.timers = s.timers := only .timers (by simp)
  exact ⟨State.onlyChanges_mono only (by simp), h.sameLink, by rw [eval], by rw [timers], by rw [timers]⟩

theorem presenceIfChanged_settings {s t : State} (h : KeepsSettings s t) (u : State) : KeepsSettings s (presenceIfChanged u t) :=
  .ite h (KeepsSettings.after ((requestPresence_within t).keepsSettings (by simp)) h)

theorem writePhaseStreams_timers (p : Phase) (pressure : Bool) (s : State) :
    ∃ pt : JoinedTimer, (writePhaseStreams p pressure s).timers = { s.timers with pt0 := pt } := by
  have pace (r : State) (same : r.timers = s.timers) : ∃ pt : JoinedTimer, (pacePhase p r).timers = { s.timers with pt0 := pt } := by
    unfold pacePhase
    rw [← same]
    split
    · exact ⟨_, rfl⟩
    · exact ⟨_, rfl⟩
    · exact ⟨_, rfl⟩
  unfold writePhaseStreams
  dsimp only
  split
  · exact pace _ (by simp)
  · exact ⟨_, rfl⟩

/-- IDLE ends the phase timer and paces nothing but PT0 (R73, R96). -/
theorem enterIdle_timers (k : Bool) (s : State) :
    ∃ pt : JoinedTimer, (enterIdle k s).timers = { s.timers with pt0 := pt, seqTimer := s.timers.seqTimer.cancel } := by
  have shown (r : State) : (if r.measures then r else raise .calibrationMissing {} r).timers = r.timers := by split <;> simp
  obtain ⟨pt, streams⟩ := writePhaseStreams_timers .idle false s
  refine ⟨pt, ?_⟩
  unfold enterIdle
  dsimp only
  rw [(showDriveOn_frame _).2.2.2.2.1, shown]
  cases k <;> simp [streams, PhaseTimer.cancel]

theorem enterIdle_calib (k : Bool) (s : State) : (enterIdle k s).eval.calib = s.eval.calib := by
  have same := (enterIdle_context k s).calib
  cases k <;> exact same

theorem enterIdle_settings (k : Bool) (s : State) : KeepsSettings s (enterIdle k s) where
  only := (enterIdle_within k s).event (by simp)
  link := (enterIdle_within k s).sameLink
  calib := enterIdle_calib k s
  dimmer := by obtain ⟨pt, timers⟩ := enterIdle_timers k s; rw [timers]
  pt1 := by obtain ⟨pt, timers⟩ := enterIdle_timers k s; rw [timers]

theorem judgeRoleClash_settings (s : State) : KeepsSettings s (judgeRoleClash s) := by
  have roller (x : Roller) : KeepsSettings s (s.setRoller x) := (Within.setRoller s x).keepsSettings (by simp)
  have raised (p : Prompt) (f : PromptFields) (r : State) : KeepsSettings r (raise p f r) := (raise_within _ _ r).keepsSettings (by simp)
  have lowered (p : Prompt) (r : State) : KeepsSettings r (lower p r) := (lower_within _ r).keepsSettings (by simp)
  have held (b : Bool) (r : State) : KeepsSettings r (holdChanged b r) :=
    .ite (.after (.ite (lowered _ _) (raised _ _ _)) ((Within.setRoller r _).keepsSettings (by simp))) (.refl r)
  unfold judgeRoleClash
  dsimp only
  split
  · exact .ite (.refl s) (.after (held _ _) (.after (raised _ _ _) (roller _)))
  · exact .ite (.after (held _ _) (.after (lowered _ _) (roller _))) (.refl s)

theorem startSequence_settings (s : State) : KeepsSettings s (startSequence s) := by
  unfold startSequence
  split
  · exact .after (enterIdle_settings _ _) (judgeRoleClash_settings s)
  · exact .ite (.refl s) ((raise_within _ _ s).keepsSettings (by simp))
  · exact .refl s

theorem failPage_settings (s : State) : KeepsSettings s (failPage s) :=
  ⟨(failPage_within s).event (by simp), (failPage_within s).sameLink, rfl, rfl, rfl⟩

theorem paperGone_settings (s : State) : KeepsSettings s (paperGone s) := by
  have gone : KeepsSettings s (raise .paperOut {} (s.setCert { s.cert with paperOut := true })) :=
    .after ((raise_within _ _ _).keepsSettings (by simp)) ((Within.setCert s _).keepsSettings (by simp))
  have failed := KeepsSettings.ite (c := (raise .paperOut {} (s.setCert { s.cert with paperOut := true })).cert.sendsPage = true)
    (.after (failPage_settings _) gone) gone
  exact .ite failed (.after ((recheck_within _).keepsSettings (by simp))
    (.after ((requestPresence_within _).keepsSettings (by simp)) failed))

theorem startCertUnit_settings (s : State) : KeepsSettings s (startCertUnit s) :=
  .ite (.after ((recheck_within _).keepsSettings (by simp)) (.ite (paperGone_settings s) (.refl s))) (.refl s)

theorem unmeasure_calib (s : State) : (unmeasure s).eval.calib = s.eval.calib := by
  obtain ⟨-, -, -, same⟩ := closePlateStream_chain s
  have kept : (closePlateStream s).eval.discardCrossing.calib = (closePlateStream s).eval.calib := by
    unfold Eval.discardCrossing
    split <;> rfl
  have discarded : (unmeasure s).eval = (closePlateStream s).eval.discardCrossing := by simp [unmeasure, dropMeasurement]
  rw [discarded, kept, same.calib]

theorem plateStopped_settings (s : State) : KeepsSettings s (plateStopped s) :=
  .ite ⟨(unmeasure_within s).event (by simp), (unmeasure_within s).sameLink, unmeasure_calib s, by simp, by simp⟩ (.refl s)

theorem plateStopped_guidance (s : State) : (plateStopped s).guidance = s.guidance := by
  unfold plateStopped
  split <;> simp

theorem plateStopped_timers (s : State) : (plateStopped s).timers = s.timers := by
  unfold plateStopped
  split <;> simp

theorem plateStopped_roller (s : State) : (plateStopped s).roller = s.roller := by
  unfold plateStopped
  split <;> simp

/-! ### The stop input taken by a resting station -/

/-- A stop in IDLE shows that the lane does not take axles (R102, R117). -/
theorem rollerStopped_resting {s : State} (idle : s.roller.phase = .idle) :
    rollerStopped s = showDriveOn (s.setRoller { s.roller with wheelCount := 0 }) := by
  rw [rollerStopped, idle]

/-- What a step keeps of a station that rests: its settings, the rest, a prompt on the display, and the prompts of the station's state. -/
structure KeepsRest (s t : State) : Prop where
  settings : KeepsSettings s t
  pt0 : t.timers.pt0 = s.timers.pt0
  phase : t.roller.phase = s.roller.phase
  displays : s.Displays → t.Displays
  prompts : ∀ q : Prompt, q.outlastsTicket = true → s.guidance.isRaised q = true → t.guidance.isRaised q = true

theorem KeepsRest.refl (s : State) : KeepsRest s s := ⟨.refl s, rfl, rfl, id, fun _ _ h => h⟩

theorem KeepsRest.after {s t u : State} (k : KeepsRest t u) (h : KeepsRest s t) : KeepsRest s u where
  settings := k.settings.after h.settings
  pt0 := k.pt0.trans h.pt0
  phase := k.phase.trans h.phase
  displays d := k.displays (h.displays d)
  prompts q lasts r := k.prompts q lasts (h.prompts q lasts r)

theorem KeepsRest.ite {c : Prop} [Decidable c] {s t u : State} (h : KeepsRest s t) (k : KeepsRest s u) : KeepsRest s (if c then t else u) := by
  split
  · exact h
  · exact k

theorem KeepsRest.of_guidance {s t : State} (h : KeepsSettings s t) (pt0 : t.timers.pt0 = s.timers.pt0)
    (phase : t.roller.phase = s.roller.phase) (same : t.guidance = s.guidance) : KeepsRest s t :=
  ⟨h, pt0, phase, fun d => d.congr same, fun q _ r => by rw [same]; exact r⟩

theorem raise_rest (p : Prompt) (f : PromptFields) (s : State) : KeepsRest s (raise p f s) where
  settings := (raise_within p f s).keepsSettings (by simp)
  pt0 := by simp
  phase := by simp
  displays := raise_displays p f
  prompts q _ r := by rw [raise_isRaised, r, Bool.or_true]

theorem requestPresence_rest (s : State) : KeepsRest s (requestPresence s) :=
  .of_guidance ((requestPresence_within s).keepsSettings (by simp)) (by simp) (by simp) (by simp)

theorem showDriveOn_rest (s : State) : KeepsRest s (showDriveOn s) where
  settings := .ite ((lower_within _ s).keepsSettings (by simp)) ((raise_within _ _ s).keepsSettings (by simp))
  pt0 := by simp
  phase := by simp
  displays := showDriveOn_displays
  prompts q lasts r := by
    have other : q ≠ .driveOn := by rintro rfl; revert lasts; decide
    rw [showDriveOn_isRaised other, r]

theorem judgeEntry_rest (s : State) : KeepsRest s (judgeEntry s) where
  settings := (judgeEntry_within s).keepsSettings (by simp)
  pt0 := by simp
  phase := by simp
  displays := judgeEntry_displays
  prompts q lasts r := by
    have wait : q ≠ .wait := by rintro rfl; revert lasts; decide
    have driveOn : q ≠ .driveOn := by rintro rfl; revert lasts; decide
    rw [judgeEntry_isRaised wait driveOn, r]

theorem paperGone_rest (s : State) : KeepsRest s (paperGone s) := by
  have gone : KeepsRest s (raise .paperOut {} (s.setCert { s.cert with paperOut := true })) :=
    .after (raise_rest _ _ _) (.of_guidance ((Within.setCert s _).keepsSettings (by simp)) rfl rfl rfl)
  have failed := KeepsRest.ite (c := (raise .paperOut {} (s.setCert { s.cert with paperOut := true })).cert.sendsPage = true)
    (.after (.of_guidance (failPage_settings _) rfl rfl rfl) gone) gone
  exact .ite failed (.after (.of_guidance ((recheck_within _).keepsSettings (by simp)) (by simp) (by simp) (by simp))
    (.after (requestPresence_rest _) failed))

theorem startCertUnit_rest (s : State) : KeepsRest s (startCertUnit s) :=
  .ite (.after (.of_guidance ((recheck_within _).keepsSettings (by simp)) (by simp) (by simp) (by simp)) (.ite (paperGone_rest s) (.refl s))) (.refl s)

/-- The report of a stop at a station that rests. -/
theorem stopReported_rest (c : StopCause) (n : Nat) {s : State} (idle : s.rollerActive = true → s.roller.phase = .idle) :
    KeepsRest s (stopReported c n s) := by
  have latched : KeepsRest s (s.setBus { s.bus with latch := s.bus.latch.stop c n }) :=
    .of_guidance ⟨setBus_changes s _, ⟨rfl, rfl, rfl, rfl⟩, rfl, rfl, rfl⟩ rfl rfl rfl
  have roller : KeepsRest s (onRoller rollerStopped (s.setBus { s.bus with latch := s.bus.latch.stop c n })) := by
    unfold onRoller
    split
    · rename_i active
      rw [rollerStopped_resting (s := s.setBus { s.bus with latch := s.bus.latch.stop c n }) (idle active)]
      exact .after (showDriveOn_rest _) (.after (.of_guidance ((Within.setRoller _ _).keepsSettings (by simp)) rfl rfl rfl) latched)
    · exact latched
  exact .ite (.after (.of_guidance (plateStopped_settings _) (by rw [plateStopped_timers]) (by rw [plateStopped_roller]) (plateStopped_guidance _)) roller) roller

theorem setLatch_rest (c : StopCause) (n : Nat) {s : State} (idle : s.rollerActive = true → s.roller.phase = .idle) :
    KeepsRest s (setLatch c n s) := by
  cases h : s.bus.latch.stopped with
  | true =>
    rw [setLatch_stopped h]
    refine KeepsRest.after (t := s.setBus { s.bus with latch := s.bus.latch.stop c n })
      ⟨(updateFields_within _ _ _).keepsSettings (by simp), by simp, by simp, updateFields_displays _ _, fun q _ r => by
        rw [updateFields_isRaised, r]⟩ ?_
    exact .of_guidance ⟨setBus_changes s _, ⟨rfl, rfl, rfl, rfl⟩, rfl, rfl, rfl⟩ rfl rfl rfl
  | false =>
    rw [setLatch_moving h]
    have shown := KeepsRest.after (raise_rest .laneStopped (stopFields c n) _) (stopReported_rest c n idle)
    exact .ite shown (.after (requestPresence_rest _) shown)

theorem startStopInput_rest {s : State} (idle : s.rollerActive = true → s.roller.phase = .idle) : KeepsRest s (startStopInput s) := by
  have queued : KeepsRest s (queueFrame (.laneStop .stopInput) s) :=
    .of_guidance ((queueFrame_within _ s).keepsSettings (by simp)) (by simp) (by simp) (by simp)
  have stopped : KeepsRest s (stopLane .stopInput s) := .after (setLatch_rest _ _ idle) queued
  have latched (r : State) : KeepsRest r (r.setBus { r.bus with latch := { r.bus.latch with localCause := true } }) :=
    .of_guidance ⟨setBus_changes r _, ⟨rfl, rfl, rfl, rfl⟩, rfl, rfl, rfl⟩ rfl rfl rfl
  exact .ite (.ite (.refl s) (.after (latched _) stopped)) (.refl s)

end Sys2Proof.Machine
end

section
/-! The stop input at a tick and at the end of start-up, and the end of start-up as a whole (R41 to R43, R176, R178). -/

namespace Sys2Proof.Machine

/-! ### The end of start-up, as far as the stop input -/

/-- The station with its settled mode, before any block takes its settings (R178). -/
def State.settled (s : State) : State :=
  (s.setBus { s.bus with mode := s.settledMode }).setStartUp { s.startUp with ended := true, endDue := false }

/-- The station after the blocks, the display and the sequence have begun (R176). -/
def State.begun (s : State) : State := startSequence (firstDisplay (takeSettings s.settled))

/-- The station as the stop input finds it. -/
def State.judged (s : State) : State := judgeEntry (startCertUnit s.begun)

theorem endStartUp_eq (s : State) : endStartUp s = requestPresence (startStopInput s.judged) := rfl

theorem exec_startUpEnd {s : State} (ready : s.ready .startUpEnd = true) : exec .startUpEnd s = .next (endStartUp s) :=
  (exec_named (.startUpEnd, .startUpEnd) (by decide) s).trans (congrArg _ (named_ready ready))

theorem begun_settings (s : State) : KeepsSettings (takeSettings s.settled) s.begun :=
  .after (startSequence_settings _) ((firstDisplay_within _).keepsSettings (by simp))

theorem judged_rest (s : State) : KeepsRest s.begun s.judged := .after (judgeEntry_rest _) (startCertUnit_rest _)

theorem judged_settings (s : State) : KeepsSettings (takeSettings s.settled) s.judged := .after (judged_rest s).settings (begun_settings s)

theorem judged_startUp (s : State) : s.judged.startUp = { s.startUp with ended := true, endDue := false } :=
  (judged_settings s).only .startUp (by simp)

theorem judged_mode (s : State) : s.judged.bus.mode = s.settledMode := (judged_settings s).link.mode

theorem settledMode_on (s : State) : s.settledMode ≠ .starting := by
  unfold State.settledMode
  split_ifs <;> simp

theorem startSequence_within (s : State) : Within rollerBlocks s (startSequence s) := by
  unfold startSequence
  split
  · exact Within.after (enterIdle_within _ _) ((judgeRoleClash_within s).mono (by simp))
  · exact Within.ite (Within.refl _ s) (raise_roller _ _ s)
  · exact Within.refl _ s

theorem startCertUnit_within (s : State) : Within printBlocks s (startCertUnit s) :=
  Within.ite (Within.after ((recheck_within _).mono (by simp)) (Within.ite (paperGone_within s) (Within.refl _ s))) (Within.refl _ s)

/-- Nothing before the stop input touches the latch. -/
theorem judged_latch (s : State) : s.judged.bus.latch = s.bus.latch := by
  obtain ⟨-, -, -, -, judge, -⟩ := (judgeEntry_within (startCertUnit s.begun)).sameBus
  obtain ⟨-, -, -, -, cert, -⟩ := (startCertUnit_within s.begun).sameBus
  obtain ⟨-, -, -, -, sequence, -⟩ := (startSequence_within (firstDisplay (takeSettings s.settled))).sameBus
  obtain ⟨-, -, -, -, display, -⟩ := (firstDisplay_within (takeSettings s.settled)).sameBus
  exact judge.trans (cert.trans (sequence.trans display))

theorem begun_idle {s : State} (role : s.startUp.role = .roller) : s.begun.roller.phase = .idle := by
  have same : (firstDisplay (takeSettings s.settled)).startUp.role = .roller := by
    rw [(firstDisplay_within _).1 .startUp (by simp)]
    exact role
  rw [State.begun, startSequence, same]
  simp [Roller.idled]

theorem judged_idle {s : State} (role : s.startUp.role = .roller) : s.judged.roller.phase = .idle := (judged_rest s).phase.trans (begun_idle role)

theorem judged_resting {s : State} (active : s.judged.rollerActive = true) : s.judged.roller.phase = .idle := by
  rw [State.rollerActive, Bool.and_eq_true, beq_iff_eq, judged_startUp] at active
  exact judged_idle active.2

/-! ### The stop input (R41, R42) -/

theorem stopInputActive_on {s : State} (on : s.bus.mode ≠ .starting) :
    stopInputActive s = (stopLane .stopInput s).setBus { (stopLane .stopInput s).bus with
      latch := { (stopLane .stopInput s).bus.latch with localCause := true } } := by
  rw [stopInputActive, if_neg on]

theorem stopInputActive_latch {s : State} (on : s.bus.mode ≠ .starting) :
    (stopInputActive s).bus.latch = ⟨true, some .stopInput, some s.startUp.ownNumber, true⟩ := by
  rw [stopInputActive_on on]
  simp [stopLane_latch, Latch.stop]

theorem stopInputActive_keepsQueue {s : State} (on : s.bus.mode ≠ .starting) :
    KeepsQueue (queueFrame (.laneStop .stopInput) s) (stopInputActive s) := by
  rw [stopInputActive_on on]
  exact KeepsQueue.after (t := stopLane .stopInput s) (.of_eq rfl) (setLatch_keepsQueue _ _ _)

theorem stopInputActive_queues {s r : State} (can : r.bus.canQueue = s.bus.canQueue) (on : r.bus.mode ≠ .starting) :
    s.queues (stopInputActive r) (.laneStop .stopInput) := queues_of_keeps can rfl (stopInputActive_keepsQueue on)

theorem stopInputActive_isRaised {s : State} (on : s.bus.mode ≠ .starting) (moving : s.bus.latch.stopped = false) :
    (stopInputActive s).guidance.isRaised .laneStopped = true := by
  rw [stopInputActive_on on]
  have queued : (queueFrame (.laneStop .stopInput) s).bus.latch.stopped = false := by simpa using moving
  exact setLatch_isRaised queued .stopInput s.startUp.ownNumber

theorem clearLatch_keepsQueue (s : State) : KeepsQueue s (clearLatch s) := by
  have cleared : KeepsQueue s (s.setBus { s.bus with latch := { s.bus.latch with stopped := false, localCause := false } }) := .of_eq rfl
  have held (r : State) : KeepsQueue r (onRoller (holdChanged s.idleHeld) r) := (onRoller_within (holdChanged_within _) r).keepsQueue
  unfold clearLatch
  refine .ite (presenceIfChanged_keepsQueue ?_ s) cleared
  exact KeepsQueue.after (lower_within _ _).keepsQueue (KeepsQueue.after (held _) cleared)

/-- The state in which a line's event finds the station at a tick: the clock and the filter have moved. -/
theorem sampled_gear (s : State) (c : Clock) (f : Filter) : SameGear s ((s.setClock c).setFilter f) := ⟨rfl, rfl, rfl, rfl, rfl, rfl⟩

/-- Settles O25: the input's event at its tick, and the level taken at the end of start-up. -/
theorem stopInputSetsAndClearsTheLatch : Obligations.StopInputSetsAndClearsTheLatch := by
  refine ⟨fun s x first quiet law only => ?_, fun s ready => ?_⟩
  · obtain ⟨f, g, -, run⟩ := tick32_onlyLine quiet only first
    let r : State := (s.setClock s.clock.tick32).setFilter f
    have gear : r.Geared := (State.motorLaw_iff.mp law).congr (sampled_gear s _ f)
    have still : s.onlyChanges [.clock, .filter] (r.setFilter g) := State.onlyChanges_after
      (State.onlyChanges_mono (setFilter_changes _ g) (by simp))
      (State.onlyChanges_after (State.onlyChanges_mono (setFilter_changes _ f) (by simp))
        (State.onlyChanges_mono (Within.setClock s _).1 (by simp)))
    refine ⟨_, run, fun on => ⟨fun active => ?_, fun inactive cause => ?_⟩, fun inactive clear => ?_, fun starting active => ?_⟩
    · have event : lineEvent .stopIn (lineLevel x .stopIn) r = stopInputActive r := by
        rw [show lineLevel x .stopIn = true from active]; rfl
      have latch := stopInputActive_latch (s := r) on
      have rest := (stopInputActive_geared gear).stopped_idle (by rw [latch])
      rw [show ((s.setClock s.clock.tick32).setFilter f) = r from rfl, event]
      exact ⟨latch, rest.2, stopInputActive_queues (r := r) rfl on⟩
    · have event : lineEvent .stopIn (lineLevel x .stopIn) r = clearLatch (queueFrame .laneResume r) := by
        rw [show lineLevel x .stopIn = false from inactive]
        exact if_pos cause
      rw [show ((s.setClock s.clock.tick32).setFilter f) = r from rfl, event]
      refine ⟨?_, queues_of_keeps (r := r) rfl rfl (KeepsQueue.after (t := clearLatch (queueFrame .laneResume r)) (.of_eq rfl)
        (clearLatch_keepsQueue _))⟩
      rw [show ((clearLatch (queueFrame .laneResume r)).setFilter g).bus = (clearLatch (queueFrame .laneResume r)).bus from rfl, clearLatch_latch]
      simp [r]
    · have event : lineEvent .stopIn (lineLevel x .stopIn) r = r := by
        rw [show lineLevel x .stopIn = false from inactive]
        exact if_neg (by rw [show r.bus.latch.localCause = false from clear]; simp)
      rw [show ((s.setClock s.clock.tick32).setFilter f) = r from rfl, event]
      exact still
    · have event : lineEvent .stopIn (lineLevel x .stopIn) r = r := by
        rw [show lineLevel x .stopIn = true from active]
        exact if_pos starting
      rw [show ((s.setClock s.clock.tick32).setFilter f) = r from rfl, event]
      exact still
  · have mode : s.judged.bus.mode ≠ .starting := by rw [judged_mode]; exact settledMode_on s
    have filter : s.judged.filter = s.filter := (judged_settings s).only .filter (by simp)
    have own : s.judged.startUp.ownNumber = s.startUp.ownNumber := by rw [judged_startUp]
    refine ⟨_, exec_startUpEnd ready, fun active => ?_, fun inactive => ?_⟩
    · have taken : startStopInput s.judged = stopInputActive s.judged := if_pos (by rw [filter]; exact active)
      rw [endStartUp_eq, taken]
      refine ⟨by simp [stopInputActive_latch mode, own], fun moving => ?_, fun open' room => ?_⟩
      · simpa using stopInputActive_isRaised mode (by rw [judged_latch]; exact moving)
      · have can : s.judged.bus.canQueue = true := by
          simpa [Bus.canQueue, settledMode_on, judged_mode, stopInputActive_on mode, (stopLane_link .stopInput s.judged).mode] using open'
        have kept : KeepsQueue (queueFrame (.laneStop .stopInput) s.judged) (requestPresence (stopInputActive s.judged)) :=
          KeepsQueue.after (requestPresence_within _).keepsQueue (stopInputActive_keepsQueue mode)
        exact queues_of_keeps (s := s.judged) rfl rfl kept can room
    · have passed : startStopInput s.judged = s.judged := if_neg (by rw [filter, inactive]; simp)
      rw [endStartUp_eq, passed]
      simpa using judged_latch s

end Sys2Proof.Machine
end

section
/-! The end of start-up settles the station: mode, settings, phase, display and the PRESENCE asked for (R176, R178). -/

namespace Sys2Proof.Machine

/-! ### The PRESENCE asked for (R31, R33) -/

/-- A PRESENCE asked for stands in the queue, in the place of one that waits or as any frame, unless the queue refuses or is full. -/
theorem Bus.mem_enqueuePresence {b : Bus} (open' : b.canQueue = true) (f : LaneFrame)
    (room : (b.enqueuePresence f).queue.length < Config.queueSize) : ∃ q ∈ (b.enqueuePresence f).queue, q.frame = f := by
  unfold Bus.enqueuePresence at room ⊢
  rw [open', Bool.not_true, if_neg Bool.false_ne_true] at room ⊢
  split at room
  · rename_i waits
    rw [if_pos waits]
    obtain ⟨q, mem, here⟩ := List.any_eq_true.mp waits
    exact ⟨{ q with frame := f }, List.mem_map.mpr ⟨q, mem, by rw [if_pos here]⟩, rfl⟩
  · rw [if_neg ‹_›]
    exact ⟨_, Bus.mem_enqueue open' f room, rfl⟩

theorem requestPresence_presenceFrame (s : State) : (requestPresence s).presenceFrame = s.presenceFrame := by
  have key : (requestPresence s).presenceFrame =
      .presence s.startUp.role.peerRole (if (requestPresence s).bus.latch.stopped then .stopped
        else if (requestPresence s).bus.mode = .degraded then .degraded else .ready) s.activity s.currentTicket s.printerState := rfl
  rw [key, (requestPresence_frame s).1.2.1.1, (requestPresence_frame s).1.2.1.2.2.2.2.1]
  rfl

/-- After a PRESENCE is asked for, one with the fields as they stand is queued (R33). -/
theorem requestPresence_queued {s : State} (open' : (requestPresence s).bus.canQueue = true) (room : (requestPresence s).bus.queue.length < 8) :
    ∃ q ∈ (requestPresence s).bus.queue, q.frame = (requestPresence s).presenceFrame := by
  rw [requestPresence_presenceFrame]
  exact Bus.mem_enqueuePresence (by simpa using open') _ room

/-! ### What the end of start-up leaves -/

theorem endStartUp_rest (s : State) : KeepsRest s.judged (endStartUp s) :=
  .after (requestPresence_rest _) (startStopInput_rest judged_resting)

theorem endStartUp_settings (s : State) : KeepsSettings (takeSettings s.settled) (endStartUp s) :=
  .after (endStartUp_rest s).settings (judged_settings s)

theorem takeSettings_calib (s : State) : (takeSettings s).eval.calib = s.startUp.block.map (·.2.calibration) := rfl

theorem takeSettings_dimmer (s : State) : (takeSettings s).timers.dimmer = startDimmer s.startUp.block s.filter.accepted.dim := by
  unfold takeSettings Timers.begin
  dsimp only [State.setTimers, State.setCounters, State.setEval]
  split <;> rfl

theorem takeSettings_roller {s : State} (role : s.startUp.role = .roller) (block : s.startUp.block.isSome = true) :
    (takeSettings s).counters.revL.running = true ∧ (takeSettings s).counters.revR.running = true ∧
    (takeSettings s).timers.pt1 = ⟨1999, 1999, true⟩ := by
  obtain ⟨b, some⟩ := Option.isSome_iff_exists.mp block
  simp [takeSettings, Counters.begin, Timers.begin, role, some, RevCounter.begin, JoinedTimer.startWith, JoinedTimer.start, Config.pt1Reload]

theorem takeSettings_plate {s : State} (role : s.startUp.role = .plate) (block : s.startUp.block.isSome = true) :
    (takeSettings s).timers.pt0 = ⟨499, 499, true⟩ := by
  obtain ⟨b, some⟩ := Option.isSome_iff_exists.mp block
  simp [takeSettings, Counters.begin, Timers.begin, role, some, JoinedTimer.startWith, JoinedTimer.start, Config.pt0Reload]

theorem begun_pt0 {s : State} (role : s.startUp.role = .plate) : s.begun.timers.pt0 = (takeSettings s.settled).timers.pt0 := by
  have same : (firstDisplay (takeSettings s.settled)).startUp.role = .plate := by
    rw [(firstDisplay_within _).1 .startUp (by simp)]
    exact role
  rw [State.begun, startSequence, same]
  dsimp only
  split <;> simp

theorem begun_displays {s : State} (law : s.promptLaw = true) : s.begun.Displays := by
  have ready : s.guidance.isRaised .laneReady = true := (Bool.and_eq_true _ _ ▸ law).2
  have first : (firstDisplay (takeSettings s.settled)).Displays := firstDisplay_displays ready
  unfold State.begun startSequence
  split
  · exact enterIdle_displays _ (judgeRoleClash_displays first)
  · exact .ite first (raise_displays _ _ first)
  · exact first

/-- IDLE without a calibration shows it (R79, R102). -/
theorem enterIdle_missing {k : Bool} {s : State} (unset : s.eval.calib = none) :
    (enterIdle k s).guidance.isRaised .calibrationMissing = true := by
  have streams : (writePhaseStreams .idle false s).eval.calib = none := (writePhaseStreams_context _ _ s).calib.trans unset
  unfold enterIdle
  dsimp only
  rw [showDriveOn_isRaised (by decide), if_neg]
  · rw [raise_isRaised, decide_eq_true rfl, Bool.true_or]
  · cases k <;> simp [State.measures, streams, Eval.discardAxle]

theorem begun_missing {s : State} (role : s.startUp.role ≠ .panel) (block : s.startUp.block = none) :
    s.begun.guidance.isRaised .calibrationMissing = true := by
  have startUp : (firstDisplay (takeSettings s.settled)).startUp = s.settled.startUp := (firstDisplay_within _).1 .startUp (by simp)
  have unset : (firstDisplay (takeSettings s.settled)).eval.calib = none := by
    rw [(firstDisplay_within _).1 .eval (by simp), takeSettings_calib]
    simp [State.settled, block]
  unfold State.begun startSequence
  rw [startUp]
  split
  · exact enterIdle_missing ((judgeRoleClash_settings _).calib.trans unset)
  · rw [if_neg (by rw [State.measures, unset]; simp), raise_isRaised, decide_eq_true rfl, Bool.true_or]
  · rename_i panel
    exact absurd panel role

/-- Settles O6: the blocks take their settings first, and neither the sequence nor the certificate unit nor the stop input undoes them. -/
theorem startUpEndSettlesTheStation : Obligations.StartUpEndSettlesTheStation := by
  intro s ready
  have kept := endStartUp_settings s
  have rest := endStartUp_rest s
  have mode : (endStartUp s).bus.mode = s.settledMode := kept.link.mode
  have dimmer : (endStartUp s).timers.dimmer = startDimmer s.startUp.block s.filter.accepted.dim :=
    kept.dimmer.trans (takeSettings_dimmer _)
  have counters : (endStartUp s).counters = (takeSettings s.settled).counters := kept.only .counters (by simp)
  refine ⟨_, exec_startUpEnd ready, kept.only .startUp (by simp), fun silent => ?_, fun on own block => ?_, fun on own block => ?_,
    requestPresence_queued, kept.calib, by rw [dimmer]; rfl, fun law => ?_, fun block => ?_, fun role => ⟨?_, fun block => ?_⟩,
    fun role block => ?_, fun role block => ?_, kept.link.peers, kept.only .archive (by simp), kept.only .filter (by simp),
    kept.only .clock (by simp)⟩
  · rw [mode, State.settledMode]
    rcases silent with listen | none
    · rw [if_pos listen]
    · rw [if_pos none, ite_self]
  · rw [mode, State.settledMode, if_neg on, if_neg own, if_pos block]
  · rw [mode, State.settledMode, if_neg on, if_neg own, block]
    rfl
  · exact (rest.displays ((judged_rest s).displays (begun_displays law))).displayed
  · rw [dimmer, block]
    exact ⟨rfl, rfl, rfl⟩
  · exact rest.phase.trans (judged_idle role)
  · rw [counters, kept.pt1]
    exact takeSettings_roller (s := s.settled) role block
  · rw [rest.pt0, (judged_rest s).pt0, begun_pt0 role]
    exact takeSettings_plate (s := s.settled) role block
  · have lasts : Prompt.calibrationMissing.outlastsTicket = true := by decide
    exact rest.prompts _ lasts ((judged_rest s).prompts _ lasts (begun_missing role block))

end Sys2Proof.Machine
end

section
/-! The two reads of start-up: the copies of the start-up block, and the scan of the archive with the newest number it holds
(R163, R169, R171, R174, R175, R179, R183). -/

namespace Sys2Proof.Machine

/-! ### The start-up block (R174, R175, R183) -/

theorem StartUpBlock.valid_iff (b : StartUpBlock) : b.valid = true ↔
    (∀ g ∈ [b.gfL, b.gfR, b.gwL, b.gwR, b.gp, b.gs], 1 ≤ g ∧ g ≤ 8000) ∧ (∀ z ∈ [b.zwL, b.zwR, b.zp, b.zs], z ≤ 4095) ∧
    1 ≤ b.nnom ∧ b.nnom ≤ 1000 ∧ (∀ n ∈ [b.pprL, b.pprR], 1 ≤ n ∧ n ≤ 4095) := by
  simp [StartUpBlock.valid, within1, and_assoc]

theorem goodCopy_eq_some_iff {c : List Byte} {b : StartUpBlock} : goodCopy c = some b ↔
    c.length = 128 ∧ copyChecks c = true ∧ (blockOfCopy c).valid = true ∧ blockOfCopy c = b := by
  unfold goodCopy
  simp [and_assoc]

theorem blockOfCopy_eq_iff {c : List Byte} {b : StartUpBlock} : blockOfCopy c = b ↔
    b.serial = c.take 10 ∧ b.laneName = (c.drop 10).take 16 ∧ b.approval = (c.drop 26).take 12 ∧
    b.gfL = wordAt c 38 ∧ b.gfR = wordAt c 40 ∧ b.gwL = wordAt c 42 ∧ b.gwR = wordAt c 44 ∧ b.zwL = wordAt c 46 ∧
    b.zwR = wordAt c 48 ∧ b.gp = wordAt c 50 ∧ b.zp = wordAt c 52 ∧ b.gs = wordAt c 54 ∧ b.zs = wordAt c 56 ∧
    b.nnom = wordAt c 58 ∧ b.pprL = wordAt c 60 ∧ b.pprR = wordAt c 62 ∧
    b.lampPeriod = byteAt c 64 ∧ b.dayDuty = byteAt c 65 ∧ b.nightDuty = byteAt c 66 := by
  cases b
  simp only [blockOfCopy, copyWord, StartUpBlock.mk.injEq, eq_comm]

theorem blockInUse_some {c1 c2 c3 : List Byte} {b : StartUpBlock} :
    (goodCopy c1 = some b → blockInUse c1 c2 c3 = some (1, b)) ∧
    (goodCopy c2 = some b → goodCopy c1 = none → blockInUse c1 c2 c3 = some (2, b)) ∧
    (goodCopy c3 = some b → goodCopy c1 = none → goodCopy c2 = none → blockInUse c1 c2 c3 = some (3, b)) := by
  unfold blockInUse
  exact ⟨fun first => by rw [first], fun second bad => by rw [bad, second], fun third bad worse => by rw [bad, worse, third]; rfl⟩

theorem blockInUse_none {c1 c2 c3 : List Byte} (bad1 : goodCopy c1 = none) (bad2 : goodCopy c2 = none) (bad3 : goodCopy c3 = none) :
    blockInUse c1 c2 c3 = none := by
  rw [blockInUse, bad1, bad2, bad3]
  rfl

/-! ### A slot read by the scan (R169, R171) -/

theorem SlotStore.ne_blank_of_checks {x : SlotStore} {n : CertNo} (h : x.header = .checks n) : x ≠ SlotStore.blank := by
  rintro rfl
  cases h

theorem SlotStore.content_eq_some {x : SlotStore} {n : CertNo} {c : CertContent} {crc : BitVec 16} (header : x.header = .checks n)
    (body : x.body = .written c crc) (checks : crc = crcBytes (certBytes n ++ c.body)) : x.content = some { c with number := n } := by
  unfold SlotStore.content
  rw [header, body]
  exact if_pos checks.symm

theorem SlotStore.content_eq_none {x : SlotStore} {n : CertNo} (header : x.header = .checks n)
    (spoiled : ∀ c crc, x.body = .written c crc → crc ≠ crcBytes (certBytes n ++ c.body)) : x.content = none := by
  unfold SlotStore.content
  split
  · rename_i m c crc checks body
    have same : n = m := by rw [header] at checks; cases checks; rfl
    exact if_neg fun h => spoiled c crc body (same ▸ h.symm)
  · rfl

theorem scanRow_blank {x : SlotStore} (h : x = SlotStore.blank) : scanRow x = ⟨.erased, none, 0, 0⟩ := by
  rw [scanRow, if_pos h]
  rfl

theorem scanRow_record {x : SlotStore} {n : CertNo} {c : CertContent} (header : x.header = .checks n) (content : x.content = some c) :
    scanRow x = ⟨.record, some n, x.marks.countP MarkCell.holdsMark, x.marks.countP (· ≠ .unused)⟩ := by
  rw [scanRow, if_neg (SlotStore.ne_blank_of_checks header), header, content]

theorem scanRow_bad {x : SlotStore} {n : CertNo} (header : x.header = .checks n) (content : x.content = none) :
    scanRow x = ⟨.bad, some n, 0, 0⟩ := by
  rw [scanRow, if_neg (SlotStore.ne_blank_of_checks header), header, content]

theorem scanRow_unnumbered {x : SlotStore} (header : ∀ n, x.header ≠ .checks n) (used : x ≠ SlotStore.blank) :
    scanRow x = ⟨.bad, none, 0, 0⟩ := by
  rw [scanRow, if_neg used]
  split
  · rename_i n _ checks _
    exact absurd checks (header n)
  · rename_i n checks _
    exact absurd checks (header n)
  · rfl

theorem countP_holdsMark (ms : List MarkCell) :
    ms.countP MarkCell.holdsMark = (ms.filter fun m => m ≠ .unused ∧ m ≠ .spoiled).length := by
  rw [List.countP_eq_length_filter]
  congr 1
  refine List.filter_congr fun m _ => ?_
  cases m <;> rfl

/-! ### The newest number (R171) -/

theorem seqNewer_iff {a b : Nat} : seqNewer a b = true ↔
    1 ≤ (a + 65535 - b % 65535) % 65535 ∧ (a + 65535 - b % 65535) % 65535 ≤ 32767 := by
  simp [seqNewer]

theorem mem_numberedSlots {table : List SlotRow} {i q : Nat} : (i, q) ∈ numberedSlots table ↔
    i < table.length ∧ ∃ n, (table.getD i SlotRow.blank).number = some n ∧ n.seq = q := by
  simp [numberedSlots, List.mem_filterMap, Option.map_eq_some_iff, and_left_comm]

theorem numberedSlots_sorted (table : List SlotRow) : (numberedSlots table).Pairwise fun x y => x.1 < y.1 := by
  refine List.pairwise_filterMap.mpr (List.pairwise_lt_range.imp fun {i k} before x here y there => ?_)
  obtain ⟨n, -, rfl⟩ := Option.map_eq_some_iff.mp here
  obtain ⟨m, -, rfl⟩ := Option.map_eq_some_iff.mp there
  exact before

/-- The last of those kept in a list in rising order: one that is kept, with none kept above it. -/
theorem getLast?_filter_of_top {l : List (Nat × Nat)} (sorted : l.Pairwise fun x y => x.1 < y.1) {p : Nat × Nat → Bool} {x : Nat × Nat}
    (mem : x ∈ l) (kept : p x = true) (top : ∀ y ∈ l, x.1 < y.1 → p y = false) : (l.filter p).getLast? = some x := by
  induction l with
  | nil => cases mem
  | cons a l ih =>
    obtain ⟨above, rest⟩ := List.pairwise_cons.mp sorted
    rcases List.mem_cons.mp mem with rfl | later
    · have none : l.filter p = [] := List.filter_eq_nil_iff.mpr fun y m => by rw [top y (List.mem_cons_of_mem _ m) (above y m)]; simp
      rw [List.filter_cons_of_pos kept, none]
      rfl
    · have last := ih rest later fun y m => top y (List.mem_cons_of_mem _ m)
      rw [List.filter_cons]
      split
      · rw [List.getLast?_cons, last]
        rfl
      · exact last

/-- The newest of the numbered slots: none is newer than it, and each above it has a newer one. -/
theorem newestSlot_eq_some {slots : List (Nat × Nat)} (sorted : slots.Pairwise fun x y => x.1 < y.1) {x : Nat × Nat} (mem : x ∈ slots)
    (newest : ∀ y ∈ slots, seqNewer y.2 x.2 = false) (top : ∀ y ∈ slots, x.1 < y.1 → ∃ z ∈ slots, seqNewer z.2 y.2 = true) :
    newestSlot slots = some x := by
  have last : (slots.filter fun x => slots.all fun y => !seqNewer y.2 x.2).getLast? = some x := by
    refine getLast?_filter_of_top sorted mem ?_ fun y m above => ?_
    · rw [List.all_eq_true]
      intro y m
      rw [newest y m]
      rfl
    · obtain ⟨z, memZ, newer⟩ := top y m above
      rw [List.all_eq_false]
      exact ⟨z, memZ, by rw [newer]; simp⟩
  unfold newestSlot
  split
  · cases mem
  · rw [last]

/-! ### The scan -/

theorem Archive.scan_table (a : Archive) : a.scan.table = a.storage.map scanRow ∧ a.scan.storage = a.storage := by
  unfold Archive.scan
  dsimp only
  split <;> exact ⟨rfl, rfl⟩

theorem Archive.scan_row (a : Archive) {i : Nat} (h : i < a.storage.length) : a.scan.row i = scanRow (a.store i) := by
  rw [Archive.row, a.scan_table.1, Archive.store, List.getD_eq_getElem _ _ (by simpa using h), List.getD_eq_getElem _ _ h, List.getElem_map]

theorem Archive.mem_scan_numbers {a : Archive} {i q : Nat} : (i, q) ∈ numberedSlots (a.storage.map scanRow) ↔
    i < a.storage.length ∧ ∃ n, (a.scan.row i).number = some n ∧ n.seq = q := by
  rw [mem_numberedSlots, List.length_map, Archive.row, a.scan_table.1]

theorem Archive.scan_empty {a : Archive} (none : ∀ i, i < a.storage.length → (a.scan.row i).number = none) :
    a.scan.writePos = 0 ∧ a.scan.nextSeq = 1 := by
  have empty : numberedSlots (a.storage.map scanRow) = [] := List.eq_nil_iff_forall_not_mem.mpr fun x mem => by
    obtain ⟨inside, n, number, -⟩ := Archive.mem_scan_numbers (q := x.2) |>.mp mem
    rw [none _ inside] at number
    cases number
  rw [Archive.scan, empty]
  exact ⟨rfl, rfl⟩

theorem Archive.scan_newest {a : Archive} {i : Nat} {n : CertNo} (inside : i < a.storage.length) (number : (a.scan.row i).number = some n)
    (newest : ∀ k, k < a.storage.length → ∀ m, (a.scan.row k).number = some m → ¬seqNewer m.seq n.seq = true)
    (top : ∀ k, k < a.storage.length → i < k → ∀ m, (a.scan.row k).number = some m →
      ∃ j, j < a.storage.length ∧ ∃ p, (a.scan.row j).number = some p ∧ seqNewer p.seq m.seq = true) :
    a.scan.writePos = (i + 1) % 32 ∧ a.scan.nextSeq = if 65535 ≤ n.seq then 1 else n.seq + 1 := by
  have found : newestSlot (numberedSlots (a.storage.map scanRow)) = some (i, n.seq) := by
    refine newestSlot_eq_some (numberedSlots_sorted _) (Archive.mem_scan_numbers.mpr ⟨inside, n, number, rfl⟩) ?_ ?_
    · rintro ⟨k, q⟩ mem
      obtain ⟨insideK, m, numberK, rfl⟩ := Archive.mem_scan_numbers.mp mem
      simpa using newest k insideK m numberK
    · rintro ⟨k, q⟩ mem above
      obtain ⟨insideK, m, numberK, rfl⟩ := Archive.mem_scan_numbers.mp mem
      obtain ⟨j, insideJ, p, numberJ, newer⟩ := top k insideK above m numberK
      exact ⟨(j, p.seq), Archive.mem_scan_numbers.mpr ⟨insideJ, p, numberJ, rfl⟩, newer⟩
  rw [Archive.scan, found]
  exact ⟨rfl, rfl⟩

/-- Settles O5: the copies by their checks, the scan by its rows and the newest number among them. -/
theorem startUpReadsTheMemoryAndTheArchive : Obligations.StartUpReadsTheMemoryAndTheArchive := by
  refine ⟨fun c b => ?_, fun s quiet => ⟨fun c1 c2 c3 due => ?_, fun due => ?_⟩⟩
  · rw [goodCopy_eq_some_iff, ← blockOfCopy_eq_iff, copyChecks, beq_iff_eq]
    constructor
    · rintro ⟨length, checks, valid, rfl⟩
      obtain ⟨gains, zeros, nnomLow, nnomHigh, pulses⟩ := (StartUpBlock.valid_iff _).mp valid
      exact ⟨length, checks, gains, zeros, nnomLow, nnomHigh, pulses, rfl⟩
    · rintro ⟨length, checks, gains, zeros, nnomLow, nnomHigh, pulses, rfl⟩
      exact ⟨length, checks, (StartUpBlock.valid_iff _).mpr ⟨gains, zeros, nnomLow, nnomHigh, pulses⟩, rfl⟩
  · have read : memoryRead c1 c2 c3 s = s.setStartUp { s.startUp with memoryDone := true, block := blockInUse c1 c2 c3 } :=
      if_neg (by simp [due])
    refine ⟨_, exec_outside_quiet quiet (memoryRead c1 c2 c3), ?_⟩
    rw [read]
    refine ⟨?_, rfl, fun b good => blockInUse_some.1 good, fun b good bad => blockInUse_some.2.1 good bad,
      fun b good bad worse => blockInUse_some.2.2 good bad worse, blockInUse_none⟩
    intro b other
    cases b with
    | startUp => simp at other
    | _ => rfl
  · have scanned : scanDone s = (s.setArchive s.archive.scan).setStartUp { s.startUp with scanDone := true } := if_neg (by simp [due])
    obtain ⟨table, storage⟩ := s.archive.scan_table
    refine ⟨_, exec_outside_quiet quiet scanDone, ?_⟩
    rw [scanned]
    refine ⟨?_, rfl, storage, ?_, fun i inside => ?_, Archive.scan_empty, fun i inside n number newest top => ?_⟩
    · intro b other
      cases b with
      | startUp => simp at other
      | archive => simp at other
      | _ => rfl
    · exact (congrArg List.length table).trans (by simp)
    · have row : ((s.setArchive s.archive.scan).setStartUp { s.startUp with scanDone := true }).archive.row i = scanRow (s.archive.store i) :=
        s.archive.scan_row inside
      rw [row]
      refine ⟨scanRow_blank, fun n header c crc body checks => ?_, fun n header spoiled => ?_, scanRow_unnumbered⟩
      · have content := SlotStore.content_eq_some header body checks
        rw [scanRow_record header content]
        exact ⟨content, rfl, rfl, countP_holdsMark _, List.countP_eq_length_filter⟩
      · have content := SlotStore.content_eq_none header spoiled
        exact ⟨content, scanRow_bad header content⟩
    · refine Archive.scan_newest inside number (fun k insideK m numberK newer => ?_) fun k insideK above m numberK => ?_
      · exact newest k insideK m numberK (seqNewer_iff.mp newer)
      · obtain ⟨j, insideJ, p, numberJ, low, high⟩ := top k insideK above m numberK
        exact ⟨j, insideJ, p, numberJ, seqNewer_iff.mpr ⟨low, high⟩⟩

end Sys2Proof.Machine
end

section
/-! The 8 Hz tick taker by taker, in whichever order they are served (R46, R54, R56, R102). -/

namespace Sys2Proof.Machine

/-! ### One taker of a tick acts on an item, the others leave it -/

/-- Where one taker alone acts on an item, and the others keep it, the item after the tick is that taker's. -/
theorem foldl_takeTick8_item {α : Type} {inv : State → Prop} {item : State → α} {act : α → α} {own : TickTaker}
    (keeps : ∀ s k, inv s → inv (takeTick8 s k)) (others : ∀ s k, inv s → k ≠ own → item (takeTick8 s k) = item s)
    (acts : ∀ s, inv s → item (takeTick8 s own) = act (item s)) {takers : List TickTaker} (once : takers.Nodup) {s : State} (h : inv s) :
    item (takers.foldl takeTick8 s) = if own ∈ takers then act (item s) else item s := by
  induction takers generalizing s with
  | nil => simp
  | cons k ks ih =>
    obtain ⟨new, rest⟩ := List.nodup_cons.mp once
    rw [List.foldl_cons, ih rest (keeps s k h)]
    by_cases here : k = own
    · subst here
      simp [new, acts s h]
    · simp [Ne.symm here, others s k h here]

/-- An item that no taker changes. -/
theorem foldl_takeTick8_keeps {α : Type} {inv : State → Prop} {item : State → α}
    (keeps : ∀ s k, inv s → inv (takeTick8 s k)) (same : ∀ s k, inv s → item (takeTick8 s k) = item s) (takers : List TickTaker)
    {s : State} (h : inv s) : item (takers.foldl takeTick8 s) = item s := by
  induction takers generalizing s with
  | nil => rfl
  | cons k ks ih => exact (ih (keeps s k h)).trans (same s k h)

/-- The item one taker acts on, after a whole tick. -/
theorem tick8_item {α : Type} {inv : State → Prop} {item : State → α} {act : α → α} {own : TickTaker}
    (keeps : ∀ s k, inv s → inv (takeTick8 s k)) (others : ∀ s k, inv s → k ≠ own → item (takeTick8 s k) = item s)
    (acts : ∀ s, inv s → item (takeTick8 s own) = act (item s)) (first : List TickTaker) {s : State} (h : inv (s.setClock s.clock.tick8)) :
    item (tick8 first s) = act (item (s.setClock s.clock.tick8)) := by
  obtain ⟨once, whole⟩ := takerOrder_once first
  rw [tick8, foldl_takeTick8_item keeps others acts once h, if_pos (whole own)]

/-! ### What each taker changes -/

/-- The blocks that the takers of an 8 Hz tick change. -/
abbrev tickBlocks : List Block := [.bus, .timers, .counters, .capture, .eval, .roller, .guidance]

theorem enterZero_changes (s : State) : s.onlyChanges tickBlocks (enterZero s) := by
  obtain ⟨⟨-, -, -, lane, cert, -⟩, -, -⟩ := enterZero_frame s
  intro b other
  cases b with
  | lane => exact lane
  | cert => exact cert
  | bus | timers | counters | capture | eval | roller | guidance => simp at other
  | _ => exact (enterZero_within s).1 _ (by simp)

theorem enterZero_timers (s : State) :
    ∃ pt : JoinedTimer, (enterZero s).timers = { s.timers with pt0 := pt, seqTimer := s.timers.seqTimer.cancel } := by
  obtain ⟨pt, streams⟩ := writePhaseStreams_timers .zero false (cancelSeqTimer s)
  exact ⟨pt, by simp [enterZero, streams, PhaseTimer.cancel]⟩

theorem rollerWindow_changes (w : WindowSample) (s : State) : s.onlyChanges tickBlocks (rollerWindow w s) := by
  unfold rollerWindow
  split
  · exact State.onlyChanges_ite (enterZero_changes s) (s.onlyChanges_refl _)
  · exact State.onlyChanges_mono (Within.setRoller s _).1 (by simp)
  · exact s.onlyChanges_refl _

theorem rollerWindow_certTimer (w : WindowSample) (s : State) : (rollerWindow w s).timers.certTimer = s.timers.certTimer := by
  unfold rollerWindow
  split
  · split
    · obtain ⟨pt, timers⟩ := enterZero_timers s
      rw [timers]
    · rfl
  · rfl
  · rfl

theorem evalWindow_eq (w : WindowSample) (s : State) : ∃ a : TestAcc, evalWindow w s = s.setEval { s.eval with acc := a } := by
  unfold evalWindow
  split
  · exact ⟨_, rfl⟩
  · exact ⟨s.eval.acc, rfl⟩

theorem closeWindow_changes (s : State) : s.onlyChanges tickBlocks (closeWindow s) := by
  have cleared : s.onlyChanges tickBlocks (s.setCounters s.counters.cleared) := State.onlyChanges_mono (Within.setCounters s _).1 (by simp)
  have judged (w : WindowSample) (r : State) : r.onlyChanges tickBlocks (evalWindow w (rollerWindow w r)) := by
    obtain ⟨a, eq⟩ := evalWindow_eq w (rollerWindow w r)
    rw [eq]
    exact State.onlyChanges_after (State.onlyChanges_mono (Within.setEval _ _).1 (by simp)) (rollerWindow_changes w r)
  exact State.onlyChanges_after (State.onlyChanges_ite (judged _ _) (State.onlyChanges_refl _ _)) cleared

theorem closeWindow_certTimer (s : State) : (closeWindow s).timers.certTimer = s.timers.certTimer := by
  unfold closeWindow onRoller
  dsimp only
  split
  · obtain ⟨a, eq⟩ := evalWindow_eq s.counters.sample (rollerWindow s.counters.sample (s.setCounters s.counters.cleared))
    rw [eq]
    exact rollerWindow_certTimer _ _
  · rfl

theorem closeWindow_counters (s : State) : (closeWindow s).counters = s.counters.cleared := by
  have zero (r : State) : (enterZero r).counters = r.counters := by simp
  have window (w : WindowSample) (r : State) : (rollerWindow w r).counters = r.counters := by
    unfold rollerWindow
    split
    · split
      · exact zero r
      · rfl
    · rfl
    · rfl
  unfold closeWindow onRoller
  dsimp only
  split
  · obtain ⟨a, eq⟩ := evalWindow_eq s.counters.sample (rollerWindow s.counters.sample (s.setCounters s.counters.cleared))
    rw [eq]
    exact window _ _
  · rfl

/-- Outside SPIN_UP a window closes the counters, and judges roll-down and slip (R54, R86, R110). -/
theorem closeWindow_eq {s : State} (other : s.rollerActive = false ∨ s.roller.phase ≠ .spinUp) :
    ∃ (n : Nat) (a : TestAcc), closeWindow s =
      ((s.setCounters s.counters.cleared).setRoller { s.roller with rollDown := n }).setEval { s.eval with acc := a } := by
  have inactive : ¬s.rollerActive = true → closeWindow s = s.setCounters s.counters.cleared := fun off => if_neg off
  by_cases active : s.rollerActive = true
  · have phase : s.roller.phase ≠ .spinUp := other.resolve_left (by simp [active])
    have taken : closeWindow s = evalWindow s.counters.sample (rollerWindow s.counters.sample (s.setCounters s.counters.cleared)) :=
      if_pos active
    have window : ∃ n, rollerWindow s.counters.sample (s.setCounters s.counters.cleared) =
        (s.setCounters s.counters.cleared).setRoller { s.roller with rollDown := n } := by
      unfold rollerWindow
      split
      · rename_i spinUp
        exact absurd spinUp phase
      · exact ⟨_, rfl⟩
      · exact ⟨s.roller.rollDown, rfl⟩
    obtain ⟨n, roller⟩ := window
    obtain ⟨a, eq⟩ := evalWindow_eq s.counters.sample (rollerWindow s.counters.sample (s.setCounters s.counters.cleared))
    rw [roller] at eq
    exact ⟨n, a, by rw [taken, roller, eq]; rfl⟩
  · exact ⟨s.roller.rollDown, s.eval.acc, inactive active⟩

theorem hornTick_timers (p : Prompt) (s : State) :
    (hornTick p s).timers.seqTimer = s.timers.seqTimer ∧ (hornTick p s).timers.certTimer = s.timers.certTimer := by
  unfold hornTick
  dsimp only
  split_ifs <;> exact ⟨rfl, rfl⟩

theorem guidanceTick8_timers (s : State) :
    (guidanceTick8 s).timers.seqTimer = s.timers.seqTimer ∧ (guidanceTick8 s).timers.certTimer = s.timers.certTimer := by
  unfold guidanceTick8
  split
  · exact ⟨rfl, rfl⟩
  · rw [(composePanel_frame _).2.2.2.2.1]
    exact hornTick_timers _ _

theorem takeTick8_sequence_eq (s : State) : ∃ w f n : Nat, takeTick8 s .sequence =
    s.setRoller { s.roller with wheelCount := w, feedbackCount := f, weldedCount := n } := by
  by_cases active : s.rollerActive = true
  · exact ⟨s.nextWheelCount, s.roller.nextFeedbackCount, s.nextWeldedCount, if_pos active⟩
  · exact ⟨s.roller.wheelCount, s.roller.feedbackCount, s.roller.weldedCount, if_neg active⟩

theorem takeTick8_changes (s : State) (k : TickTaker) : s.onlyChanges tickBlocks (takeTick8 s k) := by
  cases k with
  | pulseCounters => exact closeWindow_changes s
  | phaseTimers => exact State.onlyChanges_mono (Within.setTimers s _).1 (by simp)
  | sequence => exact State.onlyChanges_ite (State.onlyChanges_mono (Within.setRoller s _).1 (by simp)) (s.onlyChanges_refl _)
  | guidance => exact State.onlyChanges_mono (guidanceTick8_within s).1 (by simp)

theorem tick8_changes (first : List TickTaker) (s : State) : s.onlyChanges (.clock :: tickBlocks) (tick8 first s) := by
  have fold (l : List TickTaker) : ∀ r : State, r.onlyChanges (.clock :: tickBlocks) (l.foldl takeTick8 r) := by
    induction l with
    | nil => exact fun r => r.onlyChanges_refl _
    | cons k ks ih => exact fun r => State.onlyChanges_after (ih _) (State.onlyChanges_mono (takeTick8_changes r k) (by simp))
  exact State.onlyChanges_after (fold _ _) (State.onlyChanges_mono (Within.setClock s _).1 (by simp))

theorem guidanceTick8_same (s : State) : (guidanceTick8 s).roller = s.roller ∧ (guidanceTick8 s).counters = s.counters ∧
    (guidanceTick8 s).eval = s.eval ∧ (guidanceTick8 s).bus.latch = s.bus.latch :=
  ⟨(guidanceTick8_within s).1 .roller (by simp), (guidanceTick8_within s).1 .counters (by simp), (guidanceTick8_within s).1 .eval (by simp),
    (guidanceTick8_within s).sameBus.2.2.2.2.1⟩

/-! ### The items of the tick -/

theorem tick8_counters (first : List TickTaker) (s : State) : (tick8 first s).counters = s.counters.cleared := by
  refine tick8_item (inv := fun _ => True) (item := State.counters) (own := .pulseCounters) (fun _ _ _ => trivial) (fun r k _ other => ?_)
    (fun r _ => closeWindow_counters r) first trivial
  cases k with
  | pulseCounters => exact absurd rfl other
  | phaseTimers => rfl
  | sequence => obtain ⟨w, f, n, eq⟩ := takeTick8_sequence_eq r; rw [eq]; rfl
  | guidance => exact (guidanceTick8_same r).2.1

theorem tick8_certTimer (first : List TickTaker) (s : State) : (tick8 first s).timers.certTimer = s.timers.certTimer.tick := by
  refine tick8_item (inv := fun _ => True) (item := fun r => r.timers.certTimer) (own := .phaseTimers) (fun _ _ _ => trivial)
    (fun r k _ other => ?_) (fun r _ => rfl) first trivial
  cases k with
  | pulseCounters => exact closeWindow_certTimer r
  | phaseTimers => exact absurd rfl other
  | sequence => obtain ⟨w, f, n, eq⟩ := takeTick8_sequence_eq r; rw [eq]; rfl
  | guidance => exact (guidanceTick8_timers r).2

/-- The station is not spinning its rollers up, so that no window can end a phase. -/
def State.noSpinUp (s : State) : Prop := s.rollerActive = false ∨ s.roller.phase ≠ .spinUp

theorem State.noSpinUp.congr {s t : State} (h : s.noSpinUp) (active : t.rollerActive = s.rollerActive) (phase : t.roller.phase = s.roller.phase) :
    t.noSpinUp := by
  unfold State.noSpinUp
  rw [active, phase]
  exact h

/-- What a taker leaves of the sequence where no window can end a phase. -/
theorem takeTick8_sequence {s : State} (h : s.noSpinUp) (k : TickTaker) :
    (takeTick8 s k).roller.phase = s.roller.phase ∧ (takeTick8 s k).roller.motors = s.roller.motors ∧
    (takeTick8 s k).bus.latch = s.bus.latch ∧ (k ≠ .phaseTimers → (takeTick8 s k).timers.seqTimer = s.timers.seqTimer) := by
  cases k with
  | pulseCounters =>
    obtain ⟨n, a, eq⟩ := closeWindow_eq h
    rw [takeTick8, eq]
    exact ⟨rfl, rfl, rfl, fun _ => rfl⟩
  | phaseTimers => exact ⟨rfl, rfl, rfl, fun other => absurd rfl other⟩
  | sequence => obtain ⟨w, f, n, eq⟩ := takeTick8_sequence_eq s; rw [eq]; exact ⟨rfl, rfl, rfl, fun _ => rfl⟩
  | guidance =>
    obtain ⟨roller, -, -, latch⟩ := guidanceTick8_same s
    exact ⟨congrArg Roller.phase roller, congrArg Roller.motors roller, latch, fun _ => (guidanceTick8_timers s).1⟩

theorem takeTick8_rollerActive (s : State) (k : TickTaker) : (takeTick8 s k).rollerActive = s.rollerActive :=
  State.rollerActive_congr (takeTick8_changes s k .power (by simp)) (takeTick8_changes s k .startUp (by simp))

theorem takeTick8_noSpinUp {s : State} (k : TickTaker) (h : s.noSpinUp) : (takeTick8 s k).noSpinUp :=
  h.congr (takeTick8_rollerActive s k) (takeTick8_sequence h k).1

theorem tick8_sequence (first : List TickTaker) {s : State} (h : s.noSpinUp) :
    (tick8 first s).timers.seqTimer = s.timers.seqTimer.tick ∧ (tick8 first s).roller.phase = s.roller.phase ∧
    (tick8 first s).roller.motors = s.roller.motors ∧ (tick8 first s).bus.latch = s.bus.latch := by
  have begins : (s.setClock s.clock.tick8).noSpinUp := h
  have keeps (r : State) (k : TickTaker) : r.noSpinUp → (takeTick8 r k).noSpinUp := takeTick8_noSpinUp k
  refine ⟨?_, ?_, ?_, ?_⟩
  · exact tick8_item (item := fun r => r.timers.seqTimer) (own := .phaseTimers) keeps (fun r k i other => (takeTick8_sequence i k).2.2.2 other)
      (fun r _ => rfl) first begins
  · exact foldl_takeTick8_keeps (item := fun r => r.roller.phase) keeps (fun r k i => (takeTick8_sequence i k).1) _ begins
  · exact foldl_takeTick8_keeps (item := fun r => r.roller.motors) keeps (fun r k i => (takeTick8_sequence i k).2.1) _ begins
  · exact foldl_takeTick8_keeps (item := fun r => r.bus.latch) keeps (fun r k i => (takeTick8_sequence i k).2.2.1) _ begins

/-- The sequence rests in IDLE, not held, with the accepted levels given. -/
structure State.RestsOpen (x : Samples) (s : State) : Prop where
  active : s.rollerActive = true
  phase : s.roller.phase = .idle
  open' : s.idleHeld = false
  levels : s.filter.accepted = x

theorem takeTick8_restsOpen {x : Samples} {s : State} (k : TickTaker) (h : s.RestsOpen x) :
    (takeTick8 s k).RestsOpen x ∧ (k ≠ .sequence → (takeTick8 s k).roller.wheelCount = s.roller.wheelCount) := by
  have idle : s.noSpinUp := Or.inr (by rw [h.phase]; simp)
  have active := (takeTick8_rollerActive s k).trans h.active
  have phase := (takeTick8_sequence idle k).1.trans h.phase
  have levels : (takeTick8 s k).filter.accepted = x := by rw [takeTick8_changes s k .filter (by simp), h.levels]
  suffices held : (takeTick8 s k).idleHeld = s.idleHeld ∧ (k ≠ .sequence → (takeTick8 s k).roller.wheelCount = s.roller.wheelCount) from
    ⟨⟨active, phase, held.1.trans h.open', levels⟩, held.2⟩
  cases k with
  | pulseCounters =>
    obtain ⟨n, a, eq⟩ := closeWindow_eq idle
    rw [takeTick8, eq]
    exact ⟨rfl, fun _ => rfl⟩
  | phaseTimers => exact ⟨rfl, fun _ => rfl⟩
  | sequence => obtain ⟨w, f, n, eq⟩ := takeTick8_sequence_eq s; rw [eq]; exact ⟨rfl, fun other => absurd rfl other⟩
  | guidance =>
    obtain ⟨roller, -, eval, latch⟩ := guidanceTick8_same s
    exact ⟨by simp only [takeTick8, State.idleHeld, State.measures, roller, eval, latch], fun _ => congrArg Roller.wheelCount roller⟩

theorem rollerTick8_wheelCount {x : Samples} {s : State} (h : s.RestsOpen x) :
    (takeTick8 s .sequence).roller.wheelCount = countWhile (x.wheelL && x.wheelR) 8 s.roller.wheelCount := by
  have taken : takeTick8 s .sequence = rollerTick8 s := if_pos h.active
  have next : s.nextWheelCount = countWhile (x.wheelL && x.wheelR) 8 s.roller.wheelCount := by
    unfold State.nextWheelCount
    simp [h.phase, h.open', h.levels]
  rw [taken, ← next]
  rfl

theorem tick8_wheelCount (first : List TickTaker) {s : State} (active : s.rollerActive = true) (phase : s.roller.phase = .idle)
    (open' : s.idleHeld = false) :
    (tick8 first s).roller.wheelCount = countWhile (s.filter.accepted.wheelL && s.filter.accepted.wheelR) 8 s.roller.wheelCount :=
  tick8_item (inv := State.RestsOpen s.filter.accepted) (item := fun r => r.roller.wheelCount) (own := .sequence)
    (fun _ k i => (takeTick8_restsOpen k i).1) (fun _ k i other => (takeTick8_restsOpen k i).2 other)
    (fun _ i => rollerTick8_wheelCount i) first ⟨active, phase, open', rfl⟩

/-- Settles O26, item by item. -/
theorem windowClosesAtTheTick : Obligations.WindowClosesAtTheTick := by
  intro s first quiet
  have changes := tick8_changes first s
  have clock : (tick8 first s).clock = s.clock.tick8 :=
    foldl_takeTick8_keeps (inv := fun _ => True) (item := State.clock) (fun _ _ _ => trivial)
      (fun r k _ => takeTick8_changes r k .clock (by simp)) _ trivial
  have ticks (t : PhaseTimer) : t.tick = if t.running = false then t else if t.remaining ≤ 1 then ⟨false, 0, true⟩
      else { t with remaining := t.remaining - 1 } := by
    unfold PhaseTimer.tick
    cases t.running <;> rfl
  refine ⟨_, exec_outside_quiet quiet (tick8 first), tick8_counters first s, changes .filter (by simp), ?_, ?_, fun other => ?_,
    fun active phase open' => ?_, changes .plate (by simp), changes .cert (by simp), changes .archive (by simp), changes .startUp (by simp)⟩
  · rw [clock]
    exact Clock.passage_count_dvd _ (by decide) _
  · rw [tick8_certTimer, ticks]
  · obtain ⟨timer, phase, motors, latch⟩ := tick8_sequence first other
    exact ⟨timer.trans (ticks _), phase, motors, changes .lane (by simp), latch⟩
  · rw [tick8_wheelCount first active phase open', countWhile]
    simp

end Sys2Proof.Machine
end

section
/-! The 1 Hz tick and the loss of a peer (R33 to R35, R145, R172). -/

namespace Sys2Proof.Machine

/-! ### The transmit queue keeps every frame where it does not fill -/

/-- The queue grows at most, and where it is not full at the end, all that stood in it still does. -/
structure KeepsFrames (s t : State) : Prop where
  grows : s.bus.queue.length ≤ t.bus.queue.length
  keeps : t.bus.queue.length < 8 → ∀ q ∈ s.bus.queue, q ∈ t.bus.queue

theorem KeepsFrames.of_eq {s t : State} (h : t.bus.queue = s.bus.queue) : KeepsFrames s t := ⟨by rw [h], fun _ q m => by rwa [h]⟩

theorem KeepsFrames.refl (s : State) : KeepsFrames s s := .of_eq rfl

theorem KeepsFrames.after {s t u : State} (k : KeepsFrames t u) (h : KeepsFrames s t) : KeepsFrames s u :=
  ⟨h.grows.trans k.grows, fun room q m => k.keeps room q (h.keeps (k.grows.trans_lt room) q m)⟩

theorem KeepsFrames.ite {c : Prop} [Decidable c] {s t u : State} (h : KeepsFrames s t) (k : KeepsFrames s u) :
    KeepsFrames s (if c then t else u) := by
  split
  · exact h
  · exact k

theorem queueFrame_frames (f : LaneFrame) (s : State) : KeepsFrames s (queueFrame f s) := by
  have grows := (s.bus.enqueue_queued f).grows
  refine ⟨grows, fun room q m => ?_⟩
  cases can : s.bus.canQueue with
  | true => exact (Bus.mem_enqueue_room can (grows.trans_lt room) f q).mpr (Or.inr m)
  | false => rw [queueFrame_shut can]; exact m

theorem composePanel_frames (s : State) : KeepsFrames s (composePanel s) := by
  unfold composePanel
  split
  · exact .ite (.refl s) (.of_eq rfl)
  · exact .refl s

theorem showDisplayed_frames (s : State) : KeepsFrames s (showDisplayed s) := by
  have confirmed (r : State) : KeepsFrames r (confirmShown r) := by
    unfold confirmShown
    split
    · rename_i f _
      exact KeepsFrames.after (t := queueFrame f r) (.of_eq rfl) (queueFrame_frames f r)
    · exact .refl r
  have horn : KeepsFrames s ((composePanel s).setGuidance (composePanel s).guidance.requestHorn) :=
    KeepsFrames.after (t := composePanel s) (.of_eq rfl) (composePanel_frames s)
  exact .after (confirmed _) horn

theorem rechoose_frames (s : State) : KeepsFrames s (rechoose s) :=
  .ite (.refl s) (.ite (.refl s) (.after (showDisplayed_frames _) (.of_eq rfl)))

theorem raise_frames (p : Prompt) (f : PromptFields) (s : State) : KeepsFrames s (raise p f s) := by
  have chosen : KeepsFrames s (rechoose (s.setGuidance (s.guidance.raised p f 0 false))) := .after (rechoose_frames _) (.of_eq rfl)
  exact .ite (.after (showDisplayed_frames _) chosen) chosen

theorem updateFields_frames (p : Prompt) (f : PromptFields) (s : State) : KeepsFrames s (updateFields p f s) :=
  .ite (.after (composePanel_frames _) (.of_eq rfl)) (.of_eq rfl)

theorem lower_frames (p : Prompt) (s : State) : KeepsFrames s (lower p s) := by
  unfold lower
  split
  · exact .refl s
  · split
    · exact .refl s
    · exact .ite (.of_eq rfl) (.after (rechoose_frames _) (.of_eq rfl))

theorem lowerIfRaised_frames (p : Prompt) (s : State) : KeepsFrames s (lowerIfRaised p s) := .ite (lower_frames p s) (.refl s)

theorem raiseOrUpdate_frames (p : Prompt) (f : PromptFields) (s : State) : KeepsFrames s (raiseOrUpdate p f s) :=
  .ite (.ite (.refl s) (updateFields_frames p f s)) (raise_frames p f s)

theorem judgeEntry_frames (s : State) : KeepsFrames s (judgeEntry s) := by
  unfold judgeEntry
  dsimp only
  split
  · exact .refl s
  · split
    · exact .after (lowerIfRaised_frames _ _) (raiseOrUpdate_frames _ _ s)
    · exact .ite (.after (lowerIfRaised_frames _ _) (lowerIfRaised_frames _ s)) (.after (raiseOrUpdate_frames _ _ _) (lowerIfRaised_frames _ s))

theorem guidanceTick1_frames (s : State) : KeepsFrames s (guidanceTick1 s) := by
  have refreshed : KeepsFrames s (refreshPanel s) := by
    unfold refreshPanel
    split
    · exact .of_eq rfl
    · exact .refl s
  exact .after (judgeEntry_frames _) refreshed

/-! ### The 1 Hz tick -/

/-- The station as the guidance unit finds it at a 1 Hz tick: the peers aged, a PRESENCE asked for. -/
def State.aged (s : State) : State := requestPresence ((s.setClock s.clock.tick1).setBus s.bus.aged)

theorem tick1_eq (s : State) : tick1 s = tickStartUp (guidanceTick1 s.aged) := rfl

theorem tickStartUp_changes (s : State) : s.onlyChanges [.startUp] (tickStartUp s) := by
  intro b other
  cases b with
  | startUp => simp at other
  | _ => rfl

theorem aged_changes (s : State) : s.onlyChanges [.bus, .clock] s.aged := by
  have clock : s.onlyChanges [.bus, .clock] (s.setClock s.clock.tick1) := State.onlyChanges_mono (Within.setClock s _).1 (by simp)
  have bus : (s.setClock s.clock.tick1).onlyChanges [.bus, .clock] ((s.setClock s.clock.tick1).setBus s.bus.aged) := by
    intro b other
    cases b with
    | bus => simp at other
    | _ => rfl
  exact State.onlyChanges_after (State.onlyChanges_mono (requestPresence_within _).1 (by simp)) (State.onlyChanges_after bus clock)

theorem tick1_changes (s : State) : s.onlyChanges [.startUp, .bus, .clock, .guidance] (tick1 s) :=
  State.onlyChanges_after (State.onlyChanges_mono (tickStartUp_changes _) (by simp))
    (State.onlyChanges_after (State.onlyChanges_mono (guidanceTick1_within _).1 (by simp)) (State.onlyChanges_mono (aged_changes s) (by simp)))

theorem tick1_bus (s : State) : (tick1 s).bus.peers = s.bus.peers.map (fun p => { p with age := p.age + 1 }) ∧
    (tick1 s).bus.mode = s.bus.mode ∧ (tick1 s).bus.latch = s.bus.latch := by
  obtain ⟨mode, -, -, peers, latch, -⟩ := (Within.after (guidanceTick1_within s.aged)
    ((requestPresence_within ((s.setClock s.clock.tick1).setBus s.bus.aged)).mono (by simp))).sameBus
  exact ⟨peers, mode, latch⟩

theorem tick1_queues (s : State) : s.queues (tick1 s) s.presenceFrame := by
  intro open' room
  have kept : KeepsFrames s.aged (guidanceTick1 s.aged) := guidanceTick1_frames _
  have can : s.aged.bus.canQueue = true := by
    have same : ((s.setClock s.clock.tick1).setBus s.bus.aged).bus.canQueue = s.bus.canQueue := rfl
    rw [State.aged, (requestPresence_within _).sameBus.2.2.2.2.2, same, open']
  obtain ⟨q, mem, frame⟩ := requestPresence_queued (s := (s.setClock s.clock.tick1).setBus s.bus.aged) can (kept.grows.trans_lt room)
  exact ⟨q, kept.keeps room q mem, frame.trans (requestPresence_presenceFrame _)⟩

/-! ### The loss of a peer (R35, R145) -/

theorem find?_of_split {α : Type} {p : α → Bool} {before after : List α} {a : α} (none : ∀ q ∈ before, p q = false) (here : p a = true) :
    (before ++ a :: after).find? p = some a := by
  rw [List.find?_append, List.find?_eq_none.mpr fun q m => by rw [none q m]; simp, Option.none_or, List.find?_cons_of_pos here]

/-- In a list in station order, the first peer whose age has reached 5 is the lowest. -/
theorem absent_eq {s : State} (law : s.peerLaw = true) {p : Peer} (mem : p ∈ s.bus.peers) (age : 5 ≤ p.age)
    (lowest : ∀ q ∈ s.bus.peers, 5 ≤ q.age → p.station ≤ q.station) : s.bus.absent = some p.station := by
  have sorted : (s.bus.peers.map (·.station)).Pairwise (· < ·) := by
    simp only [State.peerLaw, Bool.and_eq_true, decide_eq_true_eq] at law
    exact law.1.1.1
  obtain ⟨before, after, split⟩ := List.append_of_mem mem
  rw [split, List.map_append, List.pairwise_append] at sorted
  have first : s.bus.peers.find? (fun q => decide (Config.absentAge ≤ q.age)) = some p := by
    rw [split]
    refine find?_of_split (fun q m => decide_eq_false fun aged => ?_) (decide_eq_true age)
    have below : q.station < p.station := sorted.2.2 _ (List.mem_map_of_mem m) _ (by simp)
    have above := lowest q (by rw [split]; exact List.mem_append_left _ m) aged
    omega
  rw [Bus.absent, first]
  rfl

/-- The station after the roller sequence has heard of the loss. -/
def State.withoutPeer (n : Nat) (s : State) : State :=
  onRoller (fun s => judgeRoleClash (removeAwaited n s)) (s.setBus { s.bus with peers := s.bus.peers.filter fun p => p.station ≠ n })

theorem removePeer_eq (n : Nat) (s : State) :
    removePeer n s = recheck (judgeEntry (lowerWarningOf n (retestAll (s.withoutPeer n)))) := rfl

theorem removePeer_bus (n : Nat) (s : State) : (removePeer n s).bus.peers = s.bus.peers.filter (fun q => q.station ≠ n) ∧
    (removePeer n s).bus.mode = s.bus.mode ∧ (removePeer n s).bus.latch = s.bus.latch := by
  have told (r : State) : Within rollerBlocks r (onRoller (fun s => judgeRoleClash (removeAwaited n s)) r) :=
    onRoller_within (fun t => Within.after (judgeRoleClash_within _) (removeAwaited_within n t)) r
  have first : SameBus (s.setBus { s.bus with peers := s.bus.peers.filter fun p => p.station ≠ n }) (s.withoutPeer n) := (told _).sameBus
  obtain ⟨mode, -, -, peers, latch, -⟩ := first
  obtain ⟨mode1, -, -, peers1, latch1, -⟩ := (retestAll_within (s.withoutPeer n)).sameBus
  obtain ⟨mode2, -, -, peers2, latch2, -⟩ := (Within.after (judgeEntry_within _) (lowerWarningOf_within n (retestAll (s.withoutPeer n)))).sameBus
  obtain ⟨mode3, -, -, peers3, latch3, -⟩ := (recheck_within (judgeEntry (lowerWarningOf n (retestAll (s.withoutPeer n))))).sameBus
  rw [removePeer_eq, peers3, peers2, peers1, peers, mode3, mode2, mode1, mode, latch3, latch2, latch1, latch]
  exact ⟨rfl, rfl, rfl⟩

theorem removePeer_roller (n : Nat) (s : State) : (removePeer n s).roller = (s.withoutPeer n).roller := by
  simp [removePeer_eq]

theorem removeAwaited_awaited {n : Nat} {s : State} (warn : s.roller.phase = .warn) :
    (removeAwaited n s).roller.awaited = s.roller.awaited.filter fun m => m ≠ n := by
  unfold removeAwaited
  dsimp only
  split
  · split <;> rfl
  · rename_i absent
    refine (List.filter_eq_self.mpr fun m mem => ?_).symm
    have here : n ∉ s.roller.awaited := by simpa [warn] using absent
    simpa using fun same : m = n => here (same ▸ mem)

theorem withoutPeer_awaited {n : Nat} {s : State} (active : s.rollerActive = true) (warn : s.roller.phase = .warn) :
    (s.withoutPeer n).roller.awaited = s.roller.awaited.filter fun m => m ≠ n := by
  have told : s.withoutPeer n = judgeRoleClash (removeAwaited n (s.setBus { s.bus with
      peers := s.bus.peers.filter fun p => p.station ≠ n })) := if_pos active
  rw [told]
  exact (judgeRoleClash_items _).1.fields.2.2.2.2.2.2.2.1.trans (removeAwaited_awaited warn)

/-! ### The warning of the lost peer (R145) -/

theorem removeAwaited_guidance (n : Nat) (s : State) : (removeAwaited n s).guidance = s.guidance := by
  unfold removeAwaited
  dsimp only
  split_ifs <;> rfl

theorem retestAll_guidance (s : State) : (retestAll s).guidance = s.guidance := by
  have entry (n : Nat) (r : State) : (retestEntry n r).guidance = r.guidance := by
    unfold retestEntry
    split
    · unfold storeTested
      dsimp only
      split
      · exact (certTicketComplete_within _ _).1 .guidance (by simp)
      · rfl
    · rfl
  have fold (l : List Nat) : ∀ r : State, (l.foldl (fun s t => retestEntry t s) r).guidance = r.guidance := by
    induction l with
    | nil => exact fun r => rfl
    | cons n l ih => exact fun r => (ih _).trans (entry n r)
  exact fold _ s

theorem showDriveOn_shows {p : Prompt} {f : PromptFields} (other : p ≠ .driveOn) {s : State} (h : s.guidance.Shows p f) :
    (showDriveOn s).guidance.Shows p f := by
  unfold showDriveOn
  split
  · exact lower_shows h other
  · exact raise_shows_other h other {}

theorem holdChanged_shows {p : Prompt} {f : PromptFields} (other : p ≠ .driveOn) {s : State} (h : s.guidance.Shows p f) (wasHeld : Bool) :
    (holdChanged wasHeld s).guidance.Shows p f := by
  unfold holdChanged
  split
  · exact showDriveOn_shows other h
  · exact h

theorem judgeRoleClash_shows {p : Prompt} {f : PromptFields} (driveOn : p ≠ .driveOn) (roleClash : p ≠ .roleClash) {s : State}
    (h : s.guidance.Shows p f) : (judgeRoleClash s).guidance.Shows p f := by
  unfold judgeRoleClash
  dsimp only
  split
  · split
    · exact h
    · exact holdChanged_shows driveOn (raise_shows_other (s := s.setRoller { s.roller with roleClash := true }) h roleClash _) _
  · split
    · exact holdChanged_shows driveOn (lower_shows (s := s.setRoller { s.roller with roleClash := false }) h roleClash) _
    · exact h

theorem judgeRoleClash_isRaised {q : Prompt} (driveOn : q ≠ .driveOn) (roleClash : q ≠ .roleClash) (s : State) :
    (judgeRoleClash s).guidance.isRaised q = s.guidance.isRaised q := by
  have held (b : Bool) (r : State) : (holdChanged b r).guidance.isRaised q = r.guidance.isRaised q := by
    unfold holdChanged
    split
    · rw [showDriveOn_isRaised driveOn]; rfl
    · rfl
  unfold judgeRoleClash
  dsimp only
  split
  · split
    · rfl
    · rw [held, raise_isRaised, decide_eq_false roleClash, Bool.false_or]
      rfl
  · split
    · rw [held, lower_isRaised, decide_eq_true roleClash, Bool.true_or, Bool.and_true]
      rfl
    · rfl

/-- Where no prompt stands twice, a prompt that is RAISED shows the fields of its entry. -/
theorem Guidance.shows_of_raised {g : Guidance} (once : (g.prompts.map (·.prompt)).Nodup) {p : Prompt} {e : PromptEntry}
    (found : g.find p = some e) (raised : g.isRaised p = true) : g.Shows p e.fields := by
  obtain ⟨x, mem, here⟩ := List.any_eq_true.mp raised
  obtain ⟨prompt, standing⟩ : x.prompt = p ∧ x.lowering = false := by simpa using here
  have same : x = e := List.inj_on_of_nodup_map once mem (List.mem_of_find?_eq_some found) (prompt.trans (prompt_of_find found).symm)
  subst same
  exact ⟨x, found, standing, rfl⟩

theorem lowerWarningOf_lowers {n : Nat} {f : PromptFields} {s : State} (h : s.guidance.Shows .warningFromPeer f) (station : f.station = some n) :
    (lowerWarningOf n s).guidance.isRaised .warningFromPeer = false := by
  obtain ⟨e, found, -, fields⟩ := h
  rw [lowerWarningOf, found]
  dsimp only
  rw [fields, if_pos station, lower_isRaised]
  simp

theorem lowerWarningOf_isRaised_of_not {n : Nat} {q : Prompt} {s : State} (h : s.guidance.isRaised q = false) :
    (lowerWarningOf n s).guidance.isRaised q = false := by
  unfold lowerWarningOf
  split
  · split
    · rw [lower_isRaised, h, Bool.false_and]
    · exact h
  · exact h

theorem removePeer_lowers {n : Nat} {s : State} (law : s.promptLaw = true)
    (warned : (s.guidance.find .warningFromPeer).any (fun e => e.fields.station = some n) = true) :
    (removePeer n s).guidance.isRaised .warningFromPeer = false := by
  have once : (s.guidance.prompts.map (·.prompt)).Nodup := of_decide_eq_true (Bool.and_eq_true _ _ ▸ law).1
  obtain ⟨e, found, station⟩ : ∃ e, s.guidance.find .warningFromPeer = some e ∧ e.fields.station = some n := by
    cases found : s.guidance.find .warningFromPeer with
    | none => rw [found] at warned; cases warned
    | some e => rw [found] at warned; exact ⟨e, rfl, of_decide_eq_true warned⟩
  have judged : (removePeer n s).guidance.isRaised .warningFromPeer =
      (lowerWarningOf n (retestAll (s.withoutPeer n))).guidance.isRaised .warningFromPeer := by
    rw [removePeer_eq, (recheck_within _).1 .guidance (by simp), judgeEntry_isRaised (by decide) (by decide)]
  rw [judged]
  cases raised : s.guidance.isRaised .warningFromPeer with
  | true =>
    have shows := Guidance.shows_of_raised once found raised
    refine lowerWarningOf_lowers (f := e.fields) ?_ station
    rw [retestAll_guidance]
    unfold State.withoutPeer onRoller
    split
    · refine judgeRoleClash_shows (by decide) (by decide) ?_
      rw [removeAwaited_guidance]
      exact shows
    · exact shows
  | false =>
    refine lowerWarningOf_isRaised_of_not ?_
    rw [retestAll_guidance]
    unfold State.withoutPeer onRoller
    split
    · rw [judgeRoleClash_isRaised (by decide) (by decide), removeAwaited_guidance]
      exact raised
    · exact raised

/-- Settles O27: the tick's takers in turn, and the report of the lost peer block by block. -/
theorem peersAgeAndLeave : Obligations.PeersAgeAndLeave := by
  refine fun s => ⟨fun quiet => ?_, fun ready law p mem age lowest => ?_⟩
  · obtain ⟨peers, mode, latch⟩ := tick1_bus s
    have startUp : (guidanceTick1 s.aged).startUp = s.startUp :=
      ((guidanceTick1_within _).1 .startUp (by simp)).trans (aged_changes s .startUp (by simp))
    refine ⟨_, exec_outside_quiet quiet tick1, peers, mode, latch, tick1_queues s, ?_, ?_, tick1_changes s⟩
    · rw [tick1_eq, ← startUp]
      rfl
    · have clock : (tick1 s).clock = s.clock.tick1 := (guidanceTick1_within s.aged).1 .clock (by simp)
      rw [clock]
      exact Clock.passage_count_dvd _ (by decide) _
  · have run : exec .peerAbsent s = .next (removePeer p.station s) := by
      refine (exec_named (.peerAbsent, .peerAbsent) (by decide) s).trans (congrArg _ ?_)
      rw [named_ready ready, takeDue, absent_eq law mem age lowest]
    have changes := removePeer_changes p.station s
    obtain ⟨peers, mode, latch⟩ := removePeer_bus p.station s
    refine ⟨_, run, peers, fun active warn => ?_, removePeer_lowers, latch, mode, (removePeer_gear _ s).motors,
      changes .archive (by simp), changes .counters (by simp), changes .clock (by simp)⟩
    rw [removePeer_roller]
    exact withoutPeer_awaited active warn

end Sys2Proof.Machine
end

section
/-! The pulse counters: an edge at its counter, and the window counters that nothing else changes (R53, R55). -/

namespace Sys2Proof.Machine

/-! ### Operations that leave the window counters -/

theorem endStartUp_sample (s : State) : (endStartUp s).counters.sample = s.counters.sample := by
  have counters : (endStartUp s).counters = (takeSettings s.settled).counters := (endStartUp_settings s).only .counters (by simp)
  have begins : (takeSettings s.settled).counters = s.counters.begin s.startUp.role s.startUp.block := rfl
  rw [counters, begins]
  unfold Counters.begin
  split <;> rfl

/-- Of the due events the end of start-up alone touches the counters (R55). -/
theorem takeDue_counters {d : Due} (other : d ≠ .startUpEnd) (s : State) : (takeDue s d).counters = s.counters := by
  have event {r : State} (h : s.onlyChanges eventBlocks r) : r.counters = s.counters := h .counters (by simp)
  have report (reason : EndReason) (r : State) : (testReport reason r).counters = r.counters := by
    unfold testReport
    split
    · exact (enterStopping_within reason r).1 .counters (by simp)
    · rfl
  cases d with
  | certificateStart => exact (startHead_within s).1 .counters (by simp)
  | reprintStart => exact (startHead_within s).1 .counters (by simp)
  | inputFaulted n => exact event (faultInput_changes n s)
  | release => exact report _ _
  | slipStop => exact report _ _
  | warnHorn => exact (enterSpinUp_within s).1 .counters (by simp)
  | warnTimeout => exact (Within.after (enterPositioned_within _) (raise_roller _ _ s)).1 .counters (by simp)
  | runOut => exact (enterSpinUp_within s).1 .counters (by simp)
  | spinUpTimeout => exact (rollerFault_within _ s).1 .counters (by simp)
  | testLimit => exact (enterStopping_within _ s).1 .counters (by simp)
  | crossingTimeout => exact (crossingExpired_within s).1 .counters (by simp)
  | paperWait => exact (failJob_within _).1 .counters (by simp)
  | feedbackCount => exact (rollerFault_within _ s).1 .counters (by simp)
  | welded => exact event (weldedFound_changes s)
  | axleOn => exact (enterWeigh_within s).1 .counters (by simp)
  | axleLeaves => exact (axleLeft_within s).1 .counters (by simp)
  | rollDown => exact (enterResult_within s).1 .counters (by simp)
  | minimumShow => exact (showTimeMet_within s).1 .counters (by simp)
  | rejectedLife => exact (lower_within _ s).1 .counters (by simp)
  | warningLife => exact (lower_within _ s).1 .counters (by simp)
  | singleEnd => rfl
  | peerAbsent =>
    rw [takeDue]
    split
    · exact event (removePeer_changes _ s)
    · rfl
  | startUpEnd => exact absurd rfl other
  | converterStart => rfl

theorem takeDue_sample (s : State) (d : Due) : (takeDue s d).counters.sample = s.counters.sample := by
  by_cases ends : d = .startUpEnd
  · rw [ends]
    exact endStartUp_sample s
  · rw [takeDue_counters ends]

/-- The window counters stand at a value, whatever is due. -/
theorem settle_sample (s : State) : (settle s).counters.sample = s.counters.sample :=
  settle_keeps (P := fun r => r.counters.sample = s.counters.sample) (fun r d at' _ => (takeDue_sample r d).trans at') rfl

theorem named_sample (d : Due) (s : State) : (named d s).counters.sample = s.counters.sample :=
  named_keeps (P := fun r => r.counters.sample = s.counters.sample) (fun r d at' _ => (takeDue_sample r d).trans at') d rfl

theorem outside_sample {f : State → State} (same : ∀ r, (f r).counters = r.counters) (s : State) :
    (outside f s).counters.sample = s.counters.sample :=
  outside_keeps (P := fun r => r.counters.sample = s.counters.sample) (fun r d at' _ => (takeDue_sample r d).trans at')
    (fun r at' => (congrArg Counters.sample (same r)).trans at') rfl

/-! ### The commands -/

/-- A heard frame leaves the counters where its delivery does. -/
theorem heard_sample (f : WireFrame) {deliver : State → State} (h : ∀ r : State, r.onlyChanges eventBlocks (deliver r)) (s : State) :
    (outside (hearFrame f deliver) s).counters.sample = s.counters.sample :=
  outside_sample (fun r => hearFrame_changes f deliver h r .counters (by simp)) s

theorem stillFaulted_changes (n : Nat) (s : State) : s.onlyChanges eventBlocks (stillFaulted n s) := by
  have roller (r : State) : r.onlyChanges eventBlocks (onRoller (rollerFault .sensor) r) :=
    (onRoller_within (rollerFault_within .sensor) r).event (by simp)
  have plate (r : State) : r.onlyChanges eventBlocks (onPlate plateFault r) := (onPlate_within plateFault_within r).event (by simp)
  have first : s.onlyChanges eventBlocks (if n ≤ 4 then onRoller (rollerFault .sensor) s else s) :=
    State.onlyChanges_ite (roller s) (s.onlyChanges_refl _)
  exact State.onlyChanges_ite (State.onlyChanges_after (plate _) first) first

theorem takeOneOff_changes (raw : Nat) (s : State) : s.onlyChanges eventBlocks (takeOneOff raw s) := by
  have capture (r : State) (c : Capture) : r.onlyChanges eventBlocks (r.setCapture c) := (Within.setCapture r c).event (by simp)
  unfold takeOneOff
  split
  · exact State.onlyChanges_ite (State.onlyChanges_after (stillFaulted_changes _ _) (capture _ _))
      (State.onlyChanges_after (settleSensorFault_changes _) (State.onlyChanges_after (capture _ _) (capture _ _)))
  · exact s.onlyChanges_refl _

theorem setChain_changes (s : State) (ce : Capture × Eval) : s.onlyChanges eventBlocks (s.setChain ce) := (setChain_within s ce).event (by simp)

theorem finishEvaluation_changes (s : State) : s.onlyChanges eventBlocks (finishEvaluation s) := by
  unfold finishEvaluation
  dsimp only
  split
  · rename_i report _
    exact State.onlyChanges_after ((onPlate_within (plateReport_within report) _).event (by simp))
      (State.onlyChanges_after ((onRoller_within (rollerReport_within report) _).event (by simp)) (setChain_changes s _))
  · exact setChain_changes s _

theorem onPrinter_counters {f : State → State} (h : ∀ r, Within printBlocks r (f r)) (s : State) : (onPrinter f s).counters = s.counters := by
  unfold onPrinter
  split
  · exact (h s).1 .counters (by simp)
  · rfl

theorem paperOutRises_counters (s : State) : (paperOutRises s).counters = s.counters := by
  unfold paperOutRises
  dsimp only
  split
  · rfl
  · exact onPrinter_counters paperGone_within _

theorem paperOutFalls_counters (s : State) : (paperOutFalls s).counters = s.counters := by
  unfold paperOutFalls
  dsimp only
  split
  · exact onPrinter_counters paperBack_within _
  · rfl

/-- Nothing but an edge, an 8 Hz tick or the power changes the window counters (R53, R54). -/
theorem exec_sample {c : Instr} {s t : State} (h : exec c s = .next t) (edge : ∀ i, c ≠ .pulseEdge i) (tick : ∀ f, c ≠ .tick8Hz f)
    (on : c ≠ .powerOn) (off : ∀ l, c ≠ .powerOff l) (pin : ∀ l, c ≠ .resetPin l) : t.counters.sample = s.counters.sample := by
  have next {u : State} (k : u.counters.sample = s.counters.sample) (e : (Host.Outcome.next u : Host.Outcome State Fault Refusal) = .next t) :
      t.counters.sample = s.counters.sample := by
    cases e
    exact k
  have same {f : State → State} (k : ∀ r, (f r).counters = r.counters) := next (outside_sample k s)
  have event {f : State → State} (k : ∀ r : State, r.onlyChanges eventBlocks (f r)) := same (f := f) fun r => k r .counters (by simp)
  have heard {f : WireFrame} {deliver : State → State} (k : ∀ r : State, r.onlyChanges eventBlocks (deliver r)) := next (heard_sample f k s)
  have due (d : Due) := next (named_sample d s)
  have link (f : State → Bus) := same (f := fun r => r.setBus (f r)) fun _ => rfl
  have timers (f : State → Timers) := same (f := fun r => r.setTimers (f r)) fun _ => rfl
  have archive (f : State → Archive × List ArchiveReport) :=
    same (f := fun r => archiveStep (f r) r) fun r => (archiveStep_within (f r) r).1 .counters (by simp)
  cases c with
  | powerOn => exact absurd rfl on
  | powerOff left => exact absurd rfl (off left)
  | resetPin left => exact absurd rfl (pin left)
  | tick8Hz first => exact absurd rfl (tick first)
  | pulseEdge input => exact absurd rfl (edge input)
  | resetRelease station role printer =>
    refine next ?_ h
    split <;> rfl
  | memoryReadComplete c1 c2 c3 => exact same (f := memoryRead c1 c2 c3) (fun r => by unfold memoryRead; split <;> rfl) h
  | archiveScanComplete => exact same (f := scanDone) (fun r => by unfold scanDone; split <;> rfl) h
  | tick32Hz samples first =>
    exact same (f := tick32 samples first) (fun r => samples_changes samples (lineOrder first) (r.setClock r.clock.tick32) .counters (by simp)) h
  | tick1Hz => exact same (f := tick1) (fun r => tick1_changes r .counters (by simp)) h
  | pacingEvent timer => exact same (f := pacingUnderflow timer) (fun r => by unfold pacingUnderflow; split <;> split <;> rfl) h
  | toneUnderflow => exact timers _ h
  | dimmerUnderflow => exact timers _ h
  | dimmerCompareReached => exact timers _ h
  | rowComplete raws => exact same (f := takeRow raws) (fun _ => rfl) h
  | oneOffConversionComplete raw => exact event (f := takeOneOff raw.toNat) (takeOneOff_changes _) h
  | evaluationComplete => exact event finishEvaluation_changes h
  | frameStart => exact link _ h
  | lostArbitration => exact link _ h
  | bitError => exact link _ h
  | frameSent => exact link _ h
  | frameDiscarded bits => exact event (fun r => State.onlyChanges_ite (setBus_changes r _) (r.onlyChanges_refl _)) h
  | busIdle => exact event (fun r => State.onlyChanges_ite (setBus_changes r _) (r.onlyChanges_refl _)) h
  | becomesReceiver => exact event (fun r => State.onlyChanges_ite (setBus_changes r _) (r.onlyChanges_refl _)) h
  | unknownKindFrame cls kind source payload =>
    exact event (fun r => State.onlyChanges_ite (r.onlyChanges_refl _) (hearFrame_changes _ id (fun u => u.onlyChanges_refl _) r)) h
  | presence source payload => exact heard (fun r => r.onlyChanges_refl _) h
  | laneStop source payload => exact heard (onLaneStop_changes _ _) h
  | laneResume source payload => exact heard resumeHeard_changes h
  | motorWarning source payload => exact heard (onMotorWarning_changes _ _) h
  | warningShown source payload => exact heard (onWarningShown_changes _ _) h
  | rollersStopped source payload => exact heard (onRollersStopped_changes _) h
  | vehicleEntry source payload => exact heard (fun r => (registerVehicle_within _ r).event (by simp)) h
  | vehicleCancel source payload => exact heard (onVehicleCancel_changes _) h
  | axleEvent source payload => exact heard (onAxleEvent_changes _) h
  | axleLoad source payload => exact heard (fun r => (takeResult_within _ _ _ r).event (by simp)) h
  | brakeResult source payload => exact heard (onBrakeResult_changes _) h
  | slipResult source payload => exact heard (fun r => (takeResult_within _ _ _ r).event (by simp)) h
  | certRequest source payload => exact heard (onCertRequest_changes _ _) h
  | reprintRequest source payload => exact heard (onReprintRequest_changes _ _) h
  | certDone source payload => exact heard (onCertDone_changes _) h
  | printAnswer source payload => exact heard (fun r => r.onlyChanges_refl _) h
  | laneClear source payload => exact heard onLaneClear_changes h
  | panelFrameSent => exact same (fun r => (panelSent_within r).1 .counters (by simp)) h
  | printerReadyRise =>
    refine next ?_ h
    split
    · rw [onPrinter_counters fun r => (tryHand_within r).mono (by simp)]
      exact settle_sample s
    · rfl
  | lineSent => exact same (onPrinter_counters lineSent_within) h
  | paperOutActive =>
    refine next ?_ h
    split
    · rw [paperOutRises_counters]
      exact settle_sample s
    · rfl
  | paperOutInactive =>
    refine next ?_ h
    split
    · rw [paperOutFalls_counters]
      exact settle_sample s
    · rfl
  | eraseComplete left => exact archive _ h
  | recordProgramComplete pass left => exact archive _ h
  | markProgramComplete pass => exact archive _ h
  | inputFaulted input => exact due _ h
  | startUpEnd => exact due _ h
  | peerAbsent => exact due _ h
  | axleOnRollers => exact due _ h
  | axleLeaves => exact due _ h
  | feedbackCountExpiry => exact due _ h
  | weldedContactor => exact due _ h
  | rollDownComplete => exact due _ h
  | warnHornExpiry => exact due _ h
  | warningTimeout => exact due _ h
  | runOutExpiry => exact due _ h
  | spinUpTimeout => exact due _ h
  | testTimeLimit => exact due _ h
  | crossingExpiry => exact due _ h
  | paperWaitExpiry => exact due _ h
  | converterStart => exact due _ h
  | release => exact due _ h
  | slipStop => exact due _ h
  | minimumShowTimeMet => exact due _ h
  | entryRejectedLifeEnd => exact due _ h
  | warningLifeEnd => exact due _ h
  | singleCountEnd => exact due _ h
  | certificateJobStart => exact due _ h
  | reprintJobStart => exact due _ h

/-! ### One edge (R53, R55) -/

/-- A revolution counter at an edge: halted it stands, running it counts on or, at the compare, counts a revolution. -/
theorem RevCounter.edge_cases (c : RevCounter) : (c.running = false → c.edge = c) ∧
    (c.running = true → c.position + 1 < c.compare → c.edge = { c with position := c.position + 1 }) ∧
    (c.running = true → c.position + 1 = c.compare → c.edge = { c with position := 0, number := (c.number + 1) % 256 }) := by
  unfold RevCounter.edge
  refine ⟨fun halted => by rw [halted]; rfl, fun runs below => ?_, fun runs there => ?_⟩
  · rw [runs, Bool.not_true, if_neg Bool.false_ne_true, if_neg (by omega)]
  · rw [runs, Bool.not_true, if_neg Bool.false_ne_true, if_pos (by omega)]

theorem exec_pulseEdge {s : State} (quiet : s.quiet = true) (i : PulseInput) :
    exec (.pulseEdge i) s = .next (s.setCounters (s.counters.edge i)) := exec_outside_quiet quiet (countPulse i)

/-- Settles O28: the edge at its counter, and every other command by the blocks it changes. -/
theorem edgesAreCounted : Obligations.EdgesAreCounted := by
  have only (s : State) (c : Counters) : s.onlyChanges [.counters] (s.setCounters c) := (Within.setCounters s c).1
  refine ⟨fun s quiet => ⟨⟨_, exec_pulseEdge quiet .dl, rfl, s.counters.revL.edge_cases⟩, ⟨_, exec_pulseEdge quiet .dr, rfl, s.counters.revR.edge_cases⟩⟩,
    fun s quiet => ⟨⟨_, exec_pulseEdge quiet .dl, rfl, rfl, rfl, rfl, only _ _⟩, ⟨_, exec_pulseEdge quiet .dr, rfl, rfl, rfl, rfl, only _ _⟩,
      exec_pulseEdge quiet .sl, exec_pulseEdge quiet .sr⟩, rfl, fun s t c => exec_sample⟩

end Sys2Proof.Machine
end

section
/-! Pacing events and their row requests, the tone and the dimmer (R48 to R52, R61, R142). -/

namespace Sys2Proof.Machine

/-! ### Row requests (R49, R61) -/

theorem Capture.heldByOther_eq_false_iff {c : Capture} {i : StreamId} :
    c.heldByOther i = false ↔ ∀ j ∈ allStreams, j ≠ i → (c.stream j).holding = false := by
  simp [Capture.heldByOther]

/-- The streams of a trigger: those of the timer, and on PT0 the gated ones while the gate stands open (R49). -/
theorem Stream.triggeredBy_iff {x : Stream} {k : PacingTimer} {gate : Bool} : x.triggeredBy k gate = true ↔ x.running = true ∧
    ((k = .pt0 ∧ (x.config.trigger = .pt0 ∨ (x.config.trigger = .gate ∧ gate = true))) ∨ (k = .pt1 ∧ x.config.trigger = .pt1)) := by
  unfold Stream.triggeredBy
  rw [Bool.and_eq_true]
  refine and_congr_right fun _ => ?_
  cases x.config.trigger <;> cases k <;> simp

theorem Capture.requested_eq (c : Capture) (k : PacingTimer) (i : StreamId) : c.requested k i = { c.stream i with
    requests := (c.stream i).requests +
      (if (c.stream i).running = true ∧
          ((k = .pt0 ∧ ((c.stream i).config.trigger = .pt0 ∨ ((c.stream i).config.trigger = .gate ∧ c.gateOpen = true))) ∨
           (k = .pt1 ∧ (c.stream i).config.trigger = .pt1)) ∧
          (c.stream i).waiting = false ∧ (∀ j ∈ allStreams, j ≠ i → (c.stream j).holding = false) ∧ (c.stream i).requests < 255
        then 1 else 0) } := by
  have counts : ((c.stream i).triggeredBy k c.gateOpen && !(c.stream i).waiting && !c.heldByOther i && decide ((c.stream i).requests < 255)) = true ↔
      (c.stream i).running = true ∧
        ((k = .pt0 ∧ ((c.stream i).config.trigger = .pt0 ∨ ((c.stream i).config.trigger = .gate ∧ c.gateOpen = true))) ∨
         (k = .pt1 ∧ (c.stream i).config.trigger = .pt1)) ∧
        (c.stream i).waiting = false ∧ (∀ j ∈ allStreams, j ≠ i → (c.stream j).holding = false) ∧ (c.stream i).requests < 255 := by
    rw [Bool.and_eq_true, Bool.and_eq_true, Bool.and_eq_true, Stream.triggeredBy_iff, Bool.not_eq_true', Bool.not_eq_true',
      Capture.heldByOther_eq_false_iff, decide_eq_true_eq, and_assoc, and_assoc, and_assoc]
  unfold Capture.requested
  dsimp only
  by_cases raised : ((c.stream i).triggeredBy k c.gateOpen && !(c.stream i).waiting && !c.heldByOther i &&
      decide ((c.stream i).requests < 255)) = true
  · rw [if_pos raised, if_pos (counts.mp raised)]
  · rw [if_neg raised, if_neg fun h => raised (counts.mpr h)]
    rfl

theorem Capture.pace_stream (c : Capture) (k : PacingTimer) (i : StreamId) : (c.pace k).stream i = c.requested k i := by cases i <;> rfl

theorem pacingUnderflow_capture {k : PacingTimer} {s : State} (pt0 : k = .pt0 → s.timers.pt0.running = true)
    (pt1 : k = .pt1 → s.timers.pt1.running = true) : (pacingUnderflow k s).capture = s.capture.pace k := by
  cases k with
  | pt0 => simp [pacingUnderflow, pt0 rfl]
  | pt1 => simp [pacingUnderflow, pt1 rfl]

/-- Settles O29: the reload of the timer, and each stream by the terms of R61. -/
theorem pacingEventsRequestRows : Obligations.PacingEventsRequestRows := by
  intro s k quiet
  have run := exec_outside_quiet quiet (pacingUnderflow k)
  have only (t : Timers) (c : Capture) : s.onlyChanges [.timers, .capture] ((s.setTimers t).setCapture c) :=
    State.onlyChanges_after (State.onlyChanges_mono (Within.setCapture _ c).1 (by simp)) (State.onlyChanges_mono (Within.setTimers s t).1 (by simp))
  refine ⟨fun timer runs => ?_, fun timer runs => ?_, fun pt0 pt1 => ⟨_, run, fun i => ?_⟩, fun halted => run.trans (congrArg _ ?_)⟩
  · have taken : pacingUnderflow k s = (s.setTimers { s.timers with pt0 := s.timers.pt0.underflow }).setCapture (s.capture.pace .pt0) := by
      rw [timer, pacingUnderflow, if_pos runs]
    exact ⟨_, run, by rw [taken]; exact only _ _, by rw [taken]; rfl⟩
  · have taken : pacingUnderflow k s = (s.setTimers { s.timers with pt1 := s.timers.pt1.underflow }).setCapture (s.capture.pace .pt1) := by
      rw [timer, pacingUnderflow, if_pos runs]
    exact ⟨_, run, by rw [taken]; exact only _ _, by rw [taken]; rfl⟩
  · rw [pacingUnderflow_capture pt0 pt1, Capture.pace_stream, Capture.requested_eq]
  · rcases halted with ⟨timer, stopped⟩ | ⟨timer, stopped⟩
    · rw [timer, pacingUnderflow, if_neg (by rw [stopped]; simp)]
    · rw [timer, pacingUnderflow, if_neg (by rw [stopped]; simp)]

/-! ### The tone, the dimmer and the horn line (R50 to R52, R142) -/

/-- The horn line follows the tone where the pattern in force opens the gate. -/
theorem State.hornLine_iff (s : State) : s.hornLine = true ↔ s.timers.tone.output = true ∧
    (s.guidance.horn.inForce = .continuous ∨ s.guidance.horn.inForce = .single ∨
      (s.guidance.horn.inForce = .slow ∧ s.clock.count.testBit 7 = true) ∨
      (s.guidance.horn.inForce = .fast ∧ s.clock.count.testBit 4 = true ∧ s.clock.count.testBit 7 = true)) := by
  unfold State.hornLine State.hornGate
  cases s.guidance.horn.inForce <;> simp [Clock.level1, Clock.level8, Clock.level, Divided.bit, and_comm]

/-- Settles O30, each underflow by the state of its timer. -/
theorem toneAndDimmerFollowTheirTimers : Obligations.ToneAndDimmerFollowTheirTimers := by
  intro s quiet
  have tone := exec_outside_quiet quiet fun s => s.setTimers { s.timers with tone := s.timers.tone.underflow }
  have dimmer := exec_outside_quiet quiet fun s => s.setTimers { s.timers with dimmer := s.timers.dimmer.underflow }
  have compare := exec_outside_quiet quiet fun s => s.setTimers { s.timers with dimmer := s.timers.dimmer.reachCompare }
  refine ⟨fun runs => ?_, fun runs => ?_, fun runs lit above => ⟨_, compare, ?_, ?_⟩, fun halted => ?_, fun halted => ⟨?_, ?_⟩, fun dark => ?_,
    s.hornLine_iff⟩
  · refine tone.trans ?_
    rw [ToneTimer.underflow, if_pos runs]
  · refine dimmer.trans ?_
    rw [Dimmer.underflow, if_pos runs]
    cases s.timers.dimmer.pendingCompare <;> rfl
  · simp [State.lampDimLine, Dimmer.lit, Dimmer.reachCompare, runs, lit, above]
  · simp [Dimmer.reachCompare, runs, lit, above]
  · refine tone.trans ?_
    rw [ToneTimer.underflow, if_neg (by rw [halted]; simp)]
    rfl
  · refine dimmer.trans ?_
    rw [Dimmer.underflow, if_neg (by rw [halted]; simp)]
    rfl
  · rw [State.lampDimLine, Dimmer.lit, halted, Bool.false_and, Bool.false_and]
  · rw [State.lampDimLine, Dimmer.lit, decide_eq_false (by omega), Bool.and_false, Bool.false_and]

end Sys2Proof.Machine
end

section
/-! The converter's next work, and where a completed row goes (R63 to R71). -/

namespace Sys2Proof.Machine

/-! ### The converter (R63, R64) -/

/-- The stream found first is the one of lowest number. -/
theorem find?_allStreams_lower {p : StreamId → Bool} {i j : StreamId} (found : allStreams.find? p = some i) (lower : j.num < i.num) :
    p j = false := by
  have sorted : allStreams.Pairwise fun a b => a.num < b.num := by decide
  obtain ⟨-, before, after, split, first⟩ := List.find?_eq_some_iff_append.mp found
  have mem := mem_allStreams j
  rw [split] at mem sorted
  rcases List.mem_append.mp mem with earlier | here
  · simpa using first j earlier
  · rcases List.mem_cons.mp here with rfl | later
    · omega
    · have above := (List.pairwise_cons.mp (List.pairwise_append.mp sorted).2.1).1 j later
      omega

/-- Settles O31: the requests stand in rising order, and the streams in the order of their numbers. -/
theorem converterTakesTheNextWork : Obligations.ConverterTakesTheNextWork := by
  intro s ready law
  have run : exec .converterStart s = .next (s.setCapture (s.capture.start s.counters.revL.number s.counters.revR.number)) :=
    (exec_named (.converterStart, .converterStart) (by decide) s).trans (congrArg _ (named_ready ready))
  obtain ⟨⟨-, rising, -⟩, -⟩ := State.captureLaw_iff.mp law
  refine ⟨_, run, (Within.setCapture s _).1, fun given => ?_, fun empty => ?_⟩
  · cases list : s.capture.oneOffs with
    | nil => exact absurd list given
    | cons n ns =>
      rw [list] at rising
      obtain ⟨above, -⟩ := List.pairwise_cons.mp rising
      refine ⟨n, List.mem_cons_self, fun m mem => ?_, ?_⟩
      · rcases List.mem_cons.mp mem with rfl | later
        · exact Nat.le_refl _
        · exact Nat.le_of_lt (above m later)
      · have rest : (n :: ns).filter (fun m => m ≠ n) = ns := by
          rw [List.filter_cons_of_neg (by simp)]
          exact List.filter_eq_self.mpr fun m later => by simpa using Nat.ne_of_gt (above m later)
        rw [rest]
        simp [Capture.start, list]
  · have due : s.isDue .converterStart = true := (Bool.and_eq_true _ _ ▸ ready).2
    have waits : allStreams.any (fun i => decide (0 < (s.capture.stream i).requests)) = true := by
      simp only [State.isDue, Capture.workWaiting, empty, Bool.and_eq_true] at due
      simpa using due.2.2
    obtain ⟨i, found⟩ : ∃ i, allStreams.find? (fun i => decide (0 < (s.capture.stream i).requests)) = some i :=
      Option.isSome_iff_exists.mp (List.find?_isSome.mpr (by simpa using waits))
    have started : s.capture.start s.counters.revL.number s.counters.revR.number =
        { s.capture.setStream i { s.capture.stream i with requests := (s.capture.stream i).requests - 1 } with
          converter := .row i (s.capture.stream i).runNumber (s.capture.stream i).config.columns s.counters.revL.number
            s.counters.revR.number (s.capture.stream i).rails false } := by
      simp [Capture.start, empty, found]
    refine ⟨i, mem_allStreams i, by simpa using List.find?_some found, fun j _ lower => ?_, ?_, fun j _ other => ?_, ?_⟩
    · simpa using find?_allStreams_lower found lower
    · rw [started]
      exact (Capture.stream_withConverter _ _ i).trans (Capture.stream_setStream_same _ i _)
    · rw [started]
      exact (Capture.stream_withConverter _ _ j).trans (Capture.stream_setStream_other _ other _)
    · rw [started]
      rfl

/-! ### Buffers of a stream -/

@[simp] theorem Stream.buffer_setBuffer (x : Stream) (inB : Bool) (b : Buffer) :
    (x.setBuffer inB b).buffer inB = b ∧ (x.setBuffer inB b).buffer (!inB) = x.buffer (!inB) := by
  cases inB <;> exact ⟨rfl, rfl⟩

theorem Stream.buffer_setBuffer_not (x : Stream) (inB : Bool) (b : Buffer) :
    (x.setBuffer (!inB) b).buffer (!inB) = b ∧ (x.setBuffer (!inB) b).buffer inB = x.buffer inB := by
  cases inB <;> exact ⟨rfl, rfl⟩

theorem Stream.fulls_eq (x : Stream) (inB : Bool) :
    x.fulls = (if (x.buffer inB).state = .full then 1 else 0) + (if (x.buffer (!inB)).state = .full then 1 else 0) := by
  cases inB with
  | false => rfl
  | true => exact Nat.add_comm _ _

/-! ### The hand-over (R69, R78) -/

/-- A hand-over that finds nothing to do. -/
theorem handOver_rest {c : Capture} {e : Eval} (h : HandedOver c e) : handOver (c, e) = (c, e) := by
  unfold handOver handOverPages
  rcases h with busy | none
  · rw [if_pos busy]
  · split
    · rfl
    · rw [none]

/-- A stream without a FULL page is left by a hand-over. -/
theorem handOverPages_leaves {j : StreamId} : ∀ (fuel : Nat) (c : Capture) (e : Eval), (c.stream j).fulls = 0 →
    (handOverPages fuel (c, e)).1.stream j = c.stream j
  | 0, _, _, _ => rfl
  | fuel + 1, c, e, empty => by
    unfold handOverPages
    split
    · rfl
    · split
      · rfl
      · rename_i i inB next
        have full := Capture.nextFull_state next
        have other : j ≠ i := by
          rintro rfl
          rw [(c.stream j).fulls_eq inB, if_pos full] at empty
          omega
        have kept : (c.setStream i ((c.stream i).handOver inB)).stream j = c.stream j := Capture.stream_setStream_other c other _
        dsimp only
        split
        · exact kept
        · have released : ((c.setStream i ((c.stream i).handOver inB)).release i inB).stream j = c.stream j :=
            (Capture.stream_setStream_other _ other _).trans kept
          rw [handOverPages_leaves fuel _ e (by rw [released]; exact empty), released]

/-- The stream that a hand-over finds alone with a FULL page, in one buffer. -/
theorem Capture.nextFull_single {d : Capture} (clear : d.nextFull = none) {i : StreamId} {x : Stream} {inB : Bool}
    (full : (x.buffer inB).state = .full) (other : (x.buffer (!inB)).state ≠ .full) : (d.setStream i x).nextFull = some (i, inB) := by
  rw [Capture.nextFull_eq_none] at clear
  have single : x.fulls = 1 := by rw [x.fulls_eq inB, if_pos full, if_neg other]
  have total := d.fulls_setStream i x
  have stream : (d.stream i).fulls ≤ d.fulls := by
    cases i <;> simp only [Capture.fulls, Capture.stream] <;> omega
  cases next : (d.setStream i x).nextFull with
  | none =>
    rw [Capture.nextFull_eq_none] at next
    omega
  | some found =>
    obtain ⟨j, b⟩ := found
    have state := Capture.nextFull_state next
    by_cases here : j = i
    · subst here
      rw [Capture.stream_setStream_same] at state
      by_cases same : b = inB
      · rw [same]
      · have opposite : b = !inB := by cases b <;> cases inB <;> simp_all
        exact absurd (opposite ▸ state) other
    · rw [Capture.stream_setStream_other d here] at state
      have some : 1 ≤ (d.stream j).fulls := by rw [(d.stream j).fulls_eq b, if_pos state]; omega
      have part : (d.stream j).fulls ≤ d.fulls := by
        cases j <;> simp only [Capture.fulls, Capture.stream] <;> omega
      omega

/-- A hand-over that finds one FULL page: it goes to the unit where it is wanted, else its buffer is released (R69, R78). -/
theorem handOver_single {d : Capture} {e : Eval} (clear : d.nextFull = none) (free : e.slot = none) {i : StreamId} {x : Stream} {inB : Bool}
    (full : (x.buffer inB).state = .full) (other : (x.buffer (!inB)).state ≠ .full) :
    (e.wants i (x.buffer inB).run = true → handOver (d.setStream i x, e) =
      ((d.setStream i x).setStream i (x.handOver inB), { e with slot := some (x.pageOf i inB) })) ∧
    (e.wants i (x.buffer inB).run = false → handOver (d.setStream i x, e) =
      (((d.setStream i x).setStream i (x.handOver inB)).release i inB, e)) := by
  have next := Capture.nextFull_single clear full other (i := i)
  have passed := Capture.passOver_fulls (Capture.nextFull_state next)
  rw [Capture.stream_setStream_same] at passed
  have one : (d.setStream i x).fulls = 1 := by
    have total := d.fulls_setStream i x
    rw [x.fulls_eq inB, if_pos full, if_neg other] at total
    rw [Capture.nextFull_eq_none] at clear
    have stream : (d.stream i).fulls ≤ d.fulls := by
      cases i <;> simp only [Capture.fulls, Capture.stream] <;> omega
    omega
  have step : handOver (d.setStream i x, e) = if e.wants i (x.buffer inB).run then
      ((d.setStream i x).setStream i (x.handOver inB), { e with slot := some (x.pageOf i inB) })
      else handOverPages 8 (((d.setStream i x).setStream i (x.handOver inB)).release i inB, e) := by
    rw [handOver, handOverPages, if_neg (by rw [free]; simp), next]
    simp only [Capture.stream_setStream_same]
    rfl
  refine ⟨fun wanted => by rw [step, if_pos wanted], fun unwanted => ?_⟩
  rw [step, if_neg (by rw [unwanted]; simp), handOverPages, if_neg (by rw [free]; simp), Capture.nextFull_eq_none.mpr (by omega)]

/-! ### A row in its stream (R64 to R67) -/

/-- The row enters its stream's FILLING buffer. -/
theorem Stream.enter_filling {x : Stream} (law : x.bufferLaw = true) {inB : Bool} (mode : x.config.mode = .page)
    (filling : (x.buffer inB).state = .filling) (r : Row) : x.enter r = x.addRow inB r := by
  have alone := (Stream.bufferLaw_iff.mp law).1
  unfold Stream.enter
  rw [mode]
  cases inB with
  | false => exact if_pos filling
  | true =>
    have notA : x.bufA.state ≠ .filling := fun a => alone a filling
    exact (if_neg notA).trans (if_pos filling)

theorem Stream.addRow_short {x : Stream} {inB : Bool} (short : (x.buffer inB).rows.length + 1 < x.config.pageLength) (r : Row) :
    x.addRow inB r = x.setBuffer inB { x.buffer inB with rows := (x.buffer inB).rows ++ [r] } := if_neg (by omega)

theorem Stream.addRow_dropped {x : Stream} {inB : Bool} (whole : x.config.pageLength ≤ (x.buffer inB).rows.length + 1)
    (other : (x.buffer (!inB)).state ≠ .empty) (r : Row) :
    x.addRow inB r = { x with seqCounter := nextSequence x.seqCounter, holding := false }.setBuffer inB Buffer.fresh := by
  unfold Stream.addRow Stream.complete
  dsimp only
  rw [if_pos whole, if_neg (by rw [(x.buffer_setBuffer inB _).2]; exact other)]
  cases inB <;> rfl

theorem Stream.addRow_kept {x : Stream} {inB : Bool} (whole : x.config.pageLength ≤ (x.buffer inB).rows.length + 1)
    (other : (x.buffer (!inB)).state = .empty) (r : Row) :
    x.addRow inB r = ({ x with seqCounter := nextSequence x.seqCounter, holding := false }.setBuffer inB
      ⟨.full, (x.buffer inB).rows ++ [r], x.runNumber, nextSequence x.seqCounter, false, x.config.columns⟩).setBuffer (!inB) Buffer.fresh := by
  unfold Stream.addRow Stream.complete
  dsimp only
  rw [if_pos whole, if_pos (by rw [(x.buffer_setBuffer inB _).2]; exact other)]
  cases inB <;> rfl

/-- The stream of a completed row: the rail counts of its own run, and the row in it unless it is discarded (R64, R71). -/
def Stream.afterRow (x : Stream) (run : Nat) (rails : List Nat) (row : Row) (discard : Bool) : Stream :=
  let y := if x.runNumber = run then { x with rails := rails } else x
  if discard then y else y.enter row

/-- A row's values, as the command gives them. -/
def rowValues (cols : List Nat) (raws : List Raw) : List Nat := cols.mapIdx fun k _ => (raws.map (·.toNat)).getD k 0

/-- The capture block of a completed row, but for its stream: the converter idle, and the faults that are due. -/
def Capture.rowTaken (c : Capture) (cols rails values : List Nat) : Capture :=
  ({ c with converter := .idle } : Capture).markDue (checkRails cols rails values).2

theorem Capture.rowTaken_stream (c : Capture) (cols rails values : List Nat) (j : StreamId) :
    (c.rowTaken cols rails values).stream j = c.stream j := by cases j <;> rfl

theorem Capture.rowTaken_nextFull {c : Capture} (clear : c.nextFull = none) (cols rails values : List Nat) :
    (c.rowTaken cols rails values).nextFull = none :=
  Capture.nextFull_congr (fun j => by rw [Capture.rowTaken_stream]) clear

theorem takeRow_eq {s : State} {i : StreamId} {run l r : Nat} {cols rails : List Nat} {discarded : Bool}
    (row : s.capture.converter = .row i run cols l r rails discarded) (raws : List Raw) :
    takeRow raws s = s.setChain (handOver (((s.capture.rowTaken cols rails (rowValues cols raws)).setStream i
      ((s.capture.stream i).afterRow run (checkRails cols rails (rowValues cols raws)).1 ⟨l, r, rowValues cols raws⟩ discarded)), s.eval)) := by
  have commutes (c : Capture) (z : Stream) (hits : List Nat) :
      ({ c.setStream i z with converter := .idle } : Capture).markDue hits = (({ c with converter := .idle } : Capture).markDue hits).setStream i z := by
    cases i <;> rfl
  unfold takeRow completeRow
  dsimp only
  rw [row]
  dsimp only
  rw [commutes]
  rfl

/-- The rail counts alone distinguish the stream that a row finds from that of before. -/
theorem Stream.afterRow_counted (x : Stream) (run : Nat) (rails : List Nat) (row : Row) :
    ∃ rs : List Nat, x.afterRow run rails row true = { x with rails := rs } ∧
      x.afterRow run rails row false = ({ x with rails := rs } : Stream).enter row ∧ (x.runNumber = run → rs = rails) ∧ (x.runNumber ≠ run → rs = x.rails) := by
  unfold Stream.afterRow
  by_cases same : x.runNumber = run
  · exact ⟨rails, by simp [same], by simp [same], fun _ => rfl, fun other => absurd same other⟩
  · exact ⟨x.rails, by simp [same], by simp [same], fun is => absurd is same, fun _ => rfl⟩

end Sys2Proof.Machine
end

section
/-! Completed rows: the stream they enter, the page they complete, and the rail values they bring (R60, R64 to R71). -/

namespace Sys2Proof.Machine

/-! ### The station after a row -/

theorem exec_rowComplete {s : State} (quiet : s.quiet = true) (raws : List Raw) : exec (.rowComplete raws) s = .next (takeRow raws s) :=
  exec_outside_quiet quiet (takeRow raws)

theorem takeRow_changes (raws : List Raw) (s : State) : s.onlyChanges [.capture, .eval] (takeRow raws s) := (setChain_within s _).1

/-- What a completed row leaves of the capture block, whatever becomes of its page. -/
theorem takeRow_same {s : State} {i : StreamId} {run l r : Nat} {cols rails : List Nat} {discarded : Bool}
    (row : s.capture.converter = .row i run cols l r rails discarded) (raws : List Raw) :
    SameCapture ((s.capture.rowTaken cols rails (rowValues cols raws)).setStream i
      ((s.capture.stream i).afterRow run (checkRails cols rails (rowValues cols raws)).1 ⟨l, r, rowValues cols raws⟩ discarded))
      (takeRow raws s).capture := by
  rw [takeRow_eq row]
  exact (handOver_same _ _).1

theorem takeRow_rest {s : State} {i : StreamId} {run l r : Nat} {cols rails : List Nat} {discarded : Bool}
    (row : s.capture.converter = .row i run cols l r rails discarded) (raws : List Raw) {z : Stream}
    (after : (s.capture.stream i).afterRow run (checkRails cols rails (rowValues cols raws)).1 ⟨l, r, rowValues cols raws⟩ discarded = z)
    (law : HandedOver s.capture s.eval) (rest : s.eval.slot.isSome = true ∨ z.fulls = (s.capture.stream i).fulls) :
    (takeRow raws s).capture.stream i = z ∧ (takeRow raws s).eval = s.eval := by
  have handed : HandedOver ((s.capture.rowTaken cols rails (rowValues cols raws)).setStream i z) s.eval := by
    rcases law with busy | clear
    · exact Or.inl busy
    · rcases rest with busy | same
      · exact Or.inl busy
      · exact HandedOver.setStream (Or.inr (Capture.rowTaken_nextFull clear cols rails (rowValues cols raws)))
          (by rw [Capture.rowTaken_stream]; exact same)
  rw [takeRow_eq row, after, handOver_rest handed]
  exact ⟨Capture.stream_setStream_same _ i z, rfl⟩

theorem takeRow_others {s : State} {i : StreamId} {run l r : Nat} {cols rails : List Nat} {discarded : Bool}
    (row : s.capture.converter = .row i run cols l r rails discarded) (raws : List Raw) (law : HandedOver s.capture s.eval)
    {j : StreamId} (other : j ≠ i) : (takeRow raws s).capture.stream j = s.capture.stream j := by
  rw [takeRow_eq row]
  have before (z : Stream) : ((s.capture.rowTaken cols rails (rowValues cols raws)).setStream i z).stream j = s.capture.stream j :=
    (Capture.stream_setStream_other _ other z).trans (Capture.rowTaken_stream _ _ _ _ j)
  rcases law with busy | clear
  · rw [handOver_rest (Or.inl busy)]
    exact before _
  · have total := Capture.nextFull_eq_none.mp clear
    have part : (s.capture.stream j).fulls ≤ s.capture.fulls := by
      cases j <;> simp only [Capture.fulls, Capture.stream] <;> omega
    refine (handOverPages_leaves 9 _ _ ?_).trans (before _)
    rw [before]
    omega

theorem Stream.fulls_setBuffer {x : Stream} {inB : Bool} {b : Buffer} (before : (x.buffer inB).state ≠ .full) (after : b.state ≠ .full) :
    (x.setBuffer inB b).fulls = x.fulls := by
  rw [(x.setBuffer inB b).fulls_eq inB, x.fulls_eq inB, (x.buffer_setBuffer inB b).1, (x.buffer_setBuffer inB b).2, if_neg before, if_neg after]

/-- What a row leaves of its stream, and the sequence a completed page takes (R67). -/
theorem Stream.addRow_items (x : Stream) (inB : Bool) (r : Row) : (x.addRow inB r).latest = x.latest ∧ (x.addRow inB r).rails = x.rails ∧
    (x.config.pageLength ≤ (x.buffer inB).rows.length + 1 → (x.addRow inB r).seqCounter = nextSequence x.seqCounter) := by
  by_cases whole : x.config.pageLength ≤ (x.buffer inB).rows.length + 1
  · by_cases other : (x.buffer (!inB)).state = .empty
    · rw [Stream.addRow_kept whole other]
      cases inB <;> exact ⟨rfl, rfl, fun _ => rfl⟩
    · rw [Stream.addRow_dropped whole other]
      cases inB <;> exact ⟨rfl, rfl, fun _ => rfl⟩
  · rw [Stream.addRow_short (by omega)]
    cases inB <;> exact ⟨rfl, rfl, fun is => absurd is whole⟩

/-- A row in a FILLING buffer: the page goes on, is dropped, or is kept beside an EMPTY buffer (R64, R67). -/
theorem takeRow_added {s : State} {i : StreamId} {run l r : Nat} {cols rails : List Nat}
    (row : s.capture.converter = .row i run cols l r rails false) (raws : List Raw) {x : Stream} {inB : Bool}
    (added : (s.capture.stream i).afterRow run (checkRails cols rails (rowValues cols raws)).1 ⟨l, r, rowValues cols raws⟩ false =
      x.addRow inB ⟨l, r, rowValues cols raws⟩)
    (handed : HandedOver s.capture s.eval) (fulls : x.fulls = (s.capture.stream i).fulls) (filling : (x.buffer inB).state = .filling) :
    ((takeRow raws s).capture.stream i).latest = x.latest ∧
    ((x.buffer inB).rows.length + 1 < x.config.pageLength →
      ((takeRow raws s).capture.stream i).buffer (!inB) = x.buffer (!inB) ∧ (takeRow raws s).eval = s.eval ∧
      ((takeRow raws s).capture.stream i).buffer inB =
        { x.buffer inB with rows := (x.buffer inB).rows ++ [⟨l, r, rowValues cols raws⟩] }) ∧
    (x.config.pageLength ≤ (x.buffer inB).rows.length + 1 →
      ((takeRow raws s).capture.stream i).seqCounter = (x.seqCounter + 1) % 4294967296 ∧
      ((x.buffer (!inB)).state ≠ .empty → (takeRow raws s).eval = s.eval ∧
        (((takeRow raws s).capture.stream i).buffer inB).state = .filling ∧ (((takeRow raws s).capture.stream i).buffer inB).rows = [] ∧
        ((takeRow raws s).capture.stream i).buffer (!inB) = x.buffer (!inB)) ∧
      ((x.buffer (!inB)).state = .empty → s.eval.slot.isSome = true → (takeRow raws s).eval = s.eval ∧
        (((takeRow raws s).capture.stream i).buffer (!inB)).state = .filling ∧ (((takeRow raws s).capture.stream i).buffer inB).state = .full ∧
        (((takeRow raws s).capture.stream i).buffer inB).seq = ((takeRow raws s).capture.stream i).seqCounter ∧
        (((takeRow raws s).capture.stream i).buffer inB).run = x.runNumber ∧
        (((takeRow raws s).capture.stream i).buffer inB).short = false)) := by
  have items := (takeRow_same row raws).streams i
  rw [Capture.stream_setStream_same, added] at items
  obtain ⟨latest, -, sequence⟩ := x.addRow_items inB ⟨l, r, rowValues cols raws⟩
  have notFull : (x.buffer inB).state ≠ .full := by rw [filling]; simp
  refine ⟨items.latest.trans latest, fun short => ?_, fun whole => ⟨items.seqCounter.trans (sequence whole), fun other => ?_, fun other busy => ?_⟩⟩
  · rw [Stream.addRow_short short] at added
    obtain ⟨stream, eval⟩ := takeRow_rest row raws added handed (Or.inr ((Stream.fulls_setBuffer notFull (by exact notFull)).trans fulls))
    obtain ⟨here, there⟩ := x.buffer_setBuffer inB { x.buffer inB with rows := (x.buffer inB).rows ++ [⟨l, r, rowValues cols raws⟩] }
    rw [stream, here, there]
    exact ⟨rfl, eval, rfl⟩
  · rw [Stream.addRow_dropped whole other] at added
    obtain ⟨stream, eval⟩ := takeRow_rest row raws added handed (Or.inr (by
      rw [Stream.fulls_setBuffer (x := { x with seqCounter := nextSequence x.seqCounter, holding := false }) notFull (by simp [Buffer.fresh])]
      exact fulls))
    obtain ⟨here, there⟩ := Stream.buffer_setBuffer { x with seqCounter := nextSequence x.seqCounter, holding := false } inB Buffer.fresh
    rw [stream, here, there]
    exact ⟨eval, rfl, rfl, rfl⟩
  · rw [Stream.addRow_kept whole other] at added
    obtain ⟨stream, eval⟩ := takeRow_rest row raws added handed (Or.inl busy)
    rw [stream]
    cases inB <;> exact ⟨eval, rfl, rfl, rfl, rfl, rfl⟩

/-- Settles O32: the row by the mode of its stream, its page by the other buffer and the evaluation unit's slot. -/
theorem rowsEnterTheirStream : Obligations.RowsEnterTheirStream := by
  intro s raws quiet law i run l r cols rails discarded row
  obtain ⟨⟨-, -, buffers⟩, handed⟩ := State.captureLaw_iff.mp law
  have same := takeRow_same row raws
  obtain ⟨rs, dropped, entered, -, -⟩ := (s.capture.stream i).afterRow_counted run (checkRails cols rails (rowValues cols raws)).1
    ⟨l, r, rowValues cols raws⟩
  obtain ⟨gate, faulted, -, -, converter⟩ := Capture.setStream_rest (s.capture.rowTaken cols rails (rowValues cols raws)) i
    ((s.capture.stream i).afterRow run (checkRails cols rails (rowValues cols raws)).1 ⟨l, r, rowValues cols raws⟩ discarded)
  refine ⟨_, exec_rowComplete quiet raws, takeRow_changes raws s, same.converter.trans converter, same.faulted.trans faulted,
    same.gateOpen.trans gate, fun j _ other => takeRow_others row raws handed other, fun stopped => ?_, fun runs mode => ?_,
    fun inB runs mode filling => ?_⟩
  · subst stopped
    obtain ⟨stream, eval⟩ := takeRow_rest row raws dropped handed (Or.inr rfl)
    exact ⟨eval, by rw [stream]⟩
  · subst runs
    have latest : ({ s.capture.stream i with rails := rs } : Stream).enter ⟨l, r, rowValues cols raws⟩ =
        { s.capture.stream i with rails := rs, latest := some ⟨l, r, rowValues cols raws⟩ } := by
      unfold Stream.enter
      rw [mode]
    obtain ⟨stream, eval⟩ := takeRow_rest row raws (entered.trans latest) handed (Or.inr rfl)
    rw [stream]
    exact ⟨eval, rfl, rfl, rfl⟩
  · subst runs
    exact takeRow_added row raws (x := { s.capture.stream i with rails := rs })
      (entered.trans (Stream.enter_filling (x := { s.capture.stream i with rails := rs }) (buffers i) mode filling _)) handed rfl filling

end Sys2Proof.Machine
end

section
/-! A completed page handed over or passed over, and the rail values of a row (R58, R68 to R71, R78). -/

namespace Sys2Proof.Machine

/-! ### A page completed while the evaluation unit is free (R68, R69, R70, R78) -/

/-- The stream whose page completes beside an EMPTY buffer. -/
def Stream.withPage (x : Stream) (inB : Bool) (r : Row) : Stream :=
  ({ x with seqCounter := nextSequence x.seqCounter, holding := false }.setBuffer inB
    ⟨.full, (x.buffer inB).rows ++ [r], x.runNumber, nextSequence x.seqCounter, false, x.config.columns⟩).setBuffer (!inB) Buffer.fresh

theorem Stream.withPage_buffers (x : Stream) (inB : Bool) (r : Row) : (x.withPage inB r).buffer inB =
    ⟨.full, (x.buffer inB).rows ++ [r], x.runNumber, nextSequence x.seqCounter, false, x.config.columns⟩ ∧
    (x.withPage inB r).buffer (!inB) = Buffer.fresh ∧ (x.withPage inB r).waiting = x.waiting ∧ (x.withPage inB r).lastDelivered = x.lastDelivered := by
  cases inB <;> exact ⟨rfl, rfl, rfl, rfl⟩

/-- A stream after its page has been taken: the buffer HELD, the last delivered sequence the page's. -/
theorem Stream.handOver_items (x : Stream) (inB : Bool) : (x.handOver inB).buffer inB = { x.buffer inB with state := .held } ∧
    (x.handOver inB).buffer (!inB) = x.buffer (!inB) ∧ (x.handOver inB).lastDelivered = (x.buffer inB).seq ∧ (x.handOver inB).waiting = x.waiting := by
  cases inB <;> exact ⟨rfl, rfl, rfl, rfl⟩

/-- A buffer released by a stream that does not wait is EMPTY. -/
theorem Stream.release_items {x : Stream} (patient : x.waiting = false) (inB held : Bool) : ((x.release inB held).buffer inB).state = .empty ∧
    (x.release inB held).buffer (!inB) = x.buffer (!inB) ∧ (x.release inB held).lastDelivered = x.lastDelivered := by
  have goesOn : x.release inB held = x.setBuffer inB Buffer.clear := by
    have same : (x.setBuffer inB Buffer.clear).waiting = false := by cases inB <;> exact patient
    exact if_neg (by rw [same]; simp)
  rw [goesOn]
  cases inB <;> exact ⟨rfl, rfl, rfl⟩

/-- Settles O33: one page stands FULL, and goes to the unit or is passed over. -/
theorem wantedPageIsHandedOver : Obligations.WantedPageIsHandedOver := by
  intro s raws quiet law i run l r cols rails inB row mode filling other free whole
  obtain ⟨⟨-, -, buffers⟩, handed⟩ := State.captureLaw_iff.mp law
  have clear : s.capture.nextFull = none := handed.resolve_left (by rw [free]; simp)
  obtain ⟨rs, -, entered, -, -⟩ := (s.capture.stream i).afterRow_counted run (checkRails cols rails (rowValues cols raws)).1
    ⟨l, r, rowValues cols raws⟩
  let x : Stream := { s.capture.stream i with rails := rs }
  have patient : x.waiting = false :=
    ((Stream.bufferLaw_iff.mp (buffers i)).2.1 (by cases inB; exacts [Or.inl filling, Or.inr filling])).2.2
  have added := (entered.trans (Stream.enter_filling (x := x) (buffers i) mode filling ⟨l, r, rowValues cols raws⟩)).trans
    (Stream.addRow_kept (x := x) whole other ⟨l, r, rowValues cols raws⟩)
  obtain ⟨here, there, waits, delivered⟩ := x.withPage_buffers inB ⟨l, r, rowValues cols raws⟩
  obtain ⟨held, stays, sequence, patience⟩ := (x.withPage inB ⟨l, r, rowValues cols raws⟩).handOver_items inB
  obtain ⟨wanted, unwanted⟩ := handOver_single (i := i) (x := x.withPage inB ⟨l, r, rowValues cols raws⟩) (inB := inB)
    (Capture.rowTaken_nextFull clear cols rails (rowValues cols raws)) free (by rw [here]) (by rw [there]; simp [Buffer.fresh])
  have given : takeRow raws s = s.setChain (handOver ((s.capture.rowTaken cols rails (rowValues cols raws)).setStream i
      (x.withPage inB ⟨l, r, rowValues cols raws⟩), s.eval)) := (takeRow_eq row raws).trans (by rw [added]; rfl)
  rw [here] at wanted unwanted held
  refine ⟨_, exec_rowComplete quiet raws, takeRow_changes raws s, ?_⟩
  rw [given]
  cases wants : s.eval.wants i (s.capture.stream i).runNumber with
  | true =>
    rw [wanted wants]
    have stream : ((s.setChain (((s.capture.rowTaken cols rails (rowValues cols raws)).setStream i
        (x.withPage inB ⟨l, r, rowValues cols raws⟩)).setStream i ((x.withPage inB ⟨l, r, rowValues cols raws⟩).handOver inB),
        { s.eval with slot := some ((x.withPage inB ⟨l, r, rowValues cols raws⟩).pageOf i inB) })).capture.stream i) =
        (x.withPage inB ⟨l, r, rowValues cols raws⟩).handOver inB := Capture.stream_setStream_same _ i _
    rw [stream, held, stays, there, sequence, here]
    refine ⟨rfl, rfl, fun c => absurd c (by simp), fun _ => ⟨rfl, _, rfl, rfl, rfl, rfl, ?_⟩⟩
    unfold Stream.pageOf
    rw [here, delivered]
    exact ⟨rfl, rfl, rfl, rfl, rfl, by rw [decide_eq_true_eq]; exact Iff.rfl⟩
  | false =>
    rw [unwanted wants]
    obtain ⟨empty, fresh, last⟩ := Stream.release_items (patience.trans (waits.trans patient)) inB
      (((s.capture.rowTaken cols rails (rowValues cols raws)).setStream i (x.withPage inB ⟨l, r, rowValues cols raws⟩)).setStream i
        ((x.withPage inB ⟨l, r, rowValues cols raws⟩).handOver inB) |>.heldByOther i)
    have stream : ((s.setChain ((((s.capture.rowTaken cols rails (rowValues cols raws)).setStream i
        (x.withPage inB ⟨l, r, rowValues cols raws⟩)).setStream i ((x.withPage inB ⟨l, r, rowValues cols raws⟩).handOver inB)).release i inB,
        s.eval)).capture.stream i) = ((x.withPage inB ⟨l, r, rowValues cols raws⟩).handOver inB).release inB
        (((s.capture.rowTaken cols rails (rowValues cols raws)).setStream i (x.withPage inB ⟨l, r, rowValues cols raws⟩)).setStream i
          ((x.withPage inB ⟨l, r, rowValues cols raws⟩).handOver inB) |>.heldByOther i) := by
      refine (Capture.stream_setStream_same _ i _).trans ?_
      rw [Capture.stream_setStream_same]
    rw [stream, fresh, last, stays, there, sequence, here]
    exact ⟨rfl, rfl, fun _ => ⟨rfl, empty⟩, fun c => absurd c (by simp)⟩

/-! ### Rail values (R71) -/

theorem mem_insertNat {n m : Nat} {l : List Nat} : m ∈ insertNat n l ↔ m = n ∨ m ∈ l := by
  induction l with
  | nil => simp [insertNat]
  | cons x xs ih =>
    unfold insertNat
    split
    · simp
    · simp only [List.mem_cons, ih]
      tauto

theorem mem_addNat {n m : Nat} {l : List Nat} : m ∈ addNat n l ↔ m = n ∨ m ∈ l := by
  unfold addNat
  split
  · rename_i here
    have mem : n ∈ l := by simpa using here
    exact ⟨Or.inr, fun h => h.elim (fun same => same ▸ mem) id⟩
  · exact mem_insertNat

theorem mem_markDue {c : Capture} {hits : List Nat} {m : Nat} :
    m ∈ (c.markDue hits).faultDue ↔ m ∈ c.faultDue ∨ (m ∉ c.faulted ∧ m ∈ hits) := by
  have fold (d : List Nat) : m ∈ hits.foldl (fun d n => if c.faulted.contains n then d else addNat n d) d ↔
      m ∈ d ∨ (m ∉ c.faulted ∧ m ∈ hits) := by
    induction hits generalizing d with
    | nil => simp
    | cons n ns ih =>
      rw [List.foldl_cons, ih]
      by_cases known : n ∈ c.faulted
      · have same : m = n → m ∈ c.faulted := fun e => e ▸ known
        simp only [List.contains_iff_mem, known, if_true, List.mem_cons]
        tauto
      · simp only [List.contains_iff_mem, known, if_false, mem_addNat, List.mem_cons]
        constructor
        · rintro ((rfl | here) | ⟨sound, later⟩)
          · exact Or.inr ⟨known, Or.inl rfl⟩
          · exact Or.inl here
          · exact Or.inr ⟨sound, Or.inr later⟩
        · rintro (here | ⟨sound, rfl | later⟩)
          · exact Or.inl (Or.inr here)
          · exact Or.inl (Or.inl rfl)
          · exact Or.inr ⟨sound, later⟩
  exact fold c.faultDue

theorem isRail_iff {raw : Nat} : isRail raw = true ↔ raw ≤ 8 ∨ 4087 ≤ raw := by simp [isRail]

/-- A column's count after a raw value, and whether it hits (R71). -/
theorem railCount_hits {n raw : Nat} : 4 ≤ railCount n raw ↔ 3 ≤ n ∧ (raw ≤ 8 ∨ 4087 ≤ raw) := by
  unfold railCount
  by_cases rail : isRail raw = true
  · rw [if_pos rail]
    simp only [isRail_iff.mp rail, and_true]
    omega
  · rw [if_neg rail]
    have sound : ¬(raw ≤ 8 ∨ 4087 ≤ raw) := fun h => rail (isRail_iff.mpr h)
    exact ⟨fun four => by omega, fun h => absurd h.2 sound⟩

theorem railCount_kept {n raw : Nat} (below : ¬4 ≤ railCount n raw) :
    railCount n raw = if raw ≤ 8 ∨ 4087 ≤ raw then (if 3 ≤ n then 0 else n + 1) else 0 := by
  unfold railCount at below ⊢
  by_cases rail : isRail raw = true
  · rw [if_pos rail] at below ⊢
    rw [if_pos (isRail_iff.mp rail), if_neg (by omega)]
  · rw [if_neg rail, if_neg fun h => rail (isRail_iff.mpr h)]

/-- The counts after a row, column by column, and the columns whose count reached 4. -/
theorem checkRails_spec : ∀ (cols counts raws : List Nat), counts.length = cols.length → raws.length = cols.length →
    (checkRails cols counts raws).1.length = cols.length ∧
    (∀ (k n raw : Nat), counts[k]? = some n → raws[k]? = some raw → (checkRails cols counts raws).1[k]? =
      some (if raw ≤ 8 ∨ 4087 ≤ raw then (if 3 ≤ n then 0 else n + 1) else 0)) ∧
    ∀ col, col ∈ (checkRails cols counts raws).2 ↔ ∃ k : Nat, cols[k]? = some col ∧ ∃ n, counts[k]? = some n ∧ 3 ≤ n ∧
      ∃ raw, raws[k]? = some raw ∧ (raw ≤ 8 ∨ 4087 ≤ raw)
  | [], [], [], _, _ => by simp [checkRails]
  | col :: cols, n :: counts, raw :: raws, lengthC, lengthR => by
    obtain ⟨length, kept, hit⟩ := checkRails_spec cols counts raws (by simpa using lengthC) (by simpa using lengthR)
    have first : checkRails (col :: cols) (n :: counts) (raw :: raws) =
        (if 4 ≤ railCount n raw then (0 :: (checkRails cols counts raws).1, col :: (checkRails cols counts raws).2)
          else (railCount n raw :: (checkRails cols counts raws).1, (checkRails cols counts raws).2)) := rfl
    rw [first]
    by_cases full : 4 ≤ railCount n raw
    · obtain ⟨three, rail⟩ := railCount_hits.mp full
      rw [if_pos full]
      refine ⟨by simp [length], fun k m v countK rawK => ?_, fun c => ?_⟩
      · cases k with
        | zero => cases countK; cases rawK; simp [three, rail]
        | succ k => exact kept k m v countK rawK
      · rw [List.mem_cons, hit]
        constructor
        · rintro (rfl | ⟨k, found⟩)
          · exact ⟨0, rfl, n, rfl, three, raw, rfl, rail⟩
          · exact ⟨k + 1, found⟩
        · rintro ⟨k, found⟩
          cases k with
          | zero => exact Or.inl (Option.some.inj found.1).symm
          | succ k => exact Or.inr ⟨k, found⟩
    · rw [if_neg full]
      refine ⟨by simp [length], fun k m v countK rawK => ?_, fun c => ?_⟩
      · cases k with
        | zero => cases countK; cases rawK; exact congrArg some (railCount_kept full)
        | succ k => exact kept k m v countK rawK
      · rw [hit]
        constructor
        · rintro ⟨k, found⟩
          exact ⟨k + 1, found⟩
        · rintro ⟨k, here, m, countK, three, v, rawK, rail⟩
          cases k with
          | zero => cases countK; cases rawK; exact absurd (railCount_hits.mpr ⟨three, rail⟩) full
          | succ k => exact ⟨k, here, m, countK, three, v, rawK, rail⟩

theorem rowValues_eq {cols : List Nat} {raws : List Raw} (length : raws.length = cols.length) : rowValues cols raws = raws.map (·.toNat) := by
  refine List.ext_getElem (by simp [rowValues, length]) fun k inside _ => ?_
  have within : k < raws.length := by simpa [rowValues, length] using inside
  simp [rowValues, within]

theorem Stream.enter_rails (x : Stream) (r : Row) : (x.enter r).rails = x.rails := by
  unfold Stream.enter
  split
  · rfl
  · split
    · exact (x.addRow_items false r).2.1
    · split
      · exact (x.addRow_items true r).2.1
      · rfl

theorem Stream.afterRow_rails (x : Stream) (run : Nat) (rails : List Nat) (row : Row) (discarded : Bool) :
    (x.runNumber = run → (x.afterRow run rails row discarded).rails = rails) ∧
    (x.runNumber ≠ run → (x.afterRow run rails row discarded).rails = x.rails) := by
  obtain ⟨rs, dropped, entered, own, other⟩ := x.afterRow_counted run rails row
  have same : (x.afterRow run rails row discarded).rails = rs := by
    cases discarded
    · rw [entered, Stream.enter_rails]
    · rw [dropped]
  exact ⟨fun is => same.trans (own is), fun is => same.trans (other is)⟩

/-- Settles O34: the counts by their columns, the faults by the counts that reached 4. -/
theorem railValuesAreCounted : Obligations.RailValuesAreCounted := by
  intro s raws quiet law i run l r cols rails discarded row given counted
  have same := takeRow_same row raws
  obtain ⟨-, -, -, due, -⟩ := Capture.setStream_rest (s.capture.rowTaken cols rails (rowValues cols raws)) i
    ((s.capture.stream i).afterRow run (checkRails cols rails (rowValues cols raws)).1 ⟨l, r, rowValues cols raws⟩ discarded)
  have values := rowValues_eq given
  obtain ⟨length, kept, hit⟩ := checkRails_spec cols rails (rowValues cols raws) counted (by rw [values]; simpa using given)
  obtain ⟨own, other⟩ := (s.capture.stream i).afterRow_rails run (checkRails cols rails (rowValues cols raws)).1
    ⟨l, r, rowValues cols raws⟩ discarded
  have stream := (same.streams i).rails
  rw [Capture.stream_setStream_same] at stream
  have at' (k v : Nat) : (rowValues cols raws)[k]? = some v ↔ ∃ raw : Raw, raws[k]? = some raw ∧ raw.toNat = v := by
    rw [values, List.getElem?_map, Option.map_eq_some_iff]
  refine ⟨_, exec_rowComplete quiet raws, fun renewed => stream.trans (other renewed), fun running => ?_, fun col => ?_⟩
  · rw [stream, own running]
    exact ⟨length, fun k n count raw brings => kept k n raw.toNat count ((at' k _).mpr ⟨raw, brings, rfl⟩)⟩
  · rw [same.faultDue, due, Capture.rowTaken, mem_markDue, hit]
    refine or_congr Iff.rfl (and_congr Iff.rfl (exists_congr fun k => and_congr Iff.rfl (exists_congr fun n => and_congr Iff.rfl
      (and_congr Iff.rfl ?_))))
    constructor
    · rintro ⟨v, brings, rail⟩
      obtain ⟨raw, there, rfl⟩ := (at' k v).mp brings
      exact ⟨raw, there, rail⟩
    · rintro ⟨raw, there, rail⟩
      exact ⟨raw.toNat, (at' k _).mpr ⟨raw, there, rfl⟩, rail⟩

end Sys2Proof.Machine
end

section
/-! Input faults at the capture block, the sequences and the guidance unit (R71, R72, R114, R127). -/

namespace Sys2Proof.Machine

/-! ### Operations that leave the fault sets -/

/-- The fault sets, an idle converter, the stamp counter and the plate sequence's fault hold stand. -/
structure KeepsFaults (s t : State) : Prop where
  faulted : t.capture.faulted = s.capture.faulted
  due : t.capture.faultDue = s.capture.faultDue
  idle : s.capture.converter = .idle → t.capture.converter = .idle
  stamp : t.lane.stampCounter = s.lane.stampCounter
  hold : t.plate.faultHold = s.plate.faultHold

theorem KeepsFaults.refl (s : State) : KeepsFaults s s := ⟨rfl, rfl, id, rfl, rfl⟩

theorem KeepsFaults.after {s t u : State} (k : KeepsFaults t u) (h : KeepsFaults s t) : KeepsFaults s u :=
  ⟨k.faulted.trans h.faulted, k.due.trans h.due, fun i => k.idle (h.idle i), k.stamp.trans h.stamp, k.hold.trans h.hold⟩

theorem KeepsFaults.ite {c : Prop} [Decidable c] {s t u : State} (h : KeepsFaults s t) (k : KeepsFaults s u) : KeepsFaults s (if c then t else u) := by
  split
  · exact h
  · exact k

/-- An operation that touches neither the capture block, nor the lane view, nor the plate sequence. -/
theorem Within.keepsFaults {bs : List Block} {s t : State} (h : Within bs s t)
    (apart : Block.capture ∉ bs ∧ Block.lane ∉ bs ∧ Block.plate ∉ bs) : KeepsFaults s t := by
  have capture : t.capture = s.capture := h.1 .capture apart.1
  have lane : t.lane = s.lane := h.1 .lane apart.2.1
  have plate : t.plate = s.plate := h.1 .plate apart.2.2
  exact ⟨by rw [capture], by rw [capture], by rw [capture]; exact id, by rw [lane], by rw [plate]⟩

theorem writeStream_faults (i : StreamId) (k : StreamConfig) (s : State) : KeepsFaults s (writeStream i k s) := by
  have stopped : (stopStream i (s.capture, s.eval)).1.faulted = s.capture.faulted ∧
      (stopStream i (s.capture, s.eval)).1.faultDue = s.capture.faultDue ∧
      (s.capture.converter = .idle → (stopStream i (s.capture, s.eval)).1.converter = .idle) := by
    unfold stopStream
    dsimp only
    split
    · have same := (handOver_same { s.capture.setStream i (s.capture.stream i).stop with
        converter := s.capture.converter.discardOf i } s.eval).1
      obtain ⟨-, faulted, -, due, -⟩ := s.capture.setStream_rest i (s.capture.stream i).stop
      exact ⟨same.faulted.trans faulted, same.faultDue.trans due, fun idle => same.converter.trans (by rw [idle]; rfl)⟩
    · exact ⟨rfl, rfl, id⟩
  have written (x : Stream) := (stopStream i (s.capture, s.eval)).1.setStream_rest i x
  obtain ⟨faulted, due, idle⟩ := stopped
  refine ⟨?_, ?_, fun rests => ?_, rfl, rfl⟩
  · exact (written _).2.1.trans faulted
  · exact (written _).2.2.2.1.trans due
  · exact (written _).2.2.2.2.trans (idle rests)

theorem writePhaseStreams_faults (p : Phase) (pressure : Bool) (s : State) : KeepsFaults s (writePhaseStreams p pressure s) := by
  have paced (r : State) : KeepsFaults r (pacePhase p r) := by
    unfold pacePhase
    split <;> exact ⟨rfl, rfl, id, rfl, rfl⟩
  exact .ite (.after (paced _) (.after (writeStream_faults _ _ _) (writeStream_faults _ _ s))) (.refl s)

theorem presenceIfChanged_faults {s t : State} (h : KeepsFaults s t) (u : State) : KeepsFaults s (presenceIfChanged u t) :=
  .ite h (.after ((requestPresence_within t).keepsFaults (by simp)) h)

theorem lowerAll_faults (ps : List Prompt) (s : State) : KeepsFaults s (lowerAll ps s) := by
  induction ps generalizing s with
  | nil => exact .refl s
  | cons p ps ih => exact .after (ih _) ((lower_within p s).keepsFaults (by simp))

theorem enterIdle_faults (k : Bool) (s : State) : KeepsFaults s (enterIdle k s) := by
  have rests : KeepsFaults s (changeRoller (·.idled k) (cancelSeqTimer (writePhaseStreams .idle false s))) :=
    .after (t := cancelSeqTimer (writePhaseStreams .idle false s))
      (presenceIfChanged_faults ((Within.setRoller _ _).keepsFaults (by simp)) _)
      (.after ((cancelSeqTimer_within _).keepsFaults (by simp)) (writePhaseStreams_faults _ _ s))
  have dropped (r : State) : KeepsFaults r (if k then r else evalDiscardAxle r) := .ite (.refl r) ((Within.setEval r _).keepsFaults (by simp))
  have shown (r : State) : KeepsFaults r (if r.measures then r else raise .calibrationMissing {} r) :=
    .ite (.refl r) ((raise_within _ _ r).keepsFaults (by simp))
  have driveOn (r : State) : KeepsFaults r (showDriveOn r) :=
    .ite ((lower_within _ r).keepsFaults (by simp)) ((raise_within _ _ r).keepsFaults (by simp))
  exact .after (driveOn _) (.after (shown _) (.after (lowerAll_faults _ _) (.after (dropped _) rests)))

theorem rollerFault_faults (cause : FaultCause) (s : State) : KeepsFaults s (rollerFault cause s) := by
  have raised (c : FaultCause) (r : State) : KeepsFaults r (raiseMotorFault c r) := .ite (.refl r) ((raise_within _ _ r).keepsFaults (by simp))
  have stop : KeepsFaults s (motorStop s) :=
    .ite (.after ((queueFrame_within _ _).keepsFaults (by simp)) ((Within.setRoller s _).keepsFaults (by simp))) (.refl s)
  have held (r : State) : KeepsFaults r (changeRoller (fun r => { r with faultHold := some cause }) r) :=
    presenceIfChanged_faults ((Within.setRoller r _).keepsFaults (by simp)) r
  have test (r : State) : KeepsFaults r (evalDiscardTest r) := (Within.setEval r _).keepsFaults (by simp)
  exact .ite (.ite (.after (raised _ _) ((Within.setRoller s _).keepsFaults (by simp))) (.refl s))
    (.after (enterIdle_faults _ _) (.after (raised _ _) (.after (held _) (.after (test _) stop))))

/-! ### The plate sequence -/

theorem localAxleEvent_faults (a : FixedAxle) (ev : AxleEventKind) (role : MeasuringRole) (s : State) :
    KeepsFaults s (localAxleEvent a ev role s) := by
  have queued := (queueFrame_within (.axleEvent a.ticket a.axle ev role) s).keepsFaults (by simp)
  refine ⟨queued.faulted, queued.due, queued.idle, ?_, queued.hold⟩
  exact (axleEvent_stampCounter _ _ _ _ _).trans queued.stamp

theorem changePlate_faults {f : Plate → Plate} (hold : ∀ p : Plate, (f p).faultHold = p.faultHold) (s : State) : KeepsFaults s (changePlate f s) :=
  presenceIfChanged_faults (s := s) (t := s.setPlate (f s.plate)) ⟨rfl, rfl, id, rfl, hold s.plate⟩ s

theorem plateToClear_faults (s : State) : KeepsFaults s (plateToClear s) :=
  .after ((lower_within _ _).keepsFaults (by simp)) (.after (t := cancelSeqTimer s) (changePlate_faults (by intro; rfl) _) ((cancelSeqTimer_within s).keepsFaults (by simp)))

theorem setGate_faults (b : Bool) (s : State) : KeepsFaults s (setGate b s) := ⟨rfl, rfl, id, rfl, rfl⟩

theorem unmeasure_faults (s : State) : KeepsFaults s (unmeasure s) :=
  .after (t := dropMeasurement s) (changePlate_faults (by intro; rfl) _)
    (.after (t := closePlateStream s) ⟨rfl, rfl, id, rfl, rfl⟩ (.after (writeStream_faults _ _ _) (setGate_faults false s)))

theorem openMeasurement_faults (s : State) : KeepsFaults s (openMeasurement s) :=
  .after (setGate_faults true _) (.after (t := writeStream .s0 crossingConfig s) ⟨rfl, rfl, id, rfl, rfl⟩ (writeStream_faults _ _ s))

/-- The station with the expected axle fixed and its arrival reported (R121). -/
def State.arrived (s : State) : State :=
  localAxleEvent (s.lane.expected .plate) .arrived .plate (s.setPlate { s.plate with fixed := some (s.lane.expected .plate) })

/-- The station with the crossing's measurement opened, where it is measured, and its time limit running (R121). -/
def State.crossed (s : State) : State :=
  startSeqTimer Config.crossingWindows (if s.arrived.measures && !s.arrived.plate.faultHold then openMeasurement s.arrived else s.arrived)

/-- The crossing record as it begins (R121). -/
def Plate.begun (measured : Bool) (p : Plate) : Plate :=
  { p with measure := if measured then .measuring else .unmeasured, reportExit := true, crossing := .onPlate }

theorem beginCrossing_eq (s : State) : beginCrossing s =
    if (s.lane.expected .plate).ticket = 0 then raise .vehicleNotRegistered { axle := some (s.lane.expected .plate).axle }
      (changePlate (Plate.begun (s.arrived.measures && !s.arrived.plate.faultHold)) s.crossed)
    else changePlate (Plate.begun (s.arrived.measures && !s.arrived.plate.faultHold)) s.crossed := rfl

theorem beginCrossing_faults (s : State) : KeepsFaults s (beginCrossing s) := by
  have arrived : KeepsFaults s s.arrived := .after (localAxleEvent_faults _ _ _ _) ⟨rfl, rfl, id, rfl, rfl⟩
  have crossed : KeepsFaults s s.crossed :=
    .after ((startSeqTimer_within _ _).keepsFaults (by simp)) (.after (.ite (openMeasurement_faults _) (.refl _)) arrived)
  have begun := KeepsFaults.after (changePlate_faults (f := Plate.begun (s.arrived.measures && !s.arrived.plate.faultHold)) (fun _ => rfl) _) crossed
  rw [beginCrossing_eq]
  exact .ite (.after ((raise_within _ _ _).keepsFaults (by simp)) begun) begun

/-- The station whose crossing ends, its exit reported where it is to be (R123). -/
def State.exited (s : State) : State := plateToClear (if s.plate.reportExit then localAxleEvent s.plate.axle .left .plate s else s)

theorem endCrossing_none_eq (s : State) : endCrossing none s =
    if s.exited.plate.pendingEntry then beginCrossing (s.exited.setPlate { s.exited.plate with pendingEntry := false }) else s.exited := rfl

theorem endCrossing_none_faults (s : State) : KeepsFaults s (endCrossing none s) := by
  have exited : KeepsFaults s s.exited := .after (plateToClear_faults _) (.ite (localAxleEvent_faults _ _ _ s) (.refl s))
  rw [endCrossing_none_eq]
  exact .ite (.after (beginCrossing_faults _) (.after (t := s.exited) ⟨rfl, rfl, id, rfl, rfl⟩ exited)) exited

/-- A plate fault sets its hold and leaves the fault sets (R127). -/
theorem plateFault_faults (s : State) : (plateFault s).capture.faulted = s.capture.faulted ∧ (plateFault s).capture.faultDue = s.capture.faultDue ∧
    (s.capture.converter = .idle → (plateFault s).capture.converter = .idle) ∧ (plateFault s).lane.stampCounter = s.lane.stampCounter ∧
    (plateFault s).plate.faultHold = true := by
  obtain ⟨r, held⟩ : ∃ r, r = changePlate (fun p => { p with faultHold := true }) s := ⟨_, rfl⟩
  have same : r.capture = s.capture ∧ r.lane = s.lane ∧ r.plate.faultHold = true := by rw [held]; simp [changePlate]
  obtain ⟨capture, lane, hold⟩ := same
  have finish {t : State} (k : KeepsFaults r t) : t.capture.faulted = s.capture.faulted ∧ t.capture.faultDue = s.capture.faultDue ∧
      (s.capture.converter = .idle → t.capture.converter = .idle) ∧ t.lane.stampCounter = s.lane.stampCounter ∧ t.plate.faultHold = true :=
    ⟨by rw [k.faulted, capture], by rw [k.due, capture], fun idle => k.idle (by rw [capture]; exact idle), by rw [k.stamp, lane], k.hold.trans hold⟩
  unfold plateFault
  split
  · rename_i already
    exact ⟨rfl, rfl, id, rfl, already⟩
  · dsimp only
    rw [← held]
    split
    · exact finish (unmeasure_faults r)
    · exact finish (.after (t := evalDiscardCrossing r) (endCrossing_none_faults _) ⟨rfl, rfl, id, rfl, rfl⟩)
    · exact finish (.refl r)

end Sys2Proof.Machine
end

section
/-! An input that becomes FAULTED, and the one-off conversion that makes it SOUND or leaves it FAULTED (R71, R72, R114, R127). -/

namespace Sys2Proof.Machine

/-! ### The sequences' part -/

/-- The station after the roller sequence has taken a fault of an input (R114). -/
def State.rollerTold (n : Nat) (s : State) : State := if n ≤ 4 then onRoller (rollerFault .sensor) s else s

/-- The station after the plate sequence has taken it as well (R127). -/
def State.told (n : Nat) (s : State) : State := if n = 0 then onPlate plateFault (s.rollerTold n) else s.rollerTold n

theorem faultInput_eq (n : Nat) (s : State) : faultInput n s = raiseSensorFault ((s.setCapture (s.capture.fault n)).told n) := rfl

theorem stillFaulted_eq (n : Nat) (s : State) : stillFaulted n s = s.told n := rfl

theorem rollerTold_faults (n : Nat) (s : State) : KeepsFaults s (s.rollerTold n) :=
  .ite (.ite (rollerFault_faults _ s) (.refl s)) (.refl s)

theorem told_faults (n : Nat) (s : State) : (s.told n).capture.faulted = s.capture.faulted ∧ (s.told n).capture.faultDue = s.capture.faultDue ∧
    (s.capture.converter = .idle → (s.told n).capture.converter = .idle) ∧ (s.told n).lane.stampCounter = s.lane.stampCounter := by
  have roller := rollerTold_faults n s
  unfold State.told
  split
  · unfold onPlate
    split
    · obtain ⟨faulted, due, idle, stamp, -⟩ := plateFault_faults (s.rollerTold n)
      exact ⟨faulted.trans roller.faulted, due.trans roller.due, fun i => idle (roller.idle i), stamp.trans roller.stamp⟩
    · exact ⟨roller.faulted, roller.due, roller.idle, roller.stamp⟩
  · exact ⟨roller.faulted, roller.due, roller.idle, roller.stamp⟩

theorem told_roller (n : Nat) (s : State) : (s.told n).roller = (s.rollerTold n).roller := by
  have same : (onPlate plateFault (s.rollerTold n)).roller = (s.rollerTold n).roller :=
    (onPlate_within plateFault_within (s.rollerTold n)).1 .roller (by simp)
  unfold State.told
  split
  · exact same
  · rfl

theorem rollerTold_high {n : Nat} (high : 4 < n) (s : State) : s.rollerTold n = s := if_neg (by omega)

/-- A fault of one of the roller sequence's inputs outside the fault hold (R114). -/
theorem rollerTold_free {n : Nat} {s : State} (active : s.rollerActive = true) (low : n ≤ 4) (free : s.roller.faultHold = none) :
    (s.rollerTold n).roller.faultHold = some .sensor ∧ (s.rollerTold n).roller.phase = .idle ∧ (s.rollerTold n).roller.motors = false := by
  have told : s.rollerTold n = rollerFault .sensor s := (if_pos low).trans (if_pos active)
  rw [told, rollerFault_free _ s free]
  refine ⟨rfl, rfl, ?_⟩
  unfold Roller.stopped
  cases on : s.roller.motors <;> simp [Roller.idled, on]

theorem told_plate {s : State} (active : s.plateActive = true) : (s.told 0).plate.faultHold = true := by
  have still : (s.rollerTold 0).plateActive = s.plateActive := by
    have same : s.onlyChanges rollerBlocks (s.rollerTold 0) := State.onlyChanges_ite (onRoller_within (rollerFault_within _) s).1 (s.onlyChanges_refl _)
    exact State.plateActive_congr (same .power (by simp)) (same .startUp (by simp))
  have told : s.told 0 = plateFault (s.rollerTold 0) := (if_pos rfl).trans (if_pos (still.trans active))
  rw [told]
  exact (plateFault_faults _).2.2.2.2

/-! ### The prompt (R71) -/

/-- SENSOR_FAULT stands with the lowest FAULTED input. -/
theorem raiseSensorFault_shows (s : State) : (raiseSensorFault s).guidance.isRaised .sensorFault = true ∧
    ∃ e, (raiseSensorFault s).guidance.find .sensorFault = some e ∧ e.fields.input = s.capture.lowestFaulted := by
  unfold raiseSensorFault
  split
  · rename_i raised
    refine ⟨by rw [updateFields_isRaised]; exact raised, ?_⟩
    obtain ⟨e, found⟩ : ∃ e, s.guidance.find .sensorFault = some e := by
      obtain ⟨x, mem, here⟩ := List.any_eq_true.mp raised
      exact Option.isSome_iff_exists.mp (List.find?_isSome.mpr ⟨x, mem, (Bool.and_eq_true _ _ ▸ here).1⟩)
    refine ⟨_, by rw [updateFields_find, found]; rfl, ?_⟩
    dsimp only
    rw [if_pos (prompt_of_find found)]
  · refine ⟨by rw [raise_isRaised]; simp, ?_⟩
    obtain ⟨e, found, -, fields⟩ := raise_shows .sensorFault { input := s.capture.lowestFaulted } s
    exact ⟨e, found, by rw [fields]⟩

/-- In a set in rising order the first member is the lowest. -/
theorem head?_lowest {l : List Nat} (rising : l.Pairwise (· < ·)) {n : Nat} (mem : n ∈ l) : ∃ k, l.head? = some k ∧ k ∈ l ∧ ∀ m ∈ l, k ≤ m := by
  cases l with
  | nil => cases mem
  | cons k ks =>
    refine ⟨k, rfl, List.mem_cons_self, fun m here => ?_⟩
    rcases List.mem_cons.mp here with rfl | later
    · exact Nat.le_refl _
    · exact Nat.le_of_lt ((List.pairwise_cons.mp rising).1 m later)

theorem exec_inputFaulted {s : State} {n : Fin 8} (ready : s.ready (.inputFaulted n.val) = true) :
    exec (.inputFaulted n) s = .next (faultInput n.val s) :=
  (exec_named (.inputFaulted n, .inputFaulted n.val) (by simp [namedEvents]) s).trans (congrArg _ (named_ready ready))

/-- Settles O35: the sets at the capture block, the fault at the sequences, the prompt last. -/
theorem inputFaultsComeAndGo : Obligations.InputFaultsComeAndGo := by
  intro s law
  obtain ⟨⟨rising, -, -⟩, -⟩ := State.captureLaw_iff.mp law
  refine ⟨fun n ready => ?_, fun quiet raw n converter => ?_⟩
  · obtain ⟨r, taken⟩ : ∃ r, r = s.setCapture (s.capture.fault n.val) := ⟨_, rfl⟩
    have eq : faultInput n.val s = raiseSensorFault (r.told n.val) := by rw [taken]; rfl
    have changes := faultInput_changes n.val s
    obtain ⟨faulted, due, -, stamp⟩ := told_faults n.val r
    have capture : (faultInput n.val s).capture = (r.told n.val).capture := by rw [eq]; simp
    have sorted : (r.told n.val).capture.faulted.Pairwise (· < ·) := by rw [faulted, taken]; exact addNat_rising n.val rising
    have members (m : Nat) : m ∈ (r.told n.val).capture.faulted ↔ m = n.val ∨ m ∈ s.capture.faulted := by
      rw [faulted, taken]; exact mem_addNat
    have roller : (faultInput n.val s).roller = (r.rollerTold n.val).roller := by rw [eq, ← told_roller]; simp
    have activeR : r.rollerActive = s.rollerActive := by rw [taken]; rfl
    obtain ⟨raised, e, found, input⟩ := raiseSensorFault_shows (r.told n.val)
    refine ⟨_, exec_inputFaulted ready, fun m => by rw [capture]; exact members m, ?_, by rw [eq]; exact raised, ⟨e, by rw [eq]; exact found, ?_⟩,
      fun active low free => ?_, fun active high => ?_, fun active zero => ?_, ?_, changes .archive (by simp), changes .counters (by simp),
      changes .filter (by simp)⟩
    · rw [capture, due, taken]
      simp [Capture.fault]
    · obtain ⟨k, first, mem, lowest⟩ := head?_lowest sorted ((members n.val).mpr (Or.inl rfl))
      rw [capture]
      exact ⟨k, input.trans first, mem, lowest⟩
    · rw [roller]
      exact rollerTold_free (activeR.trans active) low (by rw [taken]; exact free)
    · rw [roller, rollerTold_high high, taken]
      rfl
    · have plate : (faultInput n.val s).plate = (r.told 0).plate := by rw [eq, zero]; simp
      rw [plate]
      exact told_plate (by rw [taken]; exact active)
    · have lane : (faultInput n.val s).lane = (r.told n.val).lane := by rw [eq]; simp
      rw [lane, stamp, taken]
      rfl
  · obtain ⟨r, idle⟩ : ∃ r, r = s.setCapture { s.capture with converter := .idle } := ⟨_, rfl⟩
    have changes := takeOneOff_changes raw.toNat s
    have sound (inside : ¬isRail raw.toNat = true) : takeOneOff raw.toNat s =
        settleSensorFault (r.setCapture { r.capture with faulted := r.capture.faulted.filter fun m => m ≠ n }) := by
      rw [takeOneOff, converter, idle]
      exact if_neg inside
    have still (rail : isRail raw.toNat = true) : takeOneOff raw.toNat s = r.told n := by
      rw [takeOneOff, converter, idle]
      exact if_pos rail
    refine ⟨_, exec_outside_quiet quiet (takeOneOff raw.toNat), ?_, fun inside => ?_, fun rail => ?_, changes .archive (by simp),
      changes .counters (by simp), changes .clock (by simp)⟩
    · by_cases rail : isRail raw.toNat = true
      · rw [still rail]
        exact (told_faults n r).2.2.1 (by rw [idle]; rfl)
      · rw [sound rail, (settleSensorFault_frame _).2.2.2.2.2.1, idle]
        rfl
    · have off : ¬isRail raw.toNat = true := fun rail => by have := isRail_iff.mp rail; omega
      have capture : (takeOneOff raw.toNat s).capture.faulted = s.capture.faulted.filter fun m => m ≠ n := by
        rw [sound off, (settleSensorFault_frame _).2.2.2.2.2.1, idle]
        rfl
      refine ⟨fun m => by rw [capture]; simp [and_comm], fun empty => ?_, ?_⟩
      · rw [capture] at empty
        have lowered : takeOneOff raw.toNat s =
            lower .sensorFault (r.setCapture { r.capture with faulted := r.capture.faulted.filter fun m => m ≠ n }) := by
          rw [sound off, settleSensorFault, if_pos]
          rw [idle]
          exact List.isEmpty_iff.mpr empty
        rw [lowered, lower_isRaised]
        simp
      · rw [sound off, idle]
        have settled (u : State) : u.onlyChanges [.bus, .capture, .guidance] (settleSensorFault u) :=
          State.onlyChanges_ite (State.onlyChanges_mono (lower_within _ u).1 (by simp)) (State.onlyChanges_mono (updateFields_within _ _ u).1 (by simp))
        have capture (u : State) (c : Capture) : u.onlyChanges [.bus, .capture, .guidance] (u.setCapture c) :=
          State.onlyChanges_mono (Within.setCapture u c).1 (by simp)
        exact State.onlyChanges_after (settled _) (State.onlyChanges_after (capture _ _) (capture _ _))
    · have told := still (isRail_iff.mpr rail)
      refine ⟨?_, fun active low free => ?_⟩
      · rw [told, (told_faults n r).1, idle]
        rfl
      · rw [told, told_roller]
        obtain ⟨hold, -, off⟩ := rollerTold_free (n := n) (s := r) (by rw [idle]; exact active) low (by rw [idle]; exact free)
        exact ⟨hold, off⟩

end Sys2Proof.Machine
end

section
/-! ### The verdict (R16, R93) -/

namespace Sys2Proof.Machine

theorem belowMinimum_eq_false {r : Option Nat} {minimum : Nat} :
    belowMinimum r minimum = false ↔ ∃ v, r = some v ∧ minimum ≤ v := by
  cases r <;> simp [belowMinimum]

theorem VehicleClass.serviceMinimum_le {c : VehicleClass} {v : Nat} :
    c.serviceMinimum ≤ v ↔ (c = .light → 580 ≤ v) ∧ (c = .heavy → 500 ≤ v) ∧ (c = .trailer → 450 ≤ v) := by
  cases c <;> simp [VehicleClass.serviceMinimum]

theorem AxleRecord.unbalanced_eq_false {a : AxleRecord} :
    a.unbalanced = false ↔ ∀ r, a.service = some r → ∀ v, r.figures.imbalance = some v → v ≤ 30 := by
  unfold AxleRecord.unbalanced
  cases service : a.service with
  | none => simp
  | some r => cases imbalance : r.figures.imbalance <;> simp [imbalance]

theorem Entry.slipFails_eq_false {e : Entry} {k : Nat} :
    e.slipFails k = false ↔ ∀ a, e.axle? k = some a → ∀ v, a.slip = some v → -70 ≤ v ∧ v ≤ 70 := by
  unfold Entry.slipFails
  cases axle : e.axle? k with
  | none => simp
  | some a =>
    cases slip : a.slip with
    | none => simp [slip]
    | some v =>
      have magnitude : v.natAbs ≤ 70 ↔ -70 ≤ v ∧ v ≤ 70 := by omega
      simp [slip, magnitude]

/-- What the completeness test misses in an entry that it turns down. -/
theorem Entry.isComplete_eq_false {e : Entry} {slip : Bool} : e.isComplete slip = false ↔
    (∃ a ∈ e.axles, a.load = none ∨ a.service = none) ∨ (∃ k ∈ e.parkingSet, (e.axle? k).bind (·.parking) = none) ∨
      (slip = true ∧ ∃ a ∈ e.axles, a.slip = none) := by
  rw [← Bool.not_eq_true, Entry.isComplete_iff]
  cases slip <;> simp only [Entry.resultsAllIn, not_and_or, not_forall, Option.isSome_iff_ne_none, ne_eq, not_not, exists_prop,
    Bool.false_eq_true, false_implies, not_true_eq_false, false_and, or_false, true_implies, true_and]

theorem Entry.formVerdict_incomplete {e : Entry} {slip : Bool} :
    e.formVerdict slip = .incomplete ↔ e.state ≠ .complete ∧ e.isComplete slip = false := by
  by_cases short : e.state ≠ .complete ∧ e.isComplete slip = false
  · simp [Entry.formVerdict, short]
  · have passed : ¬(decide (e.state ≠ .complete) && !e.isComplete slip) = true := by simpa using short
    rw [Entry.formVerdict, if_neg passed]
    refine iff_of_false ?_ short
    split_ifs <;> simp

theorem Entry.formVerdict_pass {e : Entry} {slip : Bool} : e.formVerdict slip = .pass ↔ e.formVerdict slip ≠ .incomplete ∧
    belowMinimum e.serviceRatio e.cls.serviceMinimum = false ∧
    (e.parkingSet = [] ∨ belowMinimum e.parkingRatio parkingMinimum = false) ∧
    (∀ a ∈ e.axles, a.unbalanced = false) ∧ ∀ k ∈ e.steeredSet, e.slipFails k = false := by
  rw [ne_eq, Entry.formVerdict_incomplete]
  by_cases short : e.state ≠ .complete ∧ e.isComplete slip = false
  · simp [Entry.formVerdict, short]
  · have passed : ¬(decide (e.state ≠ .complete) && !e.isComplete slip) = true := by simpa using short
    rw [Entry.formVerdict, if_neg passed]
    split_ifs with service parking balance slips
    · simp [service]
    · simp_all
    · simp_all
    · simp_all
    · simp_all [or_iff_not_imp_left]

/-- Settles O38: each case of the verdict read off the test that decides it. -/
theorem verdictFollowsItsCases : Obligations.VerdictFollowsItsCases := by
  intro e slip
  refine ⟨by rw [Entry.formVerdict_incomplete, Entry.isComplete_eq_false], ?_⟩
  rw [Entry.formVerdict_pass]
  simp only [belowMinimum_eq_false, VehicleClass.serviceMinimum_le, AxleRecord.unbalanced_eq_false, Entry.slipFails_eq_false,
    parkingMinimum]

end Sys2Proof.Machine
end

section
/-! ### The slip stop (R83) -/

namespace Sys2Proof.Machine

theorem slips_sideSlip {nd ns : Nat} : slips (sideSlip nd ns) = true ↔ 20 ≤ nd ∧ ns < nd ∧ 25 ≤ 100 * (nd - ns) / nd := by
  unfold sideSlip
  split_ifs with short whole
  · exact iff_of_false (by simp [slips]) (by omega)
  · exact iff_of_false (by simp [slips]) (by omega)
  · rw [slips, decide_eq_true_iff]
    exact ⟨fun slip => ⟨by omega, by omega, slip⟩, fun h => h.2.2⟩

theorem WindowSample.slipping_iff {w : WindowSample} : w.slipping = true ↔
    (20 ≤ w.ndL ∧ w.nsL < w.ndL ∧ 25 ≤ 100 * (w.ndL - w.nsL) / w.ndL) ∨
      (20 ≤ w.ndR ∧ w.nsR < w.ndR ∧ 25 ≤ 100 * (w.ndR - w.nsR) / w.ndR) := by
  rw [WindowSample.slipping, Bool.or_eq_true, slips_sideSlip, slips_sideSlip]

theorem TestAcc.judgeWindow_found {a : TestAcc} (w : WindowSample) (found : a.slipFound = true) : a.judgeWindow w = a := if_pos found

theorem TestAcc.judgeWindow_slipping {a : TestAcc} {w : WindowSample} (fresh : a.slipFound = false) (slipping : w.slipping = true) :
    a.judgeWindow w = { a with slipCount := a.slipCount + 1, slipFound := decide (2 ≤ a.slipCount + 1)
                               slipDue := a.slipDue || decide (2 ≤ a.slipCount + 1) } := by
  rw [TestAcc.judgeWindow, if_neg (by simp [fresh]), if_pos slipping]
  by_cases second : 1 ≤ a.slipCount
  · rw [if_pos second]
    simp [second]
  · rw [if_neg second]
    simp [second, fresh]

theorem TestAcc.judgeWindow_gripping {a : TestAcc} {w : WindowSample} (fresh : a.slipFound = false) (gripping : ¬w.slipping = true) :
    a.judgeWindow w = { a with slipCount := 0 } := by
  rw [TestAcc.judgeWindow, if_neg (by simp [fresh]), if_neg gripping]

/-- The evaluation unit after a window sample (R83). -/
def Eval.windowed (e : Eval) (w : WindowSample) : Eval := if e.context = .testing then { e with acc := e.acc.judgeWindow w } else e

theorem evalWindow_eval (w : WindowSample) (s : State) : (evalWindow w s).eval = s.eval.windowed w := by
  unfold evalWindow Eval.windowed
  split <;> rfl

/-- A roller sequence that is not spinning up; its windows are judged by the evaluation unit alone. -/
structure State.Rolls (s : State) : Prop where
  active : s.rollerActive = true
  noSpinUp : s.noSpinUp

theorem closeWindow_eval {s : State} (h : s.Rolls) : (closeWindow s).eval = s.eval.windowed s.counters.sample := by
  have other : s.roller.phase ≠ .spinUp := h.noSpinUp.resolve_left (by simp [h.active])
  have taken : closeWindow s = evalWindow s.counters.sample (rollerWindow s.counters.sample (s.setCounters s.counters.cleared)) :=
    if_pos h.active
  have unjudged : (rollerWindow s.counters.sample (s.setCounters s.counters.cleared)).eval = s.eval := by
    unfold rollerWindow
    split
    · rename_i spinUp
      exact absurd spinUp other
    · rfl
    · rfl
  rw [taken, evalWindow_eval, unjudged]

theorem takeTick8_rolls {s : State} (k : TickTaker) (h : s.Rolls) : (takeTick8 s k).Rolls :=
  ⟨(takeTick8_rollerActive s k).trans h.active, takeTick8_noSpinUp k h.noSpinUp⟩

/-- The counters and the evaluation unit, the two items that the pulse counters' part of a tick moves together. -/
def State.window (s : State) : Counters × Eval := (s.counters, s.eval)

theorem tick8_eval {s : State} (first : List TickTaker) (h : s.Rolls) : (tick8 first s).eval = s.eval.windowed s.counters.sample := by
  have both : (tick8 first s).window = (s.counters.cleared, s.eval.windowed s.counters.sample) := by
    refine tick8_item (inv := State.Rolls) (item := State.window) (act := fun ce => (ce.1.cleared, ce.2.windowed ce.1.sample))
      (own := .pulseCounters) (fun r k => takeTick8_rolls k) (fun r k _ other => ?_)
      (fun r i => Prod.ext (closeWindow_counters r) (closeWindow_eval i)) first (s := s) ⟨h.active, h.noSpinUp⟩
    cases k with
    | pulseCounters => exact absurd rfl other
    | phaseTimers => rfl
    | sequence => obtain ⟨w, f, n, eq⟩ := takeTick8_sequence_eq r; rw [eq]; rfl
    | guidance => exact Prod.ext (guidanceTick8_same r).2.1 (guidanceTick8_same r).2.2.1
  exact congrArg Prod.snd both

/-- Settles O36: the window's sample at the accumulators. -/
theorem slipStopAfterTwoSlippingWindows : Obligations.SlipStopAfterTwoSlippingWindows := by
  intro s first quiet active other
  refine ⟨_, exec_outside_quiet quiet (tick8 first), fun unjudged => ?_, fun testing fresh => ⟨fun slipping => ?_, fun gripping => ?_⟩⟩ <;>
    rw [tick8_eval first ⟨active, Or.inr other⟩, Eval.windowed]
  · rcases unjudged with context | found
    · exact if_neg context
    · simp [TestAcc.judgeWindow_found _ found]
  · rw [if_pos testing, TestAcc.judgeWindow_slipping fresh (WindowSample.slipping_iff.mpr slipping)]
  · rw [if_pos testing, TestAcc.judgeWindow_gripping fresh (mt WindowSample.slipping_iff.mp gripping)]

end Sys2Proof.Machine
end

section
/-! ### A row at the accumulators (R84 to R87) -/

namespace Sys2Proof.Machine

/-! #### One side -/

theorem optMax_none_right (a : Option Nat) : optMax a none = a := by cases a <;> rfl

theorem optMax_some_right (a : Option Nat) (v : Nat) : optMax a (some v) = some (max (a.getD 0) v) := by
  cases a <;> simp [optMax]

theorem rowImbalance_low {fL fR : Nat} (low : max fL fR < 100) : rowImbalance fL fR = none := if_pos low

theorem rowImbalance_high {fL fR : Nat} (high : 100 ≤ max fL fR) :
    rowImbalance fL fR = some (100 * (max fL fR - min fL fR) / max fL fR) := if_neg (by omega)

theorem SideAcc.rise_above {a : SideAcc} {f : Nat} (above : a.fmax < f) (p runImb : Option Nat) (rowNo : Nat) :
    a.rise f p runImb rowNo = { a with fmax := f, pAtMax := p, imbAtRise := runImb, riseRow := rowNo } := if_pos above

theorem SideAcc.rise_below {a : SideAcc} {f : Nat} (below : f ≤ a.fmax) (p runImb : Option Nat) (rowNo : Nat) :
    a.rise f p runImb rowNo = a := if_neg (by omega)

theorem SideAcc.rise_rev (a : SideAcc) (f : Nat) (p runImb : Option Nat) (rowNo : Nat) :
    (a.rise f p runImb rowNo).rev = a.rev ∧ (a.rise f p runImb rowNo).oval = a.oval := by
  unfold SideAcc.rise
  split <;> exact ⟨rfl, rfl⟩

/-- The revolution in progress with a row: its clean mark is lost at the first row of a page marked GAP (R86). -/
def Revolution.marked (r : Revolution) (gapStart : Bool) : Revolution := { r with clean := r.clean && !gapStart }

theorem SideAcc.turn_none {a : SideAcc} (rev : a.rev = none) (stamp f : Nat) (gap first : Bool) :
    a.turn stamp f gap first = { a with rev := some ⟨stamp, false, !gap, f, f⟩ } := by
  simp only [SideAcc.turn, rev]

/-- A row in a revolution, by how its stamp follows the revolution's number. -/
theorem SideAcc.turn_some {a : SideAcc} {r : Revolution} (rev : a.rev = some r) (stamp f : Nat) (gap first : Bool) :
    a.turn stamp f gap first = if stamp = r.number then
        { a with rev := some { r.marked (gap && first) with low := min r.low f, high := max r.high f } }
      else if stamp = (r.number + 1) % 256 then
        { a with rev := some ⟨stamp, true, !gap, f, f⟩, oval := optMax a.oval (r.marked (gap && first)).ovality }
      else { a with rev := some ⟨stamp, false, !gap, f, f⟩ } := by
  simp only [SideAcc.turn, rev]
  cases gapStart : gap && first <;> simp [Revolution.marked]

/-- The revolution and the greatest ovality as a row leaves them; the rest of the side stays. -/
theorem SideAcc.turn_eq (a : SideAcc) (stamp f : Nat) (gap first : Bool) :
    ∃ (r : Option Revolution) (o : Option Nat), a.turn stamp f gap first = { a with rev := r, oval := o } := by
  cases rev : a.rev with
  | none => exact ⟨_, a.oval, SideAcc.turn_none rev stamp f gap first⟩
  | some r =>
    rw [SideAcc.turn_some rev]
    split_ifs
    · exact ⟨_, a.oval, rfl⟩
    · exact ⟨_, _, rfl⟩
    · exact ⟨_, a.oval, rfl⟩

theorem Revolution.ovality_marked (r : Revolution) (gapStart : Bool) :
    (r.opened = true ∧ r.clean = true ∧ gapStart = false ∧ 100 ≤ r.low →
      (r.marked gapStart).ovality = some (100 * (r.high - r.low) / r.high)) ∧
    (r.opened = false ∨ r.clean = false ∨ gapStart = true ∨ r.low < 100 → (r.marked gapStart).ovality = none) := by
  constructor
  · rintro ⟨opened, clean, unbroken, low⟩
    simp [Revolution.marked, Revolution.ovality, opened, clean, unbroken, low]
  · intro missed
    refine if_neg ?_
    simp only [Revolution.marked, Bool.and_eq_true, Bool.not_eq_true', not_and_or]
    grind

theorem SideAcc.takesRow_rise_turn (a : SideAcc) (stamp f : Nat) (p runImb : Option Nat) (rowNo : Nat) (gap first : Bool) :
    a.takesRow ((a.rise f p runImb rowNo).turn stamp f gap first) stamp f p runImb rowNo gap (gap && first) := by
  obtain ⟨rev, oval⟩ := a.rise_rev f p runImb rowNo
  obtain ⟨r, o, kept⟩ := (a.rise f p runImb rowNo).turn_eq stamp f gap first
  refine ⟨?_, fun above => ?_, fun below => ?_, fun fresh => ?_, fun q held => ⟨fun same => ?_, fun other next => ?_, fun other gone => ?_⟩⟩
  · rw [kept]
    by_cases above : a.fmax < f
    · simp [SideAcc.rise_above above, above.le]
    · simp [SideAcc.rise_below (Nat.le_of_not_lt above), Nat.le_of_not_lt above]
  · rw [kept, SideAcc.rise_above above]
    exact ⟨rfl, rfl, rfl⟩
  · rw [kept, SideAcc.rise_below below]
    exact ⟨rfl, rfl, rfl⟩
  · rw [SideAcc.turn_none (rev.trans fresh)]
    exact ⟨rfl, oval⟩
  · rw [SideAcc.turn_some (rev.trans held), if_pos same]
    exact ⟨oval, rfl⟩
  · obtain ⟨qualifies, fails⟩ := q.ovality_marked (gap && first)
    rw [SideAcc.turn_some (rev.trans held), if_neg other, if_pos next]
    dsimp only
    rw [oval]
    refine ⟨rfl, fun h => ?_, fun h => ?_⟩
    · rw [qualifies h, optMax_some_right]
    · rw [fails h, optMax_none_right]
  · rw [SideAcc.turn_some (rev.trans held), if_neg other, if_neg gone]
    exact ⟨rfl, oval⟩

/-! #### The release -/

theorem releaseRow_iff {v : LiveRow} {fmaxL fmaxR : Nat} : releaseRow v.fL v.fR fmaxL fmaxR = true ↔ v.isRelease fmaxL fmaxR := by
  unfold releaseRow LiveRow.isRelease
  split_ifs <;> simp only [decide_eq_true_eq] <;> omega

theorem TestAcc.judgeRelease_found {a : TestAcc} (found : a.releaseFound = true) (fL fR : Nat) (gapFirst : Bool) :
    a.judgeRelease fL fR gapFirst = a := if_pos found

/-- The count of release rows with one more row (R87). -/
def TestAcc.countRelease (a : TestAcc) (fL fR : Nat) (gapFirst : Bool) : Nat :=
  if (a.armed || decide (300 ≤ max fL fR)) && releaseRow fL fR a.left.fmax a.right.fmax then
    (if gapFirst then 0 else a.releaseCount) + 1
  else 0

theorem TestAcc.judgeRelease_fresh {a : TestAcc} (fresh : a.releaseFound = false) (fL fR : Nat) (gapFirst : Bool) :
    a.judgeRelease fL fR gapFirst = { a with
      armed := a.armed || decide (300 ≤ max fL fR), releaseCount := a.countRelease fL fR gapFirst
      releaseFound := decide (4 ≤ a.countRelease fL fR gapFirst)
      releaseDue := a.releaseDue || decide (4 ≤ a.countRelease fL fR gapFirst) } := by
  have unfolded : a.judgeRelease fL fR gapFirst = if 4 ≤ a.countRelease fL fR gapFirst then
      { a with armed := a.armed || decide (300 ≤ max fL fR), releaseCount := a.countRelease fL fR gapFirst, releaseFound := true,
               releaseDue := true }
    else { a with armed := a.armed || decide (300 ≤ max fL fR), releaseCount := a.countRelease fL fR gapFirst } :=
    if_neg (by simp [fresh])
  rw [unfolded]
  by_cases four : 4 ≤ a.countRelease fL fR gapFirst
  · simp [four]
  · simp [four, fresh]

/-- The accumulators with a row, before the release is judged (R84 to R86). -/
def TestAcc.withRow (a : TestAcc) (v : LiveRow) (stampL stampR : Nat) (gap first : Bool) : TestAcc :=
  { a with
    left := (a.left.rise v.fL v.p (optMax a.runImb (rowImbalance v.fL v.fR)) (a.rows + 1)).turn stampL v.fL gap first
    right := (a.right.rise v.fR v.p (optMax a.runImb (rowImbalance v.fL v.fR)) (a.rows + 1)).turn stampR v.fR gap first
    runImb := optMax a.runImb (rowImbalance v.fL v.fR), rows := a.rows + 1, live := some v }

theorem TestAcc.takeRow_eq (a : TestAcc) (v : LiveRow) (stampL stampR : Nat) (testing gap first : Bool) :
    a.takeRow v stampL stampR testing gap first = if testing then
      (a.withRow v stampL stampR gap first).judgeRelease v.fL v.fR (gap && first) else a.withRow v stampL stampR gap first := rfl

/-- The release's four items, and nothing else, with a row. -/
theorem TestAcc.takeRow_rest (a : TestAcc) (v : LiveRow) (stampL stampR : Nat) (testing gap first : Bool) :
    ∃ (armed : Bool) (n : Nat) (found due : Bool), a.takeRow v stampL stampR testing gap first =
      { a.withRow v stampL stampR gap first with armed := armed, releaseCount := n, releaseFound := found, releaseDue := due } := by
  rw [TestAcc.takeRow_eq]
  cases testing with
  | false => exact ⟨_, _, _, _, rfl⟩
  | true =>
    cases found : (a.withRow v stampL stampR gap first).releaseFound with
    | true => exact ⟨_, _, _, _, TestAcc.judgeRelease_found found _ _ _⟩
    | false => exact ⟨_, _, _, _, TestAcc.judgeRelease_fresh found _ _ _⟩

end Sys2Proof.Machine
end

section
/-! The event at which the evaluation of a page ends: the page's effect, its release and the drainage (R76, R88, R95). -/

namespace Sys2Proof.Machine

/-! ### Pages -/

/-- What a page does to the unit under the context standing, with its report (R76, R78). -/
def Eval.paged (e : Eval) (p : Page) : Eval × Option EvalReport :=
  match e.calib with
  | some k => if e.wants p.stream p.run then e.takePage k p else (e, none)
  | none => (e, none)

theorem Eval.paged_wanted {e : Eval} {k : Calibration} (calib : e.calib = some k) {p : Page} (wanted : e.wants p.stream p.run = true) :
    e.paged p = e.takePage k p := by simp only [Eval.paged, calib, if_pos wanted]

theorem Eval.paged_unwanted {e : Eval} {p : Page} (unwanted : e.wants p.stream p.run = false) : e.paged p = (e, none) := by
  cases calib : e.calib <;> simp [Eval.paged, unwanted, calib]

theorem Eval.paged_blank {e : Eval} (blank : e.calib = none) (p : Page) : e.paged p = (e, none) := by simp [Eval.paged, blank]

/-- Outside WEIGHING a context wants the pages of its S0 run alone (R78). -/
theorem Eval.wants_s0 {e : Eval} {i : StreamId} {run : Nat} (other : e.context ≠ .weighing) (wanted : e.wants i run = true) :
    i = .s0 ∧ e.wantS0 = some run := by
  cases i with
  | s0 => exact ⟨rfl, by cases context : e.context <;> simp_all [Eval.wants]⟩
  | s1 | s2 | s3 => cases context : e.context <;> simp_all [Eval.wants]

/-- The two blocks after the effect of a page and its release, with the next hand-over (R69, R76). -/
def released (c : Capture) (e : Eval) (p : Page) : Capture × Eval := handOver (c.release p.stream p.inB, { (e.paged p).1 with slot := none })

theorem Capture.release_same (c : Capture) (i : StreamId) (inB : Bool) : SameCapture c (c.release i inB) :=
  .setStream (Stream.release_same _ _ _)

/-- A release and the hand-over after it leave what the streams are, and of the unit all but its slot. -/
theorem released_same (c : Capture) (e : Eval) (p : Page) :
    SameCapture c (released c e p).1 ∧ (released c e p).2 = { (e.paged p).1 with slot := (released c e p).2.slot } := by
  obtain ⟨same, slot⟩ := handOver_same (c.release p.stream p.inB) { (e.paged p).1 with slot := none }
  exact ⟨same.after (c.release_same _ _), slot⟩

/-! ### The event -/

/-- The report of a page's effect, or with none what the drainage gives (R76, R88). -/
def reportOf (r : Option EvalReport) (ce : Capture × Eval) : (Capture × Eval) × Option EvalReport :=
  match r with
  | some r => (ce, some r)
  | none => ((ce.1, (drain ce.1 ce.2).1), (drain ce.1 ce.2).2)

theorem completeEvaluation_eq {c : Capture} {e : Eval} {p : Page} (slot : e.slot = some p) :
    completeEvaluation (c, e) = reportOf (e.paged p).2 (released c e p) := by
  have whole : completeEvaluation (c, { e with slot := some p }) = reportOf (e.paged p).2 (released c e p) := by
    obtain ⟨old, context, loads, zt, rr, wantS0, wantS1, test, acc, requested, peak, calib⟩ := e
    dsimp only at slot
    subst slot
    rfl
  rw [← whole, ← slot]

theorem drain_other {c : Capture} {e : Eval} (draining : e.context ≠ .draining) (crossing : e.context ≠ .crossingDrain) :
    drain c e = (e, none) := by
  unfold drain
  split
  · rename_i context
    exact absurd context draining
  · rename_i context
    exact absurd context crossing
  · rfl

/-- The station with its capture chain as a page's release leaves it. -/
def State.pageReleased (s : State) (p : Page) : State := s.setChain (released s.capture s.eval p)

theorem finishEvaluation_reports {s : State} {p : Page} (slot : s.eval.slot = some p) {r : EvalReport} (report : (s.eval.paged p).2 = some r) :
    finishEvaluation s = onPlate (plateReport r) (onRoller (rollerReport r) (s.pageReleased p)) := by
  unfold finishEvaluation
  rw [completeEvaluation_eq slot, report]
  rfl

/-- A page without a report, in a context that nothing drains. -/
theorem finishEvaluation_silent {s : State} {p : Page} (slot : s.eval.slot = some p) (silent : (s.eval.paged p).2 = none)
    (draining : (s.eval.paged p).1.context ≠ .draining) (crossing : (s.eval.paged p).1.context ≠ .crossingDrain) :
    finishEvaluation s = s.pageReleased p := by
  have same := (released_same s.capture s.eval p).2
  have context : (released s.capture s.eval p).2.context = (s.eval.paged p).1.context := by rw [same]
  unfold finishEvaluation
  rw [completeEvaluation_eq slot, silent, reportOf, drain_other (by rwa [context]) (by rwa [context])]
  rfl

theorem finishEvaluation_undrained {s : State} {p : Page} (slot : s.eval.slot = some p) (silent : (s.eval.paged p).2 = none)
    (waits : (drain (released s.capture s.eval p).1 (released s.capture s.eval p).2) = ((released s.capture s.eval p).2, none)) :
    finishEvaluation s = s.pageReleased p := by
  unfold finishEvaluation
  rw [completeEvaluation_eq slot, silent, reportOf, waits]
  rfl

theorem finishEvaluation_drains {s : State} {p : Page} (slot : s.eval.slot = some p) (silent : (s.eval.paged p).2 = none)
    {e : Eval} {r : EvalReport} (drains : drain (released s.capture s.eval p).1 (released s.capture s.eval p).2 = (e, some r)) :
    finishEvaluation s = onPlate (plateReport r) (onRoller (rollerReport r) ((s.pageReleased p).setEval e)) := by
  unfold finishEvaluation
  rw [completeEvaluation_eq slot, silent, reportOf, drains]
  rfl

theorem exec_evaluationComplete {s : State} (quiet : s.quiet = true) : exec .evaluationComplete s = .next (finishEvaluation s) :=
  exec_outside_quiet quiet finishEvaluation

@[simp] theorem pageReleased_frame (s : State) (p : Page) : ChainFrame s (s.pageReleased p) ∧ (s.pageReleased p).timers = s.timers := by
  simp [State.pageReleased, ChainFrame, SameOuter]

theorem pageReleased_changes (s : State) (p : Page) : s.onlyChanges [.capture, .eval] (s.pageReleased p) := (setChain_within s _).1

theorem pageReleased_eval (s : State) (p : Page) :
    (s.pageReleased p).eval = { (s.eval.paged p).1 with slot := (s.pageReleased p).eval.slot } := (released_same s.capture s.eval p).2

theorem pageReleased_capture (s : State) (p : Page) : SameCapture s.capture (s.pageReleased p).capture := (released_same s.capture s.eval p).1

/-! ### The rows of a page -/

theorem Calibration.units_eq (k : Calibration) (e : Eval) (r : Row) :
    k.units e r = liveRow k (e.zt.getD ⟨0, 0⟩) (e.rr.getD ⟨0, 0⟩) e.test.pressure r := rfl

/-- The rows of a page from its n-th on, at the accumulators (R84). -/
def Eval.feed (e : Eval) (k : Calibration) (testing gap : Bool) (a : TestAcc) (rows : List (Row × Nat)) : TestAcc :=
  rows.foldl (fun a x => a.takeRow (k.units e x.1) x.1.stampL x.1.stampR testing gap (x.2 == 0)) a

theorem takeRows_eq (k : Calibration) (e : Eval) (testing gap : Bool) : ∀ (rows : List Row) (n : Nat) (a : TestAcc),
    TestAcc.takeRows k (e.zt.getD ⟨0, 0⟩) (e.rr.getD ⟨0, 0⟩) e.test.pressure testing gap (n == 0) a rows =
      e.feed k testing gap a (rows.zipIdx n)
  | [], _, _ => rfl
  | r :: rs, n, a => by
    have rest := takeRows_eq k e testing gap rs (n + 1) (a.takeRow (k.units e r) r.stampL r.stampR testing gap (n == 0))
    rw [TestAcc.takeRows, List.zipIdx_cons]
    exact rest

theorem Page.feeds_eq (p : Page) (k : Calibration) (e : Eval) (testing : Bool) :
    TestAcc.takeRows k (e.zt.getD ⟨0, 0⟩) (e.rr.getD ⟨0, 0⟩) e.test.pressure testing p.gap true e.acc p.rows = p.feeds k e testing :=
  takeRows_eq k e testing p.gap p.rows 0 e.acc

theorem TestAcc.takeRow_counts (a : TestAcc) (v : LiveRow) (stampL stampR : Nat) (testing gap first : Bool) :
    (a.takeRow v stampL stampR testing gap first).rows = a.rows + 1 ∧
    (a.takeRow v stampL stampR testing gap first).left.fmax = max a.left.fmax v.fL ∧
    (a.takeRow v stampL stampR testing gap first).right.fmax = max a.right.fmax v.fR := by
  obtain ⟨armed, n, found, due, eq⟩ := a.takeRow_rest v stampL stampR testing gap first
  rw [eq]
  exact ⟨rfl, (a.left.takesRow_rise_turn stampL v.fL v.p _ _ gap first).1, (a.right.takesRow_rise_turn stampR v.fR v.p _ _ gap first).1⟩

/-- The row count and the running Fmax of each side over the rows of a page (R84). -/
theorem takeRows_counts (k : Calibration) (zt rr : Pair) (pressure testing gap : Bool) : ∀ (rows : List Row) (first : Bool) (a : TestAcc),
    (TestAcc.takeRows k zt rr pressure testing gap first a rows).rows = a.rows + rows.length ∧
    (TestAcc.takeRows k zt rr pressure testing gap first a rows).left.fmax =
      rows.foldl (fun m r => max m (liveRow k zt rr pressure r).fL) a.left.fmax ∧
    (TestAcc.takeRows k zt rr pressure testing gap first a rows).right.fmax =
      rows.foldl (fun m r => max m (liveRow k zt rr pressure r).fR) a.right.fmax
  | [], _, _ => ⟨rfl, rfl, rfl⟩
  | r :: rs, first, a => by
    obtain ⟨count, left, right⟩ := a.takeRow_counts (liveRow k zt rr pressure r) r.stampL r.stampR testing gap first
    obtain ⟨counts, lefts, rights⟩ := takeRows_counts k zt rr pressure testing gap rs false
      (a.takeRow (liveRow k zt rr pressure r) r.stampL r.stampR testing gap first)
    rw [TestAcc.takeRows, counts, lefts, rights, count, left, right]
    exact ⟨by rw [List.length_cons]; omega, rfl, rfl⟩

/-- A wanted page in TESTING or DRAINING at the accumulators (R84). -/
theorem Eval.paged_rows {e : Eval} {k : Calibration} (calib : e.calib = some k) {p : Page} (wanted : e.wants p.stream p.run = true) :
    (e.context = .testing → e.paged p = ({ e with acc := p.feeds k e true }, none)) ∧
    (e.context = .draining → e.paged p = ({ e with acc := p.feeds k e false }, none)) := by
  refine ⟨fun context => ?_, fun context => ?_⟩ <;>
  · obtain ⟨stream, -⟩ := Eval.wants_s0 (by simp [context]) wanted
    rw [Eval.paged_wanted calib wanted, Eval.takePage]
    simp only [context, stream, Page.feeds_eq]

end Sys2Proof.Machine
end

section
/-! ### Rows feed the accumulators (R80, R84 to R87) -/

namespace Sys2Proof.Machine

/-- The items that a row gives to both sides and to the whole test. -/
theorem TestAcc.takeRow_sides (a : TestAcc) (v : LiveRow) (stampL stampR : Nat) (testing gap first : Bool) (b : TestAcc)
    (taken : a.takeRow v stampL stampR testing gap first = b) :
    b.rows = a.rows + 1 ∧ b.live = some v ∧ b.slipCount = a.slipCount ∧ b.slipFound = a.slipFound ∧ b.slipDue = a.slipDue ∧
    b.runImb = optMax a.runImb (rowImbalance v.fL v.fR) ∧
    a.left.takesRow b.left stampL v.fL v.p b.runImb b.rows gap (gap && first) ∧
    a.right.takesRow b.right stampR v.fR v.p b.runImb b.rows gap (gap && first) := by
  obtain ⟨armed, n, found, due, eq⟩ := a.takeRow_rest v stampL stampR testing gap first
  rw [eq] at taken
  subst taken
  exact ⟨rfl, rfl, rfl, rfl, rfl, rfl, a.left.takesRow_rise_turn _ _ _ _ _ _ _, a.right.takesRow_rise_turn _ _ _ _ _ _ _⟩

theorem TestAcc.takeRow_unjudged (a : TestAcc) (v : LiveRow) (stampL stampR : Nat) (testing gap first : Bool)
    (unjudged : testing = false ∨ a.releaseFound = true) :
    a.takeRow v stampL stampR testing gap first = a.withRow v stampL stampR gap first := by
  rw [TestAcc.takeRow_eq]
  rcases unjudged with off | found
  · rw [if_neg (by simp [off])]
  · rw [TestAcc.judgeRelease_found (a := a.withRow v stampL stampR gap first) found, ite_self]

theorem TestAcc.takeRow_judged (a : TestAcc) (v : LiveRow) (stampL stampR : Nat) (gap first : Bool) (fresh : a.releaseFound = false)
    (b : TestAcc) (taken : a.takeRow v stampL stampR true gap first = b) :
    (b.armed = true ↔ a.armed = true ∨ 300 ≤ max v.fL v.fR) ∧
    (b.armed = true → v.isRelease b.left.fmax b.right.fmax →
      b.releaseCount = (if gap = true ∧ first = true then 0 else a.releaseCount) + 1) ∧
    (b.armed = false ∨ ¬v.isRelease b.left.fmax b.right.fmax → b.releaseCount = 0) ∧
    (b.releaseFound = true ↔ 4 ≤ b.releaseCount) ∧ b.releaseDue = (a.releaseDue || b.releaseFound) := by
  rw [TestAcc.takeRow_eq, if_pos rfl, TestAcc.judgeRelease_fresh (a := a.withRow v stampL stampR gap first) fresh] at taken
  subst taken
  dsimp only
  have armed : ((a.withRow v stampL stampR gap first).armed || decide (300 ≤ max v.fL v.fR)) = true ↔
      a.armed = true ∨ 300 ≤ max v.fL v.fR := by
    rw [Bool.or_eq_true, decide_eq_true_iff]
    rfl
  refine ⟨armed, fun on release => ?_, fun missed => ?_, decide_eq_true_iff, rfl⟩
  · rw [TestAcc.countRelease, if_pos (by rw [on, releaseRow_iff.mpr release]; rfl)]
    simp only [Bool.and_eq_true]
    rfl
  · rw [TestAcc.countRelease, if_neg]
    rw [Bool.and_eq_true, releaseRow_iff, not_and_or, Bool.not_eq_true]
    exact missed

/-- The record's report leaves the accumulators, whatever the sequence makes of it (R110). -/
theorem recordFormed_acc (rec : FormedRecord) (s : State) : (rollerReport (.recordFormed rec) s).eval = s.eval := by
  have held (t : State) : (recordReport (.recordFormed rec) t).eval = t.eval := by
    unfold recordReport
    dsimp only
    split <;> simp
  unfold rollerReport
  split
  · rename_i h; exact absurd h (by simp)
  · rename_i h; exact absurd h (by simp)
  · exact held s
  · exact held s
  · rfl

theorem drain_acc (c : Capture) (e : Eval) (draining : e.context = .draining) (rows : e.acc.rows ≠ 0) :
    drain c e = (e, none) ∨ ∃ rec, drain c e = ({ e with context := .noContext, requested := false, wantS0 := none },
      some (.recordFormed rec)) := by
  unfold drain
  rw [draining]
  dsimp only
  split
  · exact Or.inr ⟨_, rfl⟩
  · exact Or.inl rfl

/-- A wanted page in DRAINING: its rows are taken, and the record that the run may give leaves them (R84, R88). -/
theorem finishEvaluation_draining {s : State} {p : Page} (slot : s.eval.slot = some p) {k : Calibration} (calib : s.eval.calib = some k)
    (wanted : s.eval.wants p.stream p.run = true) (context : s.eval.context = .draining) (rows : s.eval.acc.rows + p.rows.length ≠ 0) :
    (finishEvaluation s).eval.acc = p.feeds k s.eval false := by
  have paged := (Eval.paged_rows calib wanted).2 context
  have silent : (s.eval.paged p).2 = none := by rw [paged]
  have same := (released_same s.capture s.eval p).2
  rw [paged] at same
  have acc : (released s.capture s.eval p).2.acc = p.feeds k s.eval false := by rw [same]
  have draining : (released s.capture s.eval p).2.context = .draining := by rw [same]; exact context
  have taken : (released s.capture s.eval p).2.acc.rows ≠ 0 := by
    rw [acc, ← Page.feeds_eq, (takeRows_counts _ _ _ _ _ _ _ _ _).1]
    exact rows
  rcases drain_acc (released s.capture s.eval p).1 _ draining taken with waits | ⟨rec, drains⟩
  · rw [finishEvaluation_undrained slot silent waits]
    exact acc
  · have plate (t : State) : plateReport (.recordFormed rec) t = t := ite_self t
    have outer (t : State) : (onPlate (plateReport (.recordFormed rec)) t).eval = t.eval := by
      unfold onPlate
      split <;> simp [plate]
    have roller (t : State) : (onRoller (rollerReport (.recordFormed rec)) t).eval = t.eval := by
      unfold onRoller
      split <;> simp [recordFormed_acc]
    rw [finishEvaluation_drains slot silent drains, outer, roller]
    exact acc

/-- Settles O40: one row by the side it enters and by the release judgement, then a page's rows in their order. -/
theorem rowsFeedTheAccumulators : Obligations.RowsFeedTheAccumulators := by
  refine ⟨fun a b v stampL stampR testing gap first taken => ?_, fun s quiet p slot k calib wanted => ⟨fun context => ?_, fun context rows => ?_⟩⟩
  · obtain ⟨count, live, slips, found, due, imb, left, right⟩ := a.takeRow_sides v stampL stampR testing gap first b taken
    refine ⟨count, live, slips, found, due, fun low => ?_, fun high => ?_, left, right, fun unjudged => ?_, fun judged fresh => ?_⟩
    · rw [imb, rowImbalance_low low, optMax_none_right]
    · rw [imb, rowImbalance_high high, optMax_some_right]
    · rw [a.takeRow_unjudged v stampL stampR testing gap first unjudged] at taken
      subst taken
      exact ⟨rfl, rfl, rfl, rfl⟩
    · subst judged
      exact a.takeRow_judged v stampL stampR gap first fresh b taken
  · have paged := (Eval.paged_rows calib wanted).1 context
    have silent : (s.eval.paged p).2 = none := by rw [paged]
    have after := congrArg Eval.acc (pageReleased_eval s p)
    rw [paged] at after
    refine ⟨_, exec_evaluationComplete quiet, ?_⟩
    rw [finishEvaluation_silent slot silent (by rw [paged]; simp [context]) (by rw [paged]; simp [context])]
    exact after
  · exact ⟨_, exec_evaluationComplete quiet, finishEvaluation_draining slot calib wanted context rows⟩

end Sys2Proof.Machine
end

section
/-! ### Evaluated pages take effect (R76, R78, R81, R82, R84) -/

namespace Sys2Proof.Machine

/-- The station with the wheel loads taken and AXLE_LOAD queued (R103). -/
def State.loadQueued (s : State) (w : Pair) : State :=
  queueFrame (.axleLoad s.roller.axle.ticket s.roller.axle.axle w) (takeResult s.roller.axle.ticket s.roller.axle.axle (.load w) s)

/-- The same, the axle marked weighed, before POSITIONED is entered. -/
def State.loadTaken (s : State) (w : Pair) : State := (s.loadQueued w).setRoller { (s.loadQueued w).roller with weighed := true }

theorem rollerReport_weigh {s : State} (phase : s.roller.phase = .weigh) (w : Pair) :
    rollerReport (.weighFormed w) s = enterPositioned (s.loadTaken w) := by
  unfold rollerReport
  rw [phase]
  rfl

theorem loadQueued_items (s : State) (w : Pair) : (s.loadQueued w).roller = s.roller ∧ (s.loadQueued w).eval = s.eval := by
  simp [State.loadQueued]

theorem loadTaken_queues {s t : State} (w : Pair) (k : KeepsQueue (s.loadTaken w) t) :
    s.queues t (.axleLoad s.roller.axle.ticket s.roller.axle.axle w) := by
  have marked : KeepsQueue (s.loadQueued w) (s.loadTaken w) := (Within.setRoller (s.loadQueued w) _).keepsQueue
  have can : (takeResult s.roller.axle.ticket s.roller.axle.axle (.load w) s).bus.canQueue = s.bus.canQueue := by simp
  exact queues_of_keeps can rfl (k.after marked)

theorem rollerReport_zero {s : State} (phase : s.roller.phase = .zero) : rollerReport .zeroFormed s = enterTest s := by
  unfold rollerReport
  rw [phase]

/-- The WEIGH report's effects (R103, R104). -/
theorem rollerReport_weighFormed {s : State} (phase : s.roller.phase = .weigh) (w : Pair) :
    (rollerReport (.weighFormed w) s).roller.phase = .positioned ∧ (rollerReport (.weighFormed w) s).roller.weighed = true ∧
    (rollerReport (.weighFormed w) s).roller.motors = s.roller.motors ∧ (rollerReport (.weighFormed w) s).eval.loads = s.eval.loads ∧
    s.queues (rollerReport (.weighFormed w) s) (.axleLoad s.roller.axle.ticket s.roller.axle.axle w) := by
  obtain ⟨roller, eval⟩ := loadQueued_items s w
  have entered := (enterPositioned_frame (s.loadTaken w)).2.2
  have motors : (s.loadTaken w).roller.motors = s.roller.motors := by
    change (s.loadQueued w).roller.motors = s.roller.motors
    rw [roller]
  have loads : (s.loadTaken w).eval.loads = s.eval.loads := by
    change (s.loadQueued w).eval.loads = s.eval.loads
    rw [eval]
  rw [rollerReport_weigh phase]
  exact ⟨congrArg Roller.phase entered, congrArg Roller.weighed entered, (congrArg Roller.motors entered).trans motors,
    (enterPositioned_context _).loads.trans loads, loadTaken_queues w (enterPositioned_within _).keepsQueue⟩

theorem Eval.beginTest_zeroing {e : Eval} (context : e.context = .zeroing) (zt : e.zt.isSome = true) (rr : e.rr.isSome = true)
    (c : Capture) (t : TestSetup) : e.beginTest c t =
      { e with context := .testing, test := t, acc := TestAcc.clear, requested := false, wantS0 := some c.s0.runNumber, wantS1 := none } :=
  if_pos (by rw [context, zt, rr]; rfl)

/-- The entry to TEST where the rolling resistances are formed (R77, R109). -/
theorem enterTest_begins {s : State} (context : s.eval.context = .zeroing) (zt : s.eval.zt.isSome = true) (rr : s.eval.rr.isSome = true) :
    (enterTest s).eval.context = .testing ∧ (enterTest s).eval.acc = TestAcc.clear ∧
    (enterTest s).timers.seqTimer = ⟨true, 160, false⟩ ∧ (enterTest s).eval.wantS0 = some (enterTest s).capture.s0.runNumber ∧
    (enterTest s).eval.zt = s.eval.zt ∧ (enterTest s).eval.rr = s.eval.rr := by
  have streams := writePhaseStreams_context .test s.testSetup.pressure s
  have eval : (enterTest s).eval = (writePhaseStreams .test s.testSetup.pressure s).eval.beginTest
      (writePhaseStreams .test s.testSetup.pressure s).capture s.testSetup := by simp [enterTest]
  have capture : (enterTest s).capture = (writePhaseStreams .test s.testSetup.pressure s).capture := by simp [enterTest]
  rw [Eval.beginTest_zeroing (streams.context.trans context) (by rw [streams.zt, zt]) (by rw [streams.rr, rr])] at eval
  rw [eval, capture]
  exact ⟨rfl, rfl, by simp [enterTest, Config.testWindows], rfl, streams.zt, streams.rr⟩

/-- The effect of a wanted page in WEIGHING and in ZEROING (R81, R82). -/
theorem Eval.paged_static {e : Eval} {k : Calibration} (calib : e.calib = some k) {p : Page} (wanted : e.wants p.stream p.run = true) :
    (e.context = .weighing → p.stream = .s0 → e.loads = none →
      e.paged p = ({ e with zt := some (staticZero p.rows), wantS0 := none }, none)) ∧
    (e.context = .weighing → p.stream = .s1 → e.zt.isSome = true →
      e.paged p = ({ e with loads := some (wheelLoads k p.rows), wantS1 := none }, some (.weighFormed (wheelLoads k p.rows)))) ∧
    (e.context = .zeroing → e.paged p =
      ({ e with rr := some (rollingPair k (e.zt.getD ⟨0, 0⟩) p.rows), wantS0 := none }, some .zeroFormed)) := by
  rw [Eval.paged_wanted calib wanted, Eval.takePage]
  refine ⟨fun context stream loads => ?_, fun context stream zero => ?_, fun context => ?_⟩
  · simp [context, stream, loads]
  · simp [context, stream, zero]
  · simp [context, (Eval.wants_s0 (by simp [context]) wanted).1]

/-- A page with its report on a ROLLER station. -/
theorem finishEvaluation_roller {s : State} (active : s.rollerActive = true) {p : Page} (slot : s.eval.slot = some p) {r : EvalReport}
    (report : (s.eval.paged p).2 = some r) : finishEvaluation s = rollerReport r (s.pageReleased p) := by
  have here : (s.pageReleased p).rollerActive = true := by rw [← active]; exact State.rollerActive_congr (by simp) (by simp)
  have there : (rollerReport r (s.pageReleased p)).rollerActive = true := by
    rw [← here]
    exact State.rollerActive_congr ((rollerReport_within r _).same .power (by simp)) ((rollerReport_within r _).same .startUp (by simp))
  have taken : onRoller (rollerReport r) (s.pageReleased p) = rollerReport r (s.pageReleased p) := if_pos here
  rw [finishEvaluation_reports slot report, taken, onPlate_of_roller there]

/-- Settles O39, context by context. -/
theorem evaluatedPagesTakeEffect : Obligations.EvaluatedPagesTakeEffect := by
  intro s quiet p slot
  refine ⟨_, exec_evaluationComplete quiet, fun unwanted draining crossing => ?_, fun k calib wanted => ⟨fun context => ?_,
    fun context stream loads => ?_, fun context stream zero active phase => ?_, fun context zero active phase => ?_⟩⟩
  · have paged := Eval.paged_unwanted unwanted
    have after := pageReleased_eval s p
    rw [paged] at after
    rw [finishEvaluation_silent slot (by rw [paged]) (by rwa [paged]) (by rwa [paged])]
    exact ⟨pageReleased_changes s p, after⟩
  · have paged := (Eval.paged_rows calib wanted).1 context
    have after := pageReleased_eval s p
    rw [paged] at after
    obtain ⟨rows, left, right⟩ := takeRows_counts k (s.eval.zt.getD ⟨0, 0⟩) (s.eval.rr.getD ⟨0, 0⟩) s.eval.test.pressure true p.gap p.rows
      true s.eval.acc
    rw [Page.feeds_eq] at rows left right
    rw [finishEvaluation_silent slot (by rw [paged]) (by rw [paged]; simp [context]) (by rw [paged]; simp [context])]
    have acc := congrArg Eval.acc after
    dsimp only at acc
    rw [acc]
    exact ⟨pageReleased_changes s p, (congrArg Eval.context after).trans context, rows, left, right⟩
  · have paged := (Eval.paged_static calib wanted).1 context stream loads
    have after := pageReleased_eval s p
    rw [paged] at after
    rw [finishEvaluation_silent slot (by rw [paged]) (by rw [paged]; simp [context]) (by rw [paged]; simp [context])]
    exact ⟨pageReleased_changes s p, congrArg Eval.zt after, congrArg Eval.wantS0 after, (congrArg Eval.context after).trans context⟩
  · have paged := (Eval.paged_static calib wanted).2.1 context stream zero
    have after := pageReleased_eval s p
    rw [paged] at after
    have same : (s.pageReleased p).roller = s.roller := by simp
    obtain ⟨positioned, weighed, motors, loads, queued⟩ := rollerReport_weighFormed (s := s.pageReleased p) (same ▸ phase) (wheelLoads k p.rows)
    rw [finishEvaluation_roller active slot (by rw [paged])]
    refine ⟨positioned, weighed, motors.trans (by rw [same]), wheelLoads k p.rows, loads.trans (congrArg Eval.loads after), rfl, rfl, ?_⟩
    have bus : (s.pageReleased p).bus = s.bus := by simp
    rw [same] at queued
    exact fun open' => queued (by rwa [bus])
  · have paged := (Eval.paged_static calib wanted).2.2 context
    have after := pageReleased_eval s p
    rw [paged] at after
    have same : (s.pageReleased p).roller = s.roller := by simp
    obtain ⟨z, present⟩ := Option.isSome_iff_exists.mp zero
    obtain ⟨testing, acc, timer, wants, -, rr⟩ := enterTest_begins (s := s.pageReleased p) ((congrArg Eval.context after).trans context)
      ((congrArg (·.zt.isSome) after).trans zero) (congrArg (·.rr.isSome) after)
    rw [finishEvaluation_roller active slot (by rw [paged]), rollerReport_zero (by rw [same]; exact phase)]
    refine ⟨by simp, by simp, testing, acc, timer, wants, z, present, rr.trans ((congrArg Eval.rr after).trans ?_)⟩
    rw [present]
    rfl

end Sys2Proof.Machine
end

section
/-! The drainage of a recorded run: which of its pages are still to come, through hand-overs and releases (R69, R88). -/

namespace Sys2Proof.Machine

/-! ### The pages of a run -/

theorem Buffer.fullOf_iff {b : Buffer} {run : Nat} : b.fullOf run = true ↔ b.state = .full ∧ b.run = run := by
  rw [Buffer.fullOf, Bool.and_eq_true, beq_iff_eq, beq_iff_eq]

/-- A page of a run of S0 stands in the slot, or FULL in a buffer. -/
def pageToCome (run : Nat) (c : Capture) (e : Eval) : Prop :=
  (∃ q, e.slot = some q ∧ q.stream = .s0 ∧ q.run = run) ∨ ∃ inB : Bool, (c.s0.buffer inB).fullOf run = true

/-- The run recorded is drained when S0 is OFF and no page of it is to come (R88). -/
theorem drained_iff {c : Capture} {e : Eval} {run : Nat} (recorded : e.wantS0 = some run) :
    drained c e = true ↔ c.s0.running = false ∧ ¬pageToCome run c e := by
  have buffers : (∃ inB : Bool, (c.s0.buffer inB).fullOf run = true) ↔ c.s0.bufA.fullOf run = true ∨ c.s0.bufB.fullOf run = true := by
    rw [Bool.exists_bool]
    rfl
  rw [pageToCome, buffers]
  cases slot : e.slot with
  | none => simp [drained, recorded, slot]; tauto
  | some q => simp [drained, recorded, slot]; tauto

theorem Stream.takeBuffer_fullOf (x : Stream) (held : Bool) (b : Bool) (run : Nat) :
    ((x.takeBuffer held).buffer b).fullOf run = (x.buffer b).fullOf run := by
  have fresh {y : Buffer} (empty : y.state = .empty) : Buffer.fresh.fullOf run = y.fullOf run := by
    rw [Buffer.fullOf, Buffer.fullOf, empty]
    rfl
  unfold Stream.takeBuffer
  split
  · rename_i empty
    cases b with
    | false => exact fresh empty
    | true => rfl
  · split
    · rename_i empty
      cases b with
      | false => rfl
      | true => exact fresh empty
    · rfl

/-- A release empties its own buffer, and leaves the pages of the other. -/
theorem Stream.release_fullOf (x : Stream) (inB held : Bool) (b : Bool) (run : Nat) :
    ((x.release inB held).buffer b).fullOf run = (decide (b ≠ inB) && (x.buffer b).fullOf run) := by
  have cleared : ((x.setBuffer inB Buffer.clear).buffer b).fullOf run = (decide (b ≠ inB) && (x.buffer b).fullOf run) := by
    cases inB <;> cases b <;> rfl
  unfold Stream.release
  dsimp only
  split
  · rw [Stream.takeBuffer_fullOf, cleared]
  · exact cleared

theorem Stream.handOver_fullOf (x : Stream) (inB : Bool) {b : Bool} (other : b ≠ inB) (run : Nat) :
    ((x.handOver inB).buffer b).fullOf run = (x.buffer b).fullOf run := by
  cases inB <;> cases b
  · exact absurd rfl other
  · rfl
  · rfl
  · exact absurd rfl other

/-- S0 after a release of one of the block's buffers. -/
theorem Capture.release_fullOf (c : Capture) (i : StreamId) (inB : Bool) (b : Bool) (run : Nat) :
    ((c.release i inB).s0.buffer b).fullOf run = (decide (¬(i = .s0 ∧ b = inB)) && (c.s0.buffer b).fullOf run) := by
  cases i with
  | s0 =>
    have whole : (c.release .s0 inB).s0 = c.s0.release inB (c.heldByOther .s0) := rfl
    rw [whole, Stream.release_fullOf]
    simp
  | s1 | s2 | s3 => simp [Capture.release, Capture.setStream]

/-! ### The hand-over -/

/-- The unit drains a run of S0: its pages, and no others, are wanted (R78, R88, R95). -/
structure Eval.Drains (e : Eval) (run : Nat) : Prop where
  context : e.context = .draining ∨ e.context = .crossingDrain
  recorded : e.wantS0 = some run

theorem Eval.Drains.wants_iff {e : Eval} {run : Nat} (h : e.Drains run) {i : StreamId} {r : Nat} :
    e.wants i r = true ↔ i = .s0 ∧ r = run := by
  cases i with
  | s0 =>
    have own : e.wants .s0 r = (some run == some r) := by
      rcases h.context with context | context <;> simp [Eval.wants, context, h.recorded]
    rw [own, beq_iff_eq, Option.some.injEq, eq_comm]
    exact (and_iff_right rfl).symm
  | s1 | s2 | s3 => rcases h.context with context | context <;> simp [Eval.wants, context]

/-- The page handed over leaves the S0 pages that are to come: it goes to the slot where it is one of them, and another is passed over. -/
theorem passOver_pageToCome {c : Capture} {e : Eval} {run : Nat} (free : e.slot = none) {i : StreamId} {inB : Bool}
    (unwanted : ¬(i = .s0 ∧ ((c.stream i).buffer inB).run = run)) :
    pageToCome run ((c.setStream i ((c.stream i).handOver inB)).release i inB) e ↔ pageToCome run c e := by
  have buffers (b : Bool) : (((c.setStream i ((c.stream i).handOver inB)).release i inB).s0.buffer b).fullOf run =
      (c.s0.buffer b).fullOf run := by
    rw [Capture.release_fullOf]
    by_cases here : i = .s0 ∧ b = inB
    · obtain ⟨rfl, rfl⟩ := here
      have elsewhere : ¬((c.s0.buffer b).fullOf run = true) := fun full => unwanted ⟨rfl, (Buffer.fullOf_iff.mp full).2⟩
      simp [elsewhere]
    · rw [decide_eq_true here, Bool.true_and]
      cases i with
      | s0 => exact Stream.handOver_fullOf _ _ (fun same => here ⟨rfl, same⟩) run
      | s1 | s2 | s3 => rfl
  unfold pageToCome
  simp only [free, buffers]

/-- A hand-over keeps the pages that a draining run has to come. -/
theorem handOverPages_pageToCome {run : Nat} : ∀ (fuel : Nat) (c : Capture) (e : Eval), e.Drains run →
    (pageToCome run (handOverPages fuel (c, e)).1 (handOverPages fuel (c, e)).2 ↔ pageToCome run c e)
  | 0, _, _, _ => Iff.rfl
  | fuel + 1, c, e, drains => by
    unfold handOverPages
    split
    · rfl
    · rename_i free
      split
      · rfl
      · rename_i i inB next
        have full := Capture.nextFull_state next
        dsimp only
        split
        · rename_i wanted
          obtain ⟨stream, mine⟩ := drains.wants_iff.mp wanted
          subst stream
          exact iff_of_true (Or.inl ⟨_, rfl, rfl, mine⟩) (Or.inr ⟨inB, Buffer.fullOf_iff.mpr ⟨full, mine⟩⟩)
        · rename_i unwanted
          rw [handOverPages_pageToCome fuel _ e drains]
          exact passOver_pageToCome (by simpa using free) fun mine => unwanted (drains.wants_iff.mpr mine)

/-- The pages of the run that are to come once the page in the slot is evaluated. -/
theorem released_pageToCome {c : Capture} {e : Eval} {p : Page} {run : Nat} (drains : (e.paged p).1.Drains run) :
    pageToCome run (released c e p).1 (released c e p).2 ↔
      ∃ inB : Bool, ¬(p.stream = .s0 ∧ p.inB = inB) ∧ (c.s0.buffer inB).state = .full ∧ (c.s0.buffer inB).run = run := by
  have emptied : ({ (e.paged p).1 with slot := none } : Eval).Drains run := ⟨drains.context, drains.recorded⟩
  rw [released, handOver, handOverPages_pageToCome 9 _ _ emptied, pageToCome]
  simp only [Capture.release_fullOf, Bool.and_eq_true, decide_eq_true_iff, Buffer.fullOf_iff, reduceCtorEq, false_and, exists_false, false_or,
    eq_comm (a := p.inB)]

/-- S0 runs on, or not, through the evaluation of a page. -/
theorem released_running (c : Capture) (e : Eval) (p : Page) : (released c e p).1.s0.running = c.s0.running :=
  ((released_same c e p).1.streams .s0).running

theorem released_drained {c : Capture} {e : Eval} {p : Page} {run : Nat} (drains : (e.paged p).1.Drains run) :
    drained (released c e p).1 (released c e p).2 = true ↔ c.s0.running = false ∧ ∀ inB : Bool, ¬(p.stream = .s0 ∧ p.inB = inB) →
      (c.s0.buffer inB).state = .full → (c.s0.buffer inB).run ≠ run := by
  have recorded : (released c e p).2.wantS0 = some run := by rw [(released_same c e p).2]; exact drains.recorded
  rw [drained_iff recorded, released_running, released_pageToCome drains]
  simp only [not_exists, not_and]

theorem State.lastPageInSlot_iff {s : State} {p : Page} {run : Nat} (drains : (s.eval.paged p).1.Drains run) :
    s.lastPageInSlot p run ↔ drained (released s.capture s.eval p).1 (released s.capture s.eval p).2 = true :=
  (released_drained drains).symm

end Sys2Proof.Machine
end

section
/-! ### The record formed once the run is drained (R85, R88 to R90, R110) -/

namespace Sys2Proof.Machine

/-! #### What drainage gives -/

/-- The unit once the record has been asked for and given (R88). -/
def Eval.recorded (e : Eval) : Eval := { e with context := .noContext, requested := false, wantS0 := none }

theorem drain_waits {c : Capture} {e : Eval} (context : e.context = .draining) (waits : e.requested = false ∨ ¬drained c e = true) :
    drain c e = (e, none) := by
  have short : ¬(e.requested && drained c e) = true := by
    rw [Bool.and_eq_true, not_and_or]
    exact waits.imp (by simp) id
  unfold drain
  rw [context]
  exact if_neg short

theorem drain_gives {c : Capture} {e : Eval} (context : e.context = .draining) (requested : e.requested = true) (done : drained c e = true) :
    drain c e = (e.recorded, some (if e.acc.rows = 0 then .noRows
      else .recordFormed (e.acc.record e.test (e.loads.getD ⟨0, 0⟩) (e.rr.getD ⟨0, 0⟩)))) := by
  unfold drain
  rw [context]
  refine (if_pos (by rw [requested, done]; rfl)).trans ?_
  by_cases rows : e.acc.rows = 0
  · simp only [if_pos rows]
    rfl
  · simp only [if_neg rows]
    rfl

/-! #### The record -/

/-- The imbalance of a test, by the side that leads (R85). -/
theorem TestAcc.imbalance_cases (a : TestAcc) :
    (a.right.fmax < a.left.fmax → a.imbalance = a.left.imbAtRise) ∧ (a.left.fmax < a.right.fmax → a.imbalance = a.right.imbAtRise) ∧
    (a.left.fmax = a.right.fmax → a.imbalance = if a.left.riseRow ≤ a.right.riseRow then a.left.imbAtRise else a.right.imbAtRise) := by
  unfold TestAcc.imbalance
  refine ⟨fun left => if_pos left, fun right => ?_, fun even => ?_⟩
  · rw [if_neg (by omega), if_pos right]
  · rw [if_neg (by omega), if_neg (by omega)]

theorem referenced_some {p pref : Nat} (h : referable p pref) (fmax : Nat) :
    referenced fmax (some p) pref = some (min 9999 (fmax * (pref - 40) / (p - 40))) := by
  obtain ⟨pressed, near⟩ := h
  rw [referenced, if_neg (by omega), if_neg (by omega)]

theorem referenced_none {p pref : Nat} (h : ¬referable p pref) (fmax : Nat) : referenced fmax (some p) pref = none := by
  unfold referable at h
  rw [referenced]
  by_cases pressed : p < 60
  · rw [if_pos pressed]
  · rw [if_neg pressed, if_pos (by omega)]

theorem TestAcc.frefPair_absent {a : TestAcc} {t : TestSetup} (h : t.kind = .parking ∨ t.pressure = false ∨ t.pref = none ∨
    a.left.pAtMax = none ∨ a.right.pAtMax = none) : a.frefPair t = none := by
  unfold TestAcc.frefPair
  split
  · rename_i pref kind pressure reference
    rcases h with other | off | missing | left | right
    · exact absurd (other.symm.trans kind) (by simp)
    · exact absurd (off.symm.trans pressure) (by simp)
    · exact absurd (missing.symm.trans reference) (by simp)
    · simp [left, referenced]
    · rw [right, referenced]
      split
      · rename_i second
        exact absurd second (by simp)
      · rfl
  · rfl

theorem TestAcc.frefPair_measured {a : TestAcc} {t : TestSetup} (kind : t.kind = .service) (pressure : t.pressure = true) {pref : Nat}
    (reference : t.pref = some pref) {pL pR : Nat} (left : a.left.pAtMax = some pL) (right : a.right.pAtMax = some pR) :
    (referable pL pref → referable pR pref → a.frefPair t =
      some ⟨min 9999 (a.left.fmax * (pref - 40) / (pL - 40)), min 9999 (a.right.fmax * (pref - 40) / (pR - 40))⟩) ∧
    (¬referable pL pref ∨ ¬referable pR pref → a.frefPair t = none) := by
  refine ⟨fun low high => ?_, fun off => ?_⟩
  · simp only [TestAcc.frefPair, kind, pressure, reference, left, right, referenced_some low, referenced_some high]
  · rcases off with off | off
    · simp [TestAcc.frefPair, kind, pressure, reference, left, referenced_none off]
    · simp only [TestAcc.frefPair, kind, pressure, reference, right, referenced_none off]
      split
      · rename_i second
        exact absurd second (by simp)
      · rfl

/-! #### The sequence's part -/

theorem rollerReport_record {s : State} (phase : s.roller.phase = .stopping ∨ s.roller.phase = .result) (r : EvalReport) :
    rollerReport r s = recordReport r s := by
  unfold rollerReport
  rcases phase with phase | phase <;> rw [phase]

/-- A drained run's report on a ROLLER station. -/
theorem finishEvaluation_recorded {s : State} (active : s.rollerActive = true) {p : Page} (slot : s.eval.slot = some p)
    (silent : (s.eval.paged p).2 = none) {e : Eval} {r : EvalReport}
    (drains : drain (released s.capture s.eval p).1 (released s.capture s.eval p).2 = (e, some r)) :
    finishEvaluation s = rollerReport r ((s.pageReleased p).setEval e) := by
  have here : ((s.pageReleased p).setEval e).rollerActive = true := by
    rw [← active]
    exact State.rollerActive_congr (by simp) (by simp)
  have there : (rollerReport r ((s.pageReleased p).setEval e)).rollerActive = true := by
    rw [← here]
    exact State.rollerActive_congr ((rollerReport_within r _).same .power (by simp)) ((rollerReport_within r _).same .startUp (by simp))
  have taken : onRoller (rollerReport r) ((s.pageReleased p).setEval e) = rollerReport r ((s.pageReleased p).setEval e) := if_pos here
  rw [finishEvaluation_drains slot silent drains, taken, onPlate_of_roller there]

/-- The NO_ROWS fault on a free sequence: the axle stays, the unit keeps its loads and static zero (R110, R114). -/
theorem recordReport_noRows {s : State} (free : s.roller.faultHold = none) :
    (recordReport .noRows s).roller.faultHold = some .noRows ∧ (recordReport .noRows s).roller.phase = .idle ∧
    SameContext s.eval.discardTest (recordReport .noRows s).eval := by
  have roller := rollerFault_free .noRows s free
  refine ⟨congrArg Roller.faultHold roller, congrArg Roller.phase roller, ?_⟩
  have before : (raiseMotorFault .noRows (changeRoller (fun r => { r with faultHold := some .noRows }) (evalDiscardTest (motorStop s)))).eval =
      s.eval.discardTest := by simp
  have idle := enterIdle_context true
    (raiseMotorFault .noRows (changeRoller (fun r => { r with faultHold := some .noRows }) (evalDiscardTest (motorStop s))))
  rw [if_pos rfl, before] at idle
  have unfolded : recordReport .noRows s = enterIdle true
      (raiseMotorFault .noRows (changeRoller (fun r => { r with faultHold := some .noRows }) (evalDiscardTest (motorStop s)))) :=
    if_neg (by simp [free])
  rw [unfolded]
  exact idle

/-- The record held, and written at once in RESULT (R110, R111). -/
theorem recordReport_formed (s : State) (rec : FormedRecord) :
    (recordReport (.recordFormed rec) s).roller.held = some rec ∧ (recordReport (.recordFormed rec) s).eval = s.eval ∧
    (recordReport (.recordFormed rec) s).roller.phase = s.roller.phase ∧
    (recordReport (.recordFormed rec) s).roller.faultHold = s.roller.faultHold ∧
    (s.roller.phase ≠ .result → (recordReport (.recordFormed rec) s).lane = s.lane) ∧
    (s.roller.phase = .result → (recordReport (.recordFormed rec) s).roller.resultWritten = true) := by
  unfold recordReport
  dsimp only
  split
  · rename_i result
    simp [result]
  · rename_i other
    exact ⟨rfl, rfl, rfl, rfl, fun _ => rfl, fun result => absurd result other⟩

/-! #### The page in the slot -/

/-- A page in DRAINING moves the accumulators alone, and by its rows alone. -/
theorem Eval.paged_draining {e : Eval} (context : e.context = .draining) (p : Page) : ∃ a : TestAcc,
    e.paged p = ({ e with acc := a }, none) ∧ e.acc.rows ≤ a.rows ∧
    (e.calib.isSome = true → e.wants p.stream p.run = true → a.rows = e.acc.rows + p.rows.length) := by
  rcases Option.eq_none_or_eq_some e.calib with calib | ⟨k, calib⟩
  · exact ⟨e.acc, Eval.paged_blank calib p, le_rfl, fun present => absurd present (by simp [calib])⟩
  · by_cases wanted : e.wants p.stream p.run = true
    · have rows := (takeRows_counts k (e.zt.getD ⟨0, 0⟩) (e.rr.getD ⟨0, 0⟩) e.test.pressure false p.gap p.rows true e.acc).1
      rw [Page.feeds_eq] at rows
      exact ⟨p.feeds k e false, (Eval.paged_rows calib wanted).2 context, by omega, fun _ _ => rows⟩
    · exact ⟨e.acc, Eval.paged_unwanted (Bool.eq_false_iff.mpr wanted), le_rfl, fun _ want => absurd want wanted⟩

/-- The last page of a run that has been asked for: the unit gives its report and is free (R88). -/
theorem drain_last {s : State} (context : s.eval.context = .draining) (requested : s.eval.requested = true) {p : Page} {run : Nat}
    (recorded : s.eval.wantS0 = some run) (last : s.lastPageInSlot p run) {loads rr : Pair} (loaded : s.eval.loads = some loads)
    (rolling : s.eval.rr = some rr) {a : TestAcc} (paged : s.eval.paged p = ({ s.eval with acc := a }, none)) :
    ∃ e : Eval, drain (released s.capture s.eval p).1 (released s.capture s.eval p).2 =
        (e, some (if a.rows = 0 then .noRows else .recordFormed (a.record s.eval.test loads rr))) ∧
      e.context = .noContext ∧ e.loads = some loads ∧ e.zt = s.eval.zt ∧ e.rr = some rr ∧ e.acc = a := by
  have drains : (s.eval.paged p).1.Drains run := by rw [paged]; exact ⟨Or.inl context, recorded⟩
  have same := (released_same s.capture s.eval p).2
  rw [paged] at same
  have draining : (released s.capture s.eval p).2.context = .draining := by rw [same]; exact context
  have asked : (released s.capture s.eval p).2.requested = true := by rw [same]; exact requested
  have given := drain_gives draining asked ((State.lastPageInSlot_iff drains).mp last)
  have acc : (released s.capture s.eval p).2.acc = a := by rw [same]
  have setup : (released s.capture s.eval p).2.test = s.eval.test := by rw [same]
  have loadsKept : (released s.capture s.eval p).2.loads = some loads := by rw [same]; exact loaded
  have zero : (released s.capture s.eval p).2.zt = s.eval.zt := by rw [same]
  have rrKept : (released s.capture s.eval p).2.rr = some rr := by rw [same]; exact rolling
  rw [acc, setup, loadsKept, rrKept, Option.getD_some, Option.getD_some] at given
  exact ⟨_, given, rfl, loadsKept, zero, rrKept, acc⟩

/-- A draining run that was not asked for, or that has pages to come: the unit waits (R88). -/
theorem drain_early {s : State} (context : s.eval.context = .draining) {p : Page} {run : Nat} (recorded : s.eval.wantS0 = some run)
    {a : TestAcc} (paged : s.eval.paged p = ({ s.eval with acc := a }, none))
    (waits : s.eval.requested = false ∨ ∃ inB : Bool, ¬(p.stream = .s0 ∧ p.inB = inB) ∧ (s.capture.s0.buffer inB).state = .full ∧
      (s.capture.s0.buffer inB).run = run) :
    (released s.capture s.eval p).2.context = .draining ∧
    drain (released s.capture s.eval p).1 (released s.capture s.eval p).2 = ((released s.capture s.eval p).2, none) := by
  have drains : (s.eval.paged p).1.Drains run := by rw [paged]; exact ⟨Or.inl context, recorded⟩
  have same := (released_same s.capture s.eval p).2
  rw [paged] at same
  have draining : (released s.capture s.eval p).2.context = .draining := by rw [same]; exact context
  have asked : (released s.capture s.eval p).2.requested = s.eval.requested := by rw [same]
  refine ⟨draining, drain_waits draining ?_⟩
  rw [asked]
  exact waits.imp id fun ⟨inB, other, full, mine⟩ done => ((released_drained drains).mp done).2 inB other full mine

/-- The record a test's accumulators give (R85, R89, R90). -/
theorem TestAcc.record_figures (a : TestAcc) (t : TestSetup) (loads rr : Pair) :
    let h := a.record t loads rr
    h.kind = t.kind ∧ h.load = loads ∧ h.figures.rr = rr ∧ h.figures.fmax = ⟨a.left.fmax, a.right.fmax⟩ ∧
    h.figures.ovalL = a.left.oval ∧ h.figures.ovalR = a.right.oval ∧
    (a.right.fmax < a.left.fmax → h.figures.imbalance = a.left.imbAtRise) ∧
    (a.left.fmax < a.right.fmax → h.figures.imbalance = a.right.imbAtRise) ∧
    (a.left.fmax = a.right.fmax → h.figures.imbalance =
      if a.left.riseRow ≤ a.right.riseRow then a.left.imbAtRise else a.right.imbAtRise) ∧
    (t.kind = .parking ∨ t.pressure = false ∨ t.pref = none ∨ a.left.pAtMax = none ∨ a.right.pAtMax = none → h.figures.fref = none) ∧
    (t.kind = .service → t.pressure = true → ∀ pref, t.pref = some pref → ∀ pL, a.left.pAtMax = some pL → ∀ pR, a.right.pAtMax = some pR →
      (referable pL pref → referable pR pref → h.figures.fref =
        some ⟨min 9999 (a.left.fmax * (pref - 40) / (pL - 40)), min 9999 (a.right.fmax * (pref - 40) / (pR - 40))⟩) ∧
      (¬referable pL pref ∨ ¬referable pR pref → h.figures.fref = none)) := by
  obtain ⟨left, right, even⟩ := a.imbalance_cases
  exact ⟨rfl, rfl, rfl, rfl, rfl, rfl, left, right, even, TestAcc.frefPair_absent,
    fun kind pressure _ reference _ pL _ pR => TestAcc.frefPair_measured kind pressure reference pL pR⟩

/-- Settles O41: the drainage of the run, then its report at the sequence. -/
theorem recordIsFormedWhenTheRunIsDrained : Obligations.RecordIsFormedWhenTheRunIsDrained := by
  intro s quiet active free context phase p slot run recorded loads loaded rr rolling
  obtain ⟨a, paged, rises, rows⟩ := Eval.paged_draining context p
  have silent : (s.eval.paged p).2 = none := by rw [paged]
  refine ⟨fun waits => ⟨_, exec_evaluationComplete quiet, ?_⟩, fun requested last => ⟨_, exec_evaluationComplete quiet, ?_⟩⟩
  · obtain ⟨draining, undrained⟩ := drain_early context recorded paged waits
    rw [finishEvaluation_undrained slot silent undrained]
    exact ⟨draining, by simp, by simp⟩
  · obtain ⟨e, given, contextE, loadsE, zeroE, rrE, accE⟩ := drain_last context requested recorded last loaded rolling paged
    have roller : ((s.pageReleased p).setEval e).roller = s.roller := by simp
    have lane : ((s.pageReleased p).setEval e).lane = s.lane := by simp
    rw [finishEvaluation_recorded active slot silent given, rollerReport_record (by rw [roller]; exact phase)]
    by_cases noRow : a.rows = 0
    · rw [if_pos noRow]
      obtain ⟨hold, idle, kept⟩ := recordReport_noRows (s := (s.pageReleased p).setEval e) (by rw [roller, free])
      have discarded : e.discardTest = { e with context := .noContext, acc := TestAcc.clear, rr := none, requested := false,
                                                wantS0 := none, wantS1 := none } := if_neg (by simp [contextE])
      have kept : SameContext e.discardTest (recordReport .noRows ((s.pageReleased p).setEval e)).eval := kept
      rw [discarded] at kept
      refine ⟨kept.context, kept.loads.trans loadsE, kept.zt.trans zeroE, fun _ => ⟨idle, kept.rr, by omega, fun calib wanted => ?_⟩,
        fun other => absurd hold other⟩
      have := rows calib wanted
      exact List.length_eq_zero_iff.mp (by omega)
    · rw [if_neg noRow]
      obtain ⟨held, eval, phaseT, hold, otherwise, written⟩ :=
        recordReport_formed ((s.pageReleased p).setEval e) (a.record s.eval.test loads rr)
      have eval : (recordReport (.recordFormed (a.record s.eval.test loads rr)) ((s.pageReleased p).setEval e)).eval = e := eval
      rw [roller] at phaseT hold otherwise written
      refine ⟨by rw [eval, contextE], by rw [eval, loadsE], by rw [eval, zeroE], fun faulted => ?_, fun _ => ?_⟩
      · rw [hold, free] at faulted
        exact absurd faulted (by simp)
      · rw [eval, accE, rrE]
        refine ⟨rfl, by omega, fun stopping => ⟨phaseT.trans stopping, (otherwise (by simp [stopping])).trans lane⟩,
          fun result => ⟨phaseT.trans result, written result⟩, _, held, a.record_figures s.eval.test loads rr⟩

end Sys2Proof.Machine
end

section
/-! A crossing from its entry to its end: the axle expected and fixed, the events at the table, the frames in their order (R9, R12, R121 to
R123). -/

namespace Sys2Proof.Machine

/-! ### The expected vehicle (R12) -/

theorem oldest_map {f : Entry → Entry} (stamp : ∀ e, (f e).stamp = e.stamp) : ∀ l : List Entry, oldest (l.map f) = (oldest l).map f
  | [] => rfl
  | e :: es => by
    rw [List.map_cons, oldest, oldest, oldest_map stamp es]
    cases oldest es with
    | none => rfl
    | some x =>
      simp only [Option.map_some, stamp]
      split <;> rfl

theorem Entry.axleEvent_arrived (e : Entry) (axle : Nat) (role : MeasuringRole) : (e.axleEvent axle .arrived role).stamp = e.stamp ∧
    (e.axleEvent axle .arrived role).ticket = e.ticket ∧ (e.axleEvent axle .arrived role).isOpen = e.isOpen ∧
    (e.axleEvent axle .arrived role).axleCount = e.axleCount ∧ ∀ r, (e.axleEvent axle .arrived role).passed r = e.passed r := by
  rw [Entry.axleEvent_eq]
  refine ⟨rfl, rfl, ?_, rfl, fun r => by cases r <;> simp [Entry.passed]⟩
  cases state : e.state <;> simp [Entry.isOpen, state]

/-- An arrival changes no expectation (R12). -/
theorem LaneView.expected_arrived (v : LaneView) (n axle : Nat) (role r : MeasuringRole) :
    (v.axleEvent n axle .arrived role).expected r = v.expected r := by
  obtain ⟨f, mapped⟩ : ∃ f : Entry → Entry, f = fun e => if e.ticket = n then e.axleEvent axle .arrived role else e := ⟨_, rfl⟩
  have keeps (e : Entry) : (f e).stamp = e.stamp ∧ (f e).ticket = e.ticket ∧ (f e).isOpen = e.isOpen ∧ (f e).axleCount = e.axleCount ∧
      ∀ r, (f e).passed r = e.passed r := by
    rw [mapped]
    dsimp only
    split
    · exact e.axleEvent_arrived axle role
    · exact ⟨rfl, rfl, rfl, rfl, fun _ => rfl⟩
  unfold LaneView.axleEvent
  split
  · have entries : (v.update n fun e => e.axleEvent axle .arrived role).entries = v.entries.map f := by rw [mapped]; rfl
    have same : (fun e : Entry => e.isOpen && decide (e.passed r < e.axleCount)) ∘ f =
        fun e : Entry => e.isOpen && decide (e.passed r < e.axleCount) := by
      funext e
      obtain ⟨-, -, open', count, passed⟩ := keeps e
      simp only [Function.comp_apply, open', count, passed]
    unfold LaneView.expected
    rw [entries, List.filter_map, same, oldest_map fun e => (keeps e).1]
    cases oldest (v.entries.filter fun e => e.isOpen && decide (e.passed r < e.axleCount)) with
    | none => rfl
    | some e =>
      obtain ⟨-, ticket, -, -, passed⟩ := keeps e
      simp only [Option.map_some, ticket, passed]
  · rfl

/-! ### An entry through the events and the slip of a crossing (R9, R14) -/

theorem axleEvent_find {v : LaneView} {m : Nat} {x : Entry} (found : v.find m = some x) (n axle : Nat) (ev : AxleEventKind)
    (role : MeasuringRole) : ∃ y, (v.axleEvent n axle ev role).find m = some y ∧ y.axles = x.axles ∧ y.axleCount = x.axleCount ∧
      (ev = .arrived → y.platePassed = x.platePassed) := by
  unfold LaneView.axleEvent
  split
  · rw [find_update fun e _ ticket => (Entry.axleEvent_ticket e axle ev role).trans ticket]
    rw [found]
    split
    · refine ⟨_, rfl, ?_⟩
      dsimp only
      rw [Entry.axleEvent_eq]
      exact ⟨rfl, rfl, fun arrived => by simp [arrived]⟩
    · exact ⟨x, rfl, rfl, rfl, fun _ => rfl⟩
  · exact ⟨x, found, rfl, rfl, fun _ => rfl⟩

theorem LaneView.live_of {v : LaneView} {n axle : Nat} {e : Entry} (found : v.find n = some e) (takes : e.takesResults = true)
    (low : 1 ≤ axle) (high : axle ≤ e.axleCount) : v.live n axle = some e := by
  simp [LaneView.live, found, takes, low, high]

/-- The exit of an axle from the plate at its entry (R9). -/
theorem axleEvent_find_left {v : LaneView} {n axle : Nat} {e : Entry} (found : v.find n = some e) (takes : e.takesResults = true)
    (low : 1 ≤ axle) (high : axle ≤ e.axleCount) : ∃ y, (v.axleEvent n axle .left .plate).find n = some y ∧ y.axles = e.axles ∧
      y.platePassed = max e.platePassed axle := by
  have live := LaneView.live_of found takes low high
  refine ⟨e.axleEvent axle .left .plate, ?_, ?_, ?_⟩
  · unfold LaneView.axleEvent
    rw [live]
    dsimp only
    rw [find_update fun e _ ticket => (Entry.axleEvent_ticket e axle .left .plate).trans ticket, found]
    simp
  · rw [Entry.axleEvent_eq]
  · rw [Entry.axleEvent_eq]
    simp

theorem Entry.afterResult_slip {e : Entry} (takes : e.takesResults = true) (axle : Nat) (i : Int) (slip : Bool) :
    (e.afterResult axle (.slip i) slip).takesResults = true ∧ (e.afterResult axle (.slip i) slip).axleCount = e.axleCount ∧
    (e.afterResult axle (.slip i) slip).platePassed = e.platePassed := by
  obtain ⟨y, recomputed⟩ : ∃ y, y = (e.write axle (.slip i)).recomputed slip (.slip i) := ⟨_, rfl⟩
  have written : y.state = e.state ∧ y.axleCount = e.axleCount ∧ y.platePassed = e.platePassed := by
    rw [recomputed]
    unfold Entry.recomputed
    dsimp only
    split <;> exact ⟨rfl, rfl, rfl⟩
  obtain ⟨state, count, passed⟩ := written
  unfold Entry.afterResult
  rw [← recomputed]
  by_cases complete : y.becomesComplete slip = true
  · obtain ⟨done, -, eq⟩ := Entry.tested_complete complete
    refine ⟨by simp [Entry.takesResults, done], ?_, ?_⟩
    · rw [eq]
      exact count
    · rw [eq]
      exact passed
  · rw [Entry.tested_incomplete complete]
    refine ⟨?_, count, passed⟩
    unfold Entry.takesResults Entry.isOpen at takes ⊢
    rwa [state]

/-- A slip taken at an entry that takes results (R14). -/
theorem takeResult_slip {s : State} (law : s.tableLaw = true) {n axle : Nat} {e : Entry} (found : s.lane.find n = some e)
    (takes : e.takesResults = true) (low : 1 ≤ axle) (high : axle ≤ e.axleCount) {a : AxleRecord} (here : e.axle? axle = some a) (i : Int) :
    ∃ x, (takeResult n axle (.slip i) s).lane.find n = some x ∧ x.takesResults = true ∧ x.axleCount = e.axleCount ∧
      x.platePassed = e.platePassed ∧ x.axle? axle = some { a with slip := some (max (-200) (min 200 i)) } := by
  have stored := takeResult_find law (LaneView.live_of found takes low high) (.slip i) n
  rw [if_pos rfl] at stored
  obtain ⟨still, count, passed⟩ := Entry.afterResult_slip takes axle i s.slipRequired
  refine ⟨_, stored, still, count, passed, ?_⟩
  rw [Entry.afterResult_axle? here, if_pos rfl]
  rfl

end Sys2Proof.Machine
end

section
/-! The operations that begin and end a crossing (R121 to R123). -/

namespace Sys2Proof.Machine

/-! ### A crossing begins (R121) -/

theorem arrived_items (s : State) :
    s.arrived.plate = { s.plate with fixed := some (s.lane.expected .plate) } ∧ s.arrived.eval = s.eval ∧ s.arrived.capture = s.capture ∧
    s.arrived.lane = s.lane.axleEvent (s.lane.expected .plate).ticket (s.lane.expected .plate).axle .arrived .plate := by
  simp [State.arrived]

theorem arrived_keeps (s : State) : KeepsQueue (queueFrame
    (.axleEvent (s.lane.expected .plate).ticket (s.lane.expected .plate).axle .arrived .plate)
    (s.setPlate { s.plate with fixed := some (s.lane.expected .plate) })) s.arrived := .of_eq rfl

/-- The crossing is measured: the station measures and the plate has no fault hold (R121). -/
def State.measuresCrossing (s : State) : Bool := s.measures && !s.plate.faultHold

theorem arrived_measures (s : State) : (s.arrived.measures && !s.arrived.plate.faultHold) = s.measuresCrossing := by
  obtain ⟨plate, eval, -⟩ := arrived_items s
  rw [State.measures, plate, eval]
  rfl

theorem crossed_eq (s : State) :
    s.crossed = startSeqTimer Config.crossingWindows (if s.measuresCrossing then openMeasurement s.arrived else s.arrived) := by
  rw [State.crossed, arrived_measures]

theorem crossed_within (s : State) : Within plateBlocks s.arrived s.crossed := by
  rw [crossed_eq]
  refine Within.after ((startSeqTimer_within _ _).mono (by simp)) ?_
  split
  · exact openMeasurement_within s.arrived
  · exact Within.refl _ _

theorem openMeasurement_items (s : State) : (openMeasurement s).plate = s.plate ∧ (openMeasurement s).lane = s.lane ∧
    (openMeasurement s).timers = s.timers ∧ (openMeasurement s).archive = s.archive ∧
    (openMeasurement s).bus = s.bus := by simp [openMeasurement]

theorem crossed_items (s : State) : s.crossed.plate = s.arrived.plate ∧ s.crossed.lane = s.arrived.lane ∧
    s.crossed.timers.seqTimer = ⟨true, 160, false⟩ := by
  rw [crossed_eq]
  by_cases measured : s.measuresCrossing = true
  · rw [if_pos measured]
    obtain ⟨plate, lane, -⟩ := openMeasurement_items s.arrived
    exact ⟨plate, lane, rfl⟩
  · rw [if_neg measured]
    exact ⟨rfl, rfl, rfl⟩

theorem crossed_unmeasured {s : State} (off : s.measuresCrossing = false) : s.crossed.capture = s.capture ∧ s.crossed.eval = s.eval := by
  obtain ⟨-, eval, capture, -⟩ := arrived_items s
  rw [crossed_eq, off]
  exact ⟨capture, eval⟩

/-- A measured crossing: the gate open, S0 running on it, the unit's context begun where it was free (R74, R121). -/
theorem crossed_measured {s : State} (on : s.measuresCrossing = true) : s.crossed.capture.gateOpen = true ∧
    s.crossed.capture.s0.config = ⟨[0], .gate, .page, 1024, false⟩ ∧ s.crossed.capture.s0.running = true ∧
    (s.eval.context = .noContext → s.crossed.eval.context = .crossing ∧ s.crossed.eval.wantS0 = some s.crossed.capture.s0.runNumber) := by
  obtain ⟨-, eval, -⟩ := arrived_items s
  obtain ⟨config, running, -⟩ := writeStream_written .s0 crossingConfig s.arrived
  have context := (writeStream_context .s0 crossingConfig s.arrived).context
  have capture : s.crossed.capture = { (writeStream .s0 crossingConfig s.arrived).capture with gateOpen := true } := by
    rw [crossed_eq, on]
    rfl
  have unit' : s.crossed.eval = (writeStream .s0 crossingConfig s.arrived).eval.beginCrossing (writeStream .s0 crossingConfig s.arrived).capture := by
    rw [crossed_eq, on]
    rfl
  rw [capture, unit']
  refine ⟨rfl, config, running, fun free => ?_⟩
  rw [eval] at context
  rw [Eval.beginCrossing, if_pos (context.trans free)]
  exact ⟨rfl, rfl⟩

/-- The plate sequence and what it shares, as a crossing begins. -/
theorem beginCrossing_items (s : State) :
    (beginCrossing s).plate = Plate.begun s.measuresCrossing { s.plate with fixed := some (s.lane.expected .plate) } ∧
    (beginCrossing s).lane = s.lane.axleEvent (s.lane.expected .plate).ticket (s.lane.expected .plate).axle .arrived .plate ∧
    (beginCrossing s).timers.seqTimer = ⟨true, 160, false⟩ ∧ (beginCrossing s).capture = s.crossed.capture ∧
    (beginCrossing s).eval = s.crossed.eval := by
  obtain ⟨plate, -, -, lane⟩ := arrived_items s
  obtain ⟨crossedPlate, crossedLane, timer⟩ := crossed_items s
  rw [plate] at crossedPlate
  rw [lane] at crossedLane
  rw [beginCrossing_eq, arrived_measures]
  split <;> simp [crossedPlate, crossedLane, timer]

theorem beginCrossing_keeps (s : State) : KeepsQueue s.arrived (beginCrossing s) := by
  have begun : KeepsQueue s.arrived (changePlate (Plate.begun s.measuresCrossing) s.crossed) :=
    .after (t := s.crossed) (changePlate_within _ _).keepsQueue (crossed_within s).keepsQueue
  rw [beginCrossing_eq, arrived_measures]
  exact .ite (.after (raise_within _ _ _).keepsQueue begun) begun

theorem beginCrossing_queues (s : State) :
    s.queues (beginCrossing s) (.axleEvent (s.lane.expected .plate).ticket (s.lane.expected .plate).axle .arrived .plate) := by
  have can : (s.setPlate { s.plate with fixed := some (s.lane.expected .plate) }).bus.canQueue = s.bus.canQueue := rfl
  exact queues_of_keeps can rfl (.after (beginCrossing_keeps s) (arrived_keeps s))

/-! ### A crossing ends (R123) -/

/-- The station with the crossing's slip taken and SLIP_RESULT queued (R123). -/
def State.slipped (i : Int) (s : State) : State :=
  queueFrame (.slipResult s.plate.axle.ticket s.plate.axle.axle i) (takeResult s.plate.axle.ticket s.plate.axle.axle (.slip i) s)

/-- The end of a crossing by an axle, its slip taken before (R123). -/
def State.endedBy (a : FixedAxle) (s : State) : State :=
  let t := plateToClear (if s.plate.reportExit then localAxleEvent a .left .plate s else s)
  if t.plate.pendingEntry then beginCrossing (t.setPlate { t.plate with pendingEntry := false }) else t

theorem endCrossing_some_eq (i : Int) (s : State) : endCrossing (some i) s = endCrossing none (s.slipped i) := by
  have plate : (s.slipped i).plate = s.plate := by simp [State.slipped]
  have slip : endCrossing (some i) s = (s.slipped i).endedBy s.plate.axle := rfl
  have plain : endCrossing none (s.slipped i) = (s.slipped i).endedBy (s.slipped i).plate.axle := rfl
  rw [slip, plain, plate]

/-- The exit where it is to be reported (R123). -/
def State.leftReported (s : State) : State := if s.plate.reportExit then localAxleEvent s.plate.axle .left .plate s else s

theorem exited_eq (s : State) : s.exited = plateToClear s.leftReported := rfl

theorem leftReported_items (s : State) : s.leftReported.plate = s.plate ∧ s.leftReported.eval = s.eval ∧ s.leftReported.capture = s.capture ∧
    s.leftReported.lane = if s.plate.reportExit = true then s.lane.axleEvent s.plate.axle.ticket s.plate.axle.axle .left .plate else s.lane := by
  unfold State.leftReported
  split <;> simp

theorem exited_items (s : State) :
    s.exited.plate = { s.plate with fixed := none, measure := .unmeasured, reportExit := false, crossing := .clear } ∧
    s.exited.eval = s.eval ∧ s.exited.capture = s.capture ∧ s.exited.timers.seqTimer = ⟨false, 0, false⟩ ∧
    s.exited.lane = if s.plate.reportExit = true then s.lane.axleEvent s.plate.axle.ticket s.plate.axle.axle .left .plate else s.lane := by
  obtain ⟨plate, eval, capture, lane⟩ := leftReported_items s
  obtain ⟨⟨-, -, -, clearLane, -⟩, clearCapture, clearEval, -, timers, clear⟩ := plateToClear_frame s.leftReported
  rw [plate] at clear
  exact ⟨clear, clearEval.trans eval, clearCapture.trans capture, congrArg Timers.seqTimer timers, clearLane.trans lane⟩

theorem plateToClear_keeps (s : State) : KeepsQueue s (plateToClear s) := by
  have changed := changePlate_within (fun p : Plate => { p with fixed := none, measure := .unmeasured, reportExit := false, crossing := .clear })
    (cancelSeqTimer s)
  exact .after (lower_within _ _).keepsQueue (.after (t := cancelSeqTimer s) changed.keepsQueue (.of_eq rfl))

theorem localAxleEvent_keeps (a : FixedAxle) (ev : AxleEventKind) (role : MeasuringRole) (s : State) :
    KeepsQueue (queueFrame (.axleEvent a.ticket a.axle ev role) s) (localAxleEvent a ev role s) := .of_eq rfl

/-- The station whose next crossing begins at once, the entry no longer pending (R123). -/
def State.followed (s : State) : State := beginCrossing (s.exited.setPlate { s.exited.plate with pendingEntry := false })

theorem endCrossing_cases (s : State) :
    (s.plate.pendingEntry = false → endCrossing none s = s.exited) ∧ (s.plate.pendingEntry = true → endCrossing none s = s.followed) := by
  have pending : s.exited.plate.pendingEntry = s.plate.pendingEntry := by rw [(exited_items s).1]
  rw [endCrossing_none_eq, pending]
  exact ⟨fun no => if_neg (by simp [no]), fun yes => if_pos yes⟩

theorem endCrossing_keeps (s : State) : KeepsQueue s.leftReported (endCrossing none s) := by
  have exited : KeepsQueue s.leftReported s.exited := plateToClear_keeps _
  have arrived : KeepsQueue s.exited (s.exited.setPlate { s.exited.plate with pendingEntry := false }).arrived :=
    .after (arrived_keeps _) (.after (queueFrame_within _ _).keepsQueue (.of_eq rfl))
  have followed : KeepsQueue s.leftReported s.followed := .after (beginCrossing_keeps _) (.after arrived exited)
  obtain ⟨no, yes⟩ := endCrossing_cases s
  cases pending : s.plate.pendingEntry with
  | false => rw [no pending]; exact exited
  | true => rw [yes pending]; exact followed

end Sys2Proof.Machine
end

section
/-! ### The slip formed once the crossing is drained (R14, R95, R123) -/

namespace Sys2Proof.Machine

/-! #### The pages of a crossing -/

/-- The peak over the rows of a page (R95). -/
def Calibration.peakOver (k : Calibration) (peak : Option Int) (rows : List Row) : Option Int :=
  rows.foldl (fun a r => peakWith a (k.moved r)) peak

theorem takePeak_eq (k : Calibration) : ∀ (rows : List Row) (peak : Option Int), takePeak k peak rows = k.peakOver peak rows
  | [], _ => rfl
  | r :: rs, peak => by
    have rest := takePeak_eq k rs (peakWith peak (k.moved r))
    cases peak with
    | none => exact rest
    | some y => exact rest

/-- A wanted page of a crossing moves its peak alone (R95). -/
theorem Eval.paged_crossing {e : Eval} {k : Calibration} (calib : e.calib = some k) {p : Page} (wanted : e.wants p.stream p.run = true)
    (context : e.context = .crossing ∨ e.context = .crossingDrain) :
    e.paged p = ({ e with peak := k.peakOver e.peak p.rows }, none) := by
  rw [Eval.paged_wanted calib wanted, Eval.takePage]
  rcases context with context | context <;>
    simp [context, (Eval.wants_s0 (by simp [context]) wanted).1, takePeak_eq]

/-- A drained crossing gives its slip, or that there is none (R95). -/
theorem drain_crossing {c : Capture} {e : Eval} (context : e.context = .crossingDrain) (done : drained c e = true) :
    drain c e = ({ e with context := .noContext, wantS0 := none },
      some ((e.peak.map fun x => EvalReport.slipFormed (slipOfPeak x)).getD .noRows)) := by
  unfold drain
  rw [context]
  refine (if_pos done).trans ?_
  cases e.peak <;> rfl

/-- The report of a drained crossing on a PLATE station (R123). -/
theorem finishEvaluation_plate {s : State} (active : s.plateActive = true) {p : Page} (slot : s.eval.slot = some p)
    (silent : (s.eval.paged p).2 = none) {e : Eval} {r : EvalReport}
    (drains : drain (released s.capture s.eval p).1 (released s.capture s.eval p).2 = (e, some r)) :
    finishEvaluation s = plateReport r ((s.pageReleased p).setEval e) := by
  have here : ((s.pageReleased p).setEval e).plateActive = true := by
    rw [← active]
    exact State.plateActive_congr (by simp) (by simp)
  rw [finishEvaluation_drains slot silent drains, onRoller_of_plate here]
  exact if_pos here

/-- The plate's part in a drained crossing: its end, with the slip where there is one (R123). -/
theorem plateReport_drained {s : State} (crossing : s.plate.crossing = .onPlate) (measure : s.plate.measure = .draining) (peak : Option Int) :
    plateReport ((peak.map fun x => EvalReport.slipFormed (slipOfPeak x)).getD .noRows) s = endCrossing (peak.map slipOfPeak) s := by
  unfold plateReport
  refine (if_pos (by simp [crossing, measure])).trans ?_
  cases peak <;> rfl

/-! #### The end of a crossing, its slip taken -/

/-- The station with the slip of its crossing taken, where there is one. -/
def State.slippedBy (slip : Option Int) (s : State) : State :=
  match slip with
  | some i => s.slipped i
  | none => s

theorem endCrossing_slippedBy (slip : Option Int) (s : State) : endCrossing slip s = endCrossing none (s.slippedBy slip) := by
  cases slip with
  | none => rfl
  | some i => exact endCrossing_some_eq i s

theorem slipped_items (i : Int) (s : State) : (s.slipped i).plate = s.plate ∧ (s.slipped i).eval = s.eval ∧
    (s.slipped i).bus.canQueue = s.bus.canQueue ∧
    (s.slipped i).lane = (takeResult s.plate.axle.ticket s.plate.axle.axle (.slip i) s).lane := by simp [State.slipped]

theorem slippedBy_items (slip : Option Int) (s : State) : (s.slippedBy slip).plate = s.plate ∧ (s.slippedBy slip).eval = s.eval ∧
    (s.slippedBy slip).bus.canQueue = s.bus.canQueue := by
  cases slip with
  | none => exact ⟨rfl, rfl, rfl⟩
  | some i =>
    obtain ⟨plate, eval, can, -⟩ := slipped_items i s
    exact ⟨plate, eval, can⟩

/-- The entry of the crossing's ticket with the slip taken (R14). -/
theorem slippedBy_entry {s : State} (law : s.tableLaw = true) (slip : Option Int) {e : Entry} (found : s.lane.find s.plate.axle.ticket = some e)
    (takes : e.takesResults = true) (low : 1 ≤ s.plate.axle.axle) (high : s.plate.axle.axle ≤ e.axleCount) {a : AxleRecord}
    (here : e.axle? s.plate.axle.axle = some a) :
    ∃ x, (s.slippedBy slip).lane.find s.plate.axle.ticket = some x ∧ x.takesResults = true ∧ x.axleCount = e.axleCount ∧
      x.platePassed = e.platePassed ∧ ∃ b, x.axle? s.plate.axle.axle = some b ∧ (slip = none → b = a) ∧
        ∀ i, slip = some i → b = { a with slip := some (max (-200) (min 200 i)) } := by
  cases slip with
  | none => exact ⟨e, found, takes, rfl, rfl, a, here, fun _ => rfl, fun i some => absurd some (by simp)⟩
  | some i =>
    obtain ⟨x, stored, still, count, passed, written⟩ := takeResult_slip law found takes low high here i
    refine ⟨x, ?_, still, count, passed, _, written, fun none => absurd none (by simp), fun j same => ?_⟩
    · exact (congrArg (·.find s.plate.axle.ticket) (slipped_items i s).2.2.2).trans stored
    · cases same
      rfl

/-- The same entry once the exit is reported and, with an entry pending, the next axle has arrived (R9). -/
theorem endCrossing_entry {s : State} {x : Entry} (found : s.lane.find s.plate.axle.ticket = some x) (takes : x.takesResults = true)
    (low : 1 ≤ s.plate.axle.axle) (high : s.plate.axle.axle ≤ x.axleCount) :
    ∃ y, (endCrossing none s).lane.find s.plate.axle.ticket = some y ∧ y.axles = x.axles ∧
      y.platePassed = if s.plate.reportExit = true then max x.platePassed s.plate.axle.axle else x.platePassed := by
  obtain ⟨-, -, -, -, lane⟩ := exited_items s
  have exited : ∃ y, s.exited.lane.find s.plate.axle.ticket = some y ∧ y.axles = x.axles ∧
      y.platePassed = if s.plate.reportExit = true then max x.platePassed s.plate.axle.axle else x.platePassed := by
    rw [lane]
    by_cases report : s.plate.reportExit = true
    · rw [if_pos report, if_pos report]
      exact axleEvent_find_left found takes low high
    · rw [if_neg report, if_neg report]
      exact ⟨x, found, rfl, rfl⟩
  obtain ⟨no, yes⟩ := endCrossing_cases s
  cases pending : s.plate.pendingEntry with
  | false => rw [no pending]; exact exited
  | true =>
    obtain ⟨y, there, axles, passed⟩ := exited
    obtain ⟨-, arrived, -⟩ := beginCrossing_items (s.exited.setPlate { s.exited.plate with pendingEntry := false })
    obtain ⟨z, stands, sameAxles, -, samePassed⟩ := axleEvent_find there (s.exited.lane.expected .plate).ticket
      (s.exited.lane.expected .plate).axle .arrived .plate
    rw [yes pending, State.followed, arrived]
    exact ⟨z, stands, sameAxles.trans axles, (samePassed rfl).trans passed⟩

/-- The sequence after the end of a crossing (R123). -/
theorem endCrossing_sequence (s : State) :
    (s.plate.pendingEntry = false → (endCrossing none s).eval = s.eval ∧ (endCrossing none s).timers.seqTimer = ⟨false, 0, false⟩ ∧
      (endCrossing none s).plate = ⟨.clear, none, .unmeasured, false, false, s.plate.faultHold⟩) ∧
    (s.plate.pendingEntry = true → (endCrossing none s).plate.crossing = .onPlate ∧ (endCrossing none s).plate.pendingEntry = false ∧
      (endCrossing none s).plate.reportExit = true ∧
      (endCrossing none s).plate.fixed = some ((endCrossing none s).lane.expected .plate) ∧
      (endCrossing none s).timers.seqTimer = ⟨true, 160, false⟩ ∧
      s.queues (endCrossing none s) (.axleEvent ((endCrossing none s).lane.expected .plate).ticket
        ((endCrossing none s).lane.expected .plate).axle .arrived .plate)) := by
  obtain ⟨no, yes⟩ := endCrossing_cases s
  obtain ⟨plate, eval, -, timer, -⟩ := exited_items s
  refine ⟨fun last => ?_, fun next => ?_⟩
  · rw [no last, plate]
    refine ⟨eval, timer, ?_⟩
    dsimp only
    rw [last]
  · obtain ⟨begun, lane, started, -⟩ := beginCrossing_items (s.exited.setPlate { s.exited.plate with pendingEntry := false })
    have queued := beginCrossing_queues (s.exited.setPlate { s.exited.plate with pendingEntry := false })
    have expected : (s.followed.lane.expected .plate) = s.exited.lane.expected .plate := by
      rw [State.followed, lane]
      exact LaneView.expected_arrived _ _ _ _ _
    have can : s.exited.bus.canQueue = s.bus.canQueue := by
      rw [exited_eq]
      unfold State.leftReported
      split <;> simp
    rw [yes next, expected]
    unfold State.followed
    rw [begun]
    refine ⟨rfl, rfl, rfl, rfl, started, fun open' => ?_⟩
    exact queued (can.trans open')

/-! #### The frames of the end -/

theorem endCrossing_left {s : State} (report : s.plate.reportExit = true) :
    s.queues (endCrossing none s) (.axleEvent s.plate.axle.ticket s.plate.axle.axle .left .plate) := by
  have left : s.leftReported = localAxleEvent s.plate.axle .left .plate s := if_pos report
  have keeps := endCrossing_keeps s
  rw [left] at keeps
  exact queues_of_keeps rfl rfl (keeps.after (localAxleEvent_keeps _ _ _ s))

theorem leftReported_keeps (s : State) : KeepsQueue s s.leftReported :=
  .ite (.after (localAxleEvent_keeps _ _ _ s) (queueFrame_within _ s).keepsQueue) (.refl s)

theorem endCrossing_slip (i : Int) (s : State) :
    s.queues (endCrossing none (s.slipped i)) (.slipResult s.plate.axle.ticket s.plate.axle.axle i) := by
  have can : (takeResult s.plate.axle.ticket s.plate.axle.axle (.slip i) s).bus.canQueue = s.bus.canQueue := by simp
  exact queues_of_keeps can rfl (.after (endCrossing_keeps _) (leftReported_keeps (s.slipped i)))

/-- SLIP_RESULT is queued before the LEFT (R123). -/
theorem endCrossing_order (i : Int) {s : State} (report : s.plate.reportExit = true) (open' : s.bus.canQueue = true)
    (room : (endCrossing none (s.slipped i)).bus.queue.length < 8) :
    ∃ q ∈ (endCrossing none (s.slipped i)).bus.queue, ∃ r ∈ (endCrossing none (s.slipped i)).bus.queue,
      q.frame = .slipResult s.plate.axle.ticket s.plate.axle.axle i ∧
      r.frame = .axleEvent s.plate.axle.ticket s.plate.axle.axle .left .plate ∧ q.stamp < r.stamp := by
  obtain ⟨b, taken⟩ : ∃ b, b = (takeResult s.plate.axle.ticket s.plate.axle.axle (.slip i) s).bus := ⟨_, rfl⟩
  have openB : b.canQueue = true := by rw [taken, ← open']; simp
  obtain ⟨plate, -, can, -⟩ := slipped_items i s
  have bus : (s.slipped i).bus = b.enqueue (.slipResult s.plate.axle.ticket s.plate.axle.axle i) := by rw [taken]; rfl
  have keeps := endCrossing_keeps (s.slipped i)
  have all := keeps.after (leftReported_keeps (s.slipped i))
  have roomSlip := all.grows.trans_lt room
  have slipIn := Bus.mem_enqueue openB (.slipResult s.plate.axle.ticket s.plate.axle.axle i) (by rw [← bus]; exact roomSlip)
  have stamp : (s.slipped i).bus.nextStamp = b.nextStamp + 1 := by
    have free := Nat.lt_of_le_of_lt (b.enqueue_queued (.slipResult s.plate.axle.ticket s.plate.axle.axle i)).grows (by rw [← bus]; exact roomSlip)
    rw [bus, Bus.enqueue_room openB free]
    rfl
  have left : (s.slipped i).leftReported.bus =
      (s.slipped i).bus.enqueue (.axleEvent s.plate.axle.ticket s.plate.axle.axle .left .plate) := by
    have unfolded : (s.slipped i).leftReported = localAxleEvent (s.slipped i).plate.axle .left .plate (s.slipped i) :=
      if_pos (by rw [plate]; exact report)
    rw [unfolded, plate]
    rfl
  have leftIn := Bus.mem_enqueue (can.trans open') (.axleEvent s.plate.axle.ticket s.plate.axle.axle .left .plate)
    (by rw [← left]; exact keeps.grows.trans_lt room)
  refine ⟨_, all.keeps room _ (bus ▸ slipIn) rfl, _, keeps.keeps room _ (left ▸ leftIn) rfl, rfl, rfl, ?_⟩
  dsimp only
  omega

/-- Any frame but SLIP_RESULT. -/
def LaneFrame.slipless : LaneFrame → Bool
  | .slipResult _ _ _ => false
  | _ => true

theorem LaneFrame.slipless_of_routine (f : LaneFrame) (h : f.routine = true) : f.slipless = true := by
  cases f <;> simp_all [LaneFrame.routine, LaneFrame.slipless]

theorem State.AddsRoutine.slipless {s t : State} (h : s.AddsRoutine t) : s.Adds LaneFrame.slipless t := h.mono LaneFrame.slipless_of_routine

theorem beginCrossing_slipless (s : State) : s.Adds LaneFrame.slipless (beginCrossing s) := by
  have arrived : s.Adds LaneFrame.slipless s.arrived :=
    .after (t := queueFrame (.axleEvent (s.lane.expected .plate).ticket (s.lane.expected .plate).axle .arrived .plate)
      (s.setPlate { s.plate with fixed := some (s.lane.expected .plate) })) (.of_eq rfl) (.after (queueFrame_adds rfl _) (.of_eq rfl))
  have bus : s.crossed.bus = s.arrived.bus := by
    rw [crossed_eq]
    split
    · exact (openMeasurement_items s.arrived).2.2.2.2
    · rfl
  have begun : s.Adds LaneFrame.slipless (changePlate (Plate.begun s.measuresCrossing) s.crossed) :=
    .after (t := s.crossed) (State.AddsRoutine.slipless (changePlate_adds _ _)) (.after (t := s.arrived) (.of_eq (congrArg Bus.queue bus)) arrived)
  rw [beginCrossing_eq, arrived_measures]
  exact .ite (.after (State.AddsRoutine.slipless (raise_adds _ _ _)) begun) begun

theorem endCrossing_slipless (s : State) : s.Adds LaneFrame.slipless (endCrossing none s) := by
  have left : s.Adds LaneFrame.slipless s.leftReported := .ite (.after (t := queueFrame _ s) (.of_eq rfl) (queueFrame_adds rfl s)) (.refl s)
  have exited : s.Adds LaneFrame.slipless s.exited := .after (State.AddsRoutine.slipless (plateToClear_adds _)) left
  obtain ⟨no, yes⟩ := endCrossing_cases s
  cases pending : s.plate.pendingEntry with
  | false => rw [no pending]; exact exited
  | true =>
    rw [yes pending]
    exact .after (beginCrossing_slipless _) (.after (t := s.exited) (.of_eq rfl) exited)

end Sys2Proof.Machine
end

section
/-! ### The pages of a crossing (R14, R95, R123) -/

namespace Sys2Proof.Machine

/-- A page in CROSSING_DRAIN moves the peak alone. -/
theorem Eval.paged_crossingDrain {e : Eval} {k : Calibration} (calib : e.calib = some k) (context : e.context = .crossingDrain) {p : Page}
    {peak : Option Int} (moved : peak = if e.wants p.stream p.run = true then k.peakOver e.peak p.rows else e.peak) :
    e.paged p = ({ e with peak := peak }, none) := by
  by_cases wanted : e.wants p.stream p.run = true
  · rw [moved, if_pos wanted]
    exact Eval.paged_crossing calib wanted (Or.inr context)
  · rw [moved, if_neg wanted]
    exact Eval.paged_unwanted (Bool.eq_false_iff.mpr wanted)

/-- The station whose unit has given up a drained crossing (R95). -/
theorem finishEvaluation_crossed {s : State} (active : s.plateActive = true) {p : Page} (slot : s.eval.slot = some p) {k : Calibration}
    (calib : s.eval.calib = some k) (context : s.eval.context = .crossingDrain) (crossing : s.plate.crossing = .onPlate)
    (measure : s.plate.measure = .draining) {run : Nat} (recorded : s.eval.wantS0 = some run) (last : s.lastPageInSlot p run)
    {peak : Option Int} (moved : peak = if s.eval.wants p.stream p.run = true then k.peakOver s.eval.peak p.rows else s.eval.peak) :
    ∃ r : State, finishEvaluation s = endCrossing none (r.slippedBy (peak.map slipOfPeak)) ∧ r.eval.context = .noContext ∧
      r.plate = s.plate ∧ r.lane = s.lane ∧ r.bus = s.bus := by
  have paged := Eval.paged_crossingDrain calib context moved
  have silent : (s.eval.paged p).2 = none := by rw [paged]
  have drains : (s.eval.paged p).1.Drains run := by rw [paged]; exact ⟨Or.inr context, recorded⟩
  have same := (released_same s.capture s.eval p).2
  rw [paged] at same
  have draining : (released s.capture s.eval p).2.context = .crossingDrain := by rw [same]; exact context
  have held : (released s.capture s.eval p).2.peak = peak := by rw [same]
  have given := drain_crossing draining ((State.lastPageInSlot_iff drains).mp last)
  rw [held] at given
  have plate (e : Eval) : ((s.pageReleased p).setEval e).plate = s.plate := by simp
  rw [finishEvaluation_plate active slot silent given, plateReport_drained (by rw [plate, crossing]) (by rw [plate, measure]),
    endCrossing_slippedBy]
  exact ⟨_, rfl, rfl, plate _, by simp, by simp⟩

/-- Settles O42: the peak of the pages, then the end of the drained crossing. -/
theorem slipIsFormedWhenTheCrossingIsDrained : Obligations.SlipIsFormedWhenTheCrossingIsDrained := by
  intro s quiet p slot k calib
  refine ⟨fun context wanted => ⟨_, exec_evaluationComplete quiet, ?_⟩,
    fun context active crossing measure law run recorded last peak moved => ⟨_, exec_evaluationComplete quiet, ?_⟩⟩
  · have paged := Eval.paged_crossing calib wanted (Or.inl context)
    have after := pageReleased_eval s p
    rw [paged] at after
    rw [finishEvaluation_silent slot (by rw [paged]) (by rw [paged]; simp [context]) (by rw [paged]; simp [context])]
    exact ⟨pageReleased_changes s p, after⟩
  · obtain ⟨r, ends, free, plate, lane, bus⟩ := finishEvaluation_crossed active slot calib context crossing measure recorded last moved
    obtain ⟨samePlate, sameEval, can⟩ := slippedBy_items (peak.map slipOfPeak) r
    rw [plate] at samePlate
    rw [bus] at can
    obtain ⟨alone, next⟩ := endCrossing_sequence (r.slippedBy (peak.map slipOfPeak))
    rw [samePlate] at alone next
    have lawR : r.tableLaw = true := by rwa [State.tableLaw, lane]
    rw [ends]
    refine ⟨fun no => ?_, fun pending => ?_, fun report => ?_, fun e found state low high a here => ?_, fun v some => ?_, fun none => ?_⟩
    · obtain ⟨eval, timer, clear⟩ := alone no
      exact ⟨by rw [eval, sameEval, free], timer, clear⟩
    · obtain ⟨on, handled, report, fixed, timer, queued⟩ := next pending
      exact ⟨on, handled, report, fixed, timer, fun open' => queued (can.trans open')⟩
    · have left := endCrossing_left (s := r.slippedBy (peak.map slipOfPeak)) (by rw [samePlate, report])
      rw [samePlate] at left
      exact fun open' => left (can.trans open')
    · have takes : e.takesResults = true := Entry.takesResults_iff.mpr (by rcases state with h | h | h <;> simp [h])
      rw [← plate] at found low high here
      rw [← lane] at found
      obtain ⟨x, stored, still, count, passed, b, written, unslipped, slipped⟩ :=
        slippedBy_entry lawR (peak.map slipOfPeak) found takes low high here
      have axle : (r.slippedBy (peak.map slipOfPeak)).plate.axle = r.plate.axle := by rw [samePlate, plate]
      rw [← axle] at stored low high written
      obtain ⟨y, stands, axles, left⟩ := endCrossing_entry stored still low (by rw [count, axle]; rwa [axle] at high)
      rw [axle, samePlate, plate] at left
      rw [axle, plate] at stands written
      rw [passed] at left
      refine ⟨y, stands, b, (Entry.axle?_congr axles _).trans written, fun none => unslipped (by rw [none]; rfl), fun v some => ?_, left⟩
      exact slipped _ (by rw [some]; rfl)
    · have slipped : r.slippedBy (peak.map slipOfPeak) = r.slipped (v.tdiv 10) := by rw [some]; rfl
      rw [slipped]
      have queued := endCrossing_slip (v.tdiv 10) r
      rw [plate] at queued
      refine ⟨fun open' => queued (by rw [bus]; exact open'), fun report open' room => ?_⟩
      have order := endCrossing_order (v.tdiv 10) (by rw [plate]; exact report) (by rw [bus]; exact open') room
      rwa [plate] at order
    · have unslipped : r.slippedBy (peak.map slipOfPeak) = r := by rw [none]; rfl
      rw [unslipped]
      intro q mem n x v frame
      have old := (endCrossing_slipless r q mem).resolve_right (by rw [frame]; simp [LaneFrame.slipless])
      rwa [bus] at old

end Sys2Proof.Machine
end

section
/-! The plate's two switches (R121, R122, R124, R125). -/

namespace Sys2Proof.Machine

/-! ### The state in which a line's event is taken -/

/-- All that the event of a line finds as the tick found it: everything but the clock and the filter. -/
structure Sampled (s r : State) : Prop where
  power : r.power = s.power
  startUp : r.startUp = s.startUp
  lane : r.lane = s.lane
  bus : r.bus = s.bus
  timers : r.timers = s.timers
  counters : r.counters = s.counters
  capture : r.capture = s.capture
  eval : r.eval = s.eval
  roller : r.roller = s.roller
  plate : r.plate = s.plate
  guidance : r.guidance = s.guidance
  cert : r.cert = s.cert
  archive : r.archive = s.archive
  rest : s.onlyChanges [.clock, .filter] r

/-- The tick of the one line that changes: its event, with the filter's levels before and after it. -/
theorem exec_onlyLine {s : State} (quiet : s.quiet = true) {x : Samples} {l : Line} (only : s.onlyLine x l) (first : List Line) :
    ∃ (r : State) (g : Filter), Sampled s r ∧ r.filter.accepted = setLine s.filter.accepted l (lineLevel x l) ∧
      exec (.tick32Hz x first) s = .next ((lineEvent l (lineLevel x l) r).setFilter g) := by
  obtain ⟨f, g, accepted, fold⟩ := tick32_onlyLine quiet only first
  refine ⟨(s.setClock s.clock.tick32).setFilter f, g, ⟨rfl, rfl, rfl, rfl, rfl, rfl, rfl, rfl, rfl, rfl, rfl, rfl, rfl, ?_⟩, accepted, fold⟩
  exact State.onlyChanges_after (State.onlyChanges_mono (setFilter_changes _ _) (by simp))
    (State.onlyChanges_mono (Within.setClock s _).1 (by simp))

theorem Sampled.plateActive {s r : State} (h : Sampled s r) : r.plateActive = s.plateActive := State.plateActive_congr h.power h.startUp

theorem Sampled.rollerActive {s r : State} (h : Sampled s r) : r.rollerActive = s.rollerActive := State.rollerActive_congr h.power h.startUp

/-- A frame queued, as the tick finds the queue. -/
theorem Sampled.queues {s r t : State} (h : Sampled s r) {f : LaneFrame} (queued : r.queues t f) (g : Filter) : s.queues (t.setFilter g) f :=
  fun open' room => queued (by rw [h.bus]; exact open') room

theorem Sampled.reportsNoAxle {s r t : State} (h : Sampled s r) (silent : r.AddsRoutine t) (g : Filter) : s.reportsNoAxle (t.setFilter g) := by
  have none := State.Adds.reportsNoAxle silent
  unfold State.reportsNoAxle at none ⊢
  rw [h.bus] at none
  exact none

theorem Sampled.changes {s r t : State} {bs : List Block} (h : Sampled s r) (k : r.onlyChanges bs t) (g : Filter) :
    s.onlyChanges (.clock :: .filter :: bs) (t.setFilter g) :=
  State.onlyChanges_after (State.onlyChanges_mono (setFilter_changes t g) (by simp))
    (State.onlyChanges_after (State.onlyChanges_mono k (by intro b m; simp [m])) (State.onlyChanges_mono h.rest (by simp)))

/-! ### The switches by the crossing record -/

/-- The entry switch by its cases (R121, R124, R125). -/
theorem plateEntry_cases (s : State) :
    (s.plate.crossing = .clear → plateEntry s = beginCrossing s) ∧ (s.plate.crossing = .reversing → plateEntry s = plateToClear s) ∧
    (s.plate.crossing = .onPlate → s.plate.measure = .measuring → plateEntry s = plateToClear (dropMeasurement s)) ∧
    (s.plate.crossing = .onPlate → s.plate.measure = .unmeasured → plateEntry s = plateToClear s) ∧
    (s.plate.crossing = .onPlate → s.plate.measure = .draining → plateEntry s = s.setPlate { s.plate with pendingEntry := true }) := by
  unfold plateEntry
  exact ⟨fun c => by rw [c], fun c => by rw [c], fun c m => by rw [c, m], fun c m => by rw [c, m], fun c m => by simp only [c, m]⟩

/-- The exit switch by its cases (R122, R124, R125). -/
theorem plateExit_cases (s : State) :
    (s.plate.crossing = .clear → plateExit s = changePlate (fun p => { p with crossing := .reversing }) s) ∧
    (s.plate.crossing = .reversing → plateExit s = plateToClear s) ∧
    (s.plate.crossing = .onPlate → s.plate.measure = .measuring → plateExit s = drainCrossing s) ∧
    (s.plate.crossing = .onPlate → s.plate.measure = .unmeasured → plateExit s = endCrossing none (cancelSeqTimer s)) ∧
    (s.plate.crossing = .onPlate → s.plate.measure = .draining → plateExit s = s) := by
  unfold plateExit
  exact ⟨fun c => by rw [c], fun c => by rw [c], fun c m => by rw [c, m], fun c m => by rw [c, m], fun c m => by rw [c, m]⟩

/-- A reversal asks for no PRESENCE: the plate's activity is what it was (R33, R120). -/
theorem changePlate_reversing {s : State} (clear : s.plate.crossing = .clear) :
    changePlate (fun p => { p with crossing := .reversing }) s = s.setPlate { s.plate with crossing := .reversing } := by
  have activity : ({ s.plate with crossing := .reversing } : Plate).activity = s.plate.activity := by simp [Plate.activity, clear]
  have key : s.presenceKey = (s.setPlate { s.plate with crossing := .reversing }).presenceKey := by
    unfold State.presenceKey State.activity
    refine Prod.ext rfl (Prod.ext ?_ rfl)
    dsimp only
    cases role : s.startUp.role <;> simp [role, activity]
  exact if_pos key

/-! ### The exit of a measured crossing (R122) -/

/-- The station whose crossing drains: the gate closed, S0 OFF (R122). -/
def State.drainBegun (s : State) : State :=
  (cancelSeqTimer (closePlateStream s)).setPlate { (cancelSeqTimer (closePlateStream s)).plate with measure := .draining }

theorem drainCrossing_cases (s : State) : ∃ e : Eval, drainCrossing s = s.drainBegun.setEval e ∨
    ∃ r : EvalReport, drainCrossing s = plateReport r (s.drainBegun.setEval e) := by
  unfold drainCrossing evalEndCrossing
  dsimp only
  split
  · exact ⟨_, Or.inr ⟨_, rfl⟩⟩
  · exact ⟨_, Or.inl rfl⟩

theorem drainBegun_items (s : State) : s.drainBegun.plate = { s.plate with measure := .draining } ∧
    s.drainBegun.capture.gateOpen = false ∧ s.drainBegun.capture.s0.running = false := by
  obtain ⟨gate, running, -⟩ := closePlateStream_chain s
  have plate : (cancelSeqTimer (closePlateStream s)).plate = s.plate := by simp
  have capture : (cancelSeqTimer (closePlateStream s)).capture = (closePlateStream s).capture := by simp
  refine ⟨?_, ?_, ?_⟩
  · unfold State.drainBegun
    rw [plate]
    rfl
  · exact (congrArg Capture.gateOpen capture).trans gate
  · exact (congrArg (·.s0.running) capture).trans running

theorem endCrossing_last {s : State} (last : s.plate.pendingEntry = false) (slip : Option Int) :
    (endCrossing slip s).plate.crossing = .clear ∧ (endCrossing slip s).capture = s.capture := by
  obtain ⟨plate, -, -⟩ := slippedBy_items slip s
  have capture : (s.slippedBy slip).capture = s.capture := by
    cases slip with
    | none => rfl
    | some i => simp [State.slippedBy, State.slipped]
  obtain ⟨record, -, kept, -⟩ := exited_items (s.slippedBy slip)
  rw [endCrossing_slippedBy, (endCrossing_cases _).1 (by rw [plate]; exact last), record, kept]
  exact ⟨rfl, capture⟩

/-- The gate closes and S0 is OFF, and the crossing drains where it does not end at once (R122, R123). -/
theorem drainCrossing_outcome {s : State} (last : s.plate.pendingEntry = false) :
    (drainCrossing s).capture.gateOpen = false ∧ (drainCrossing s).capture.s0.running = false ∧
    ((drainCrossing s).plate.crossing = .onPlate → (drainCrossing s).plate.measure = .draining) := by
  obtain ⟨plate, gate, running⟩ := drainBegun_items s
  obtain ⟨e, waits | ⟨r, reports⟩⟩ := drainCrossing_cases s
  · rw [waits]
    exact ⟨gate, running, fun _ => congrArg Plate.measure plate⟩
  · have pending : (s.drainBegun.setEval e).plate.pendingEntry = false := by
      change s.drainBegun.plate.pendingEntry = false
      rw [plate]
      exact last
    have still : (s.drainBegun.setEval e).plate.measure = .draining := congrArg Plate.measure plate
    have ends (slip : Option Int) : (endCrossing slip (s.drainBegun.setEval e)).capture.gateOpen = false ∧
        (endCrossing slip (s.drainBegun.setEval e)).capture.s0.running = false ∧
        ((endCrossing slip (s.drainBegun.setEval e)).plate.crossing = .onPlate →
          (endCrossing slip (s.drainBegun.setEval e)).plate.measure = .draining) := by
      obtain ⟨clear, capture⟩ := endCrossing_last pending slip
      rw [capture]
      exact ⟨gate, running, fun on => absurd (on.symm.trans clear) (by simp)⟩
    rw [reports]
    unfold plateReport
    split
    · split
      · exact ends _
      · exact ends none
      · exact ⟨gate, running, fun _ => still⟩
    · exact ⟨gate, running, fun _ => still⟩

end Sys2Proof.Machine
end

section
/-! ### Crossings begin and end (R121, R122, R124 to R126, R128) -/

namespace Sys2Proof.Machine

/-- The plate sequence cleared (R123 to R126). -/
def Plate.cleared (p : Plate) : Plate := ⟨.clear, none, .unmeasured, false, p.pendingEntry, p.faultHold⟩

theorem plateToClear_plate (s : State) : (plateToClear s).plate = s.plate.cleared := (plateToClear_frame s).2.2.2.2.2

theorem plateToClear_rest (s : State) : (plateToClear s).lane = s.lane ∧ (plateToClear s).capture = s.capture ∧
    (plateToClear s).eval = s.eval ∧ (plateToClear s).timers.seqTimer = ⟨false, 0, false⟩ := by
  simp

theorem dropMeasurement_plate (s : State) : (dropMeasurement s).plate = s.plate ∧ (dropMeasurement s).lane = s.lane := by simp

/-- A measured crossing given up (R125, R126). -/
theorem plateToClear_drops (s : State) : s.givesUpMeasuring (plateToClear (dropMeasurement s)) ∧
    (plateToClear (dropMeasurement s)).lane = s.lane ∧ s.AddsRoutine (plateToClear (dropMeasurement s)) ∧
    (plateToClear (dropMeasurement s)).plate = s.plate.cleared ∧
    (plateToClear (dropMeasurement s)).timers.seqTimer = ⟨false, 0, false⟩ := by
  obtain ⟨plate, lane⟩ := dropMeasurement_plate s
  obtain ⟨clearLane, capture, eval, timer⟩ := plateToClear_rest (dropMeasurement s)
  refine ⟨dropMeasurement_givesUp rfl capture eval, clearLane.trans lane, .after (plateToClear_adds _) (dropMeasurement_adds s), ?_, timer⟩
  rw [plateToClear_plate, plate]

theorem Sampled.givesUp {s r t : State} (h : Sampled s r) (drops : r.givesUpMeasuring t) (g : Filter) : s.givesUpMeasuring (t.setFilter g) := by
  obtain ⟨gate, running, off, context⟩ := drops
  rw [h.eval] at context
  exact ⟨gate, running, off, context⟩

/-- A crossing begun, with its measurement where the plate measures (R121). -/
theorem beginCrossing_measures (s : State) :
    (s.measures = false ∨ s.plate.faultHold = true → (beginCrossing s).plate.measure = .unmeasured ∧ (beginCrossing s).capture = s.capture) ∧
    (s.measures = true → s.plate.faultHold = false → (beginCrossing s).plate.measure = .measuring ∧
      (beginCrossing s).capture.gateOpen = true ∧ (beginCrossing s).capture.s0.config = ⟨[0], .gate, .page, 1024, false⟩ ∧
      (beginCrossing s).capture.s0.running = true ∧ (s.eval.context = .noContext → (beginCrossing s).eval.context = .crossing ∧
        (beginCrossing s).eval.wantS0 = some (beginCrossing s).capture.s0.runNumber)) := by
  obtain ⟨plate, -, -, capture, eval⟩ := beginCrossing_items s
  rw [plate, capture, eval]
  refine ⟨fun unmeasured => ?_, fun measured free => ?_⟩
  · have off : s.measuresCrossing = false := by
      unfold State.measuresCrossing
      rcases unmeasured with off | held
      · rw [off, Bool.false_and]
      · rw [held, Bool.not_true, Bool.and_false]
    rw [off]
    exact ⟨rfl, (crossed_unmeasured off).1⟩
  · have on : s.measuresCrossing = true := by
      unfold State.measuresCrossing
      rw [measured, free]
      rfl
    rw [on]
    exact ⟨rfl, crossed_measured on⟩

/-- The entry switch, the only line that changes (R121, R124, R125). -/
theorem entrySwitch {s : State} {x : Samples} (first : List Line) (quiet : s.quiet = true) (active : s.plateActive = true)
    (only : s.onlyLine x .plateEntry) (high : x.plateEntry = true) : ∃ (r : State) (g : Filter), Sampled s r ∧
      exec (.tick32Hz x first) s = .next ((plateEntry r).setFilter g) := by
  obtain ⟨r, g, sampled, -, run⟩ := exec_onlyLine quiet only first
  have level : lineLevel x .plateEntry = true := high
  have event : lineEvent .plateEntry true r = plateEntry r := if_pos (sampled.plateActive.trans active)
  rw [level, event] at run
  exact ⟨r, g, sampled, run⟩

/-- The exit switch, the only line that changes (R122, R124, R125). -/
theorem exitSwitch {s : State} {x : Samples} (first : List Line) (quiet : s.quiet = true) (active : s.plateActive = true)
    (only : s.onlyLine x .plateExit) (high : x.plateExit = true) : ∃ (r : State) (g : Filter), Sampled s r ∧
      exec (.tick32Hz x first) s = .next ((plateExit r).setFilter g) := by
  obtain ⟨r, g, sampled, -, run⟩ := exec_onlyLine quiet only first
  have level : lineLevel x .plateExit = true := high
  have event : lineEvent .plateExit true r = plateExit r := if_pos (sampled.plateActive.trans active)
  rw [level, event] at run
  exact ⟨r, g, sampled, run⟩

/-! #### The expiry (R126) -/

theorem exec_crossingExpiry {s : State} (ready : s.ready .crossingTimeout = true) : exec .crossingExpiry s = .next (crossingExpired s) :=
  (exec_named (.crossingExpiry, .crossingTimeout) (by decide) s).trans (congrArg _ (named_ready ready))

theorem plateToClear_isRaised (s : State) : (plateToClear s).guidance.isRaised .vehicleNotRegistered = false := by
  unfold plateToClear
  rw [lower_isRaised]
  simp

theorem plateToClear_changes (s : State) : s.onlyChanges [.bus, .timers, .plate, .guidance] (plateToClear s) := by
  obtain ⟨⟨⟨power, startUp, clock, filter, counters, pending⟩, -, pins, lane, cert, archive⟩, capture, eval, roller, -⟩ := plateToClear_frame s
  intro b other
  cases b with
  | bus | timers | plate | guidance => simp at other
  | power => exact power
  | startUp => exact startUp
  | clock => exact clock
  | filter => exact filter
  | counters => exact counters
  | pending => exact pending
  | pins => exact pins
  | lane => exact lane
  | cert => exact cert
  | archive => exact archive
  | capture => exact capture
  | eval => exact eval
  | roller => exact roller

theorem dropMeasurement_changes (s : State) : s.onlyChanges [.capture, .eval] (dropMeasurement s) :=
  State.onlyChanges_after (State.onlyChanges_mono (Within.setEval _ _).1 (by simp))
    (State.onlyChanges_after (State.onlyChanges_mono (setChain_within (setGate false s) _).1 (by simp))
      (State.onlyChanges_mono (Within.setCapture s _).1 (by simp)))

theorem crossingExpired_measuring {s : State} (on : s.plate.crossing = .onPlate) (measure : s.plate.measure = .measuring) :
    crossingExpired s = plateToClear (dropMeasurement s) := by
  unfold crossingExpired
  rw [on, measure]

theorem crossingExpired_unmeasured {s : State} (on : s.plate.crossing = .onPlate) (measure : s.plate.measure = .unmeasured) :
    crossingExpired s = plateToClear s := by
  unfold crossingExpired
  rw [on, measure]

/-! #### A stop and a cancel during a crossing (R128) -/

/-- A measured crossing goes on unmeasured, seen from the state before the frame that brings it about. -/
theorem unmeasure_goesOn {s r t : State} (plate : r.plate = s.plate) (eval : r.eval = s.eval) (timers : r.timers = s.timers)
    (samePlate : t.plate = (unmeasure r).plate) (capture : t.capture = (unmeasure r).capture) (context : t.eval = (unmeasure r).eval)
    (sameTimers : t.timers = (unmeasure r).timers) (routine : s.AddsRoutine t) : s.goesOnUnmeasured t := by
  obtain ⟨-, kept, -, -, record⟩ := unmeasure_frame r
  have dropped : (unmeasure r).capture = (dropMeasurement r).capture ∧ (unmeasure r).eval = (dropMeasurement r).eval := by
    obtain ⟨⟨-, -, -, -, -, capture, eval, -⟩, -⟩ := changePlate_frame (fun p => { p with measure := .unmeasured }) (dropMeasurement r)
    exact ⟨capture, eval⟩
  refine ⟨samePlate.trans (record.trans (by rw [plate])), dropMeasurement_givesUp (congrArg Eval.context eval) (capture.trans dropped.1)
    (context.trans dropped.2), ?_, State.Adds.reportsNoAxle routine⟩
  rw [sameTimers, kept, timers]

theorem Plate.isMeasuring_iff {p : Plate} : p.isMeasuring = true ↔ p.crossing = .onPlate ∧ p.measure = .measuring := by
  simp [Plate.isMeasuring]

theorem Plate.not_isMeasuring {p : Plate} (h : p.crossing ≠ .onPlate ∨ p.measure ≠ .measuring) : ¬p.isMeasuring = true := by
  rw [Plate.isMeasuring_iff]
  tauto

/-- The blocks that R128 speaks of, as a stop of a moving lane leaves them on a PLATE station. -/
theorem setLatch_plate {s : State} (moving : s.bus.latch.stopped = false) (active : s.plateActive = true) (c : StopCause) (n : Nat) :
    ∃ r : State, r = s.setBus { s.bus with latch := s.bus.latch.stop c n } ∧ (setLatch c n s).plate = (plateStopped r).plate ∧
      (setLatch c n s).capture = (plateStopped r).capture ∧ (setLatch c n s).eval = (plateStopped r).eval ∧
      (setLatch c n s).timers = (plateStopped r).timers ∧ s.AddsRoutine (setLatch c n s) := by
  obtain ⟨r, latched⟩ : ∃ r, r = s.setBus { s.bus with latch := s.bus.latch.stop c n } := ⟨_, rfl⟩
  have still : r.plateActive = true := by rw [latched]; exact active
  have reported : stopReported c n s = plateStopped r := by
    rw [stopReported, ← latched, onRoller_of_plate still]
    exact if_pos still
  refine ⟨r, latched, ?_⟩
  rw [setLatch_moving moving, reported]
  refine ⟨by simp, by simp, by simp, by simp, ?_⟩
  have bus : s.AddsRoutine r := .of_eq (by rw [latched]; rfl)
  exact presenceIfChanged_adds (.after (raise_adds _ _ _) (.after (plateStopped_adds r) bus)) s

end Sys2Proof.Machine
end

section
/-! ### Crossings begin and end, settled -/

namespace Sys2Proof.Machine

/-- What a frame's passage leaves of a PLATE station's crossing. -/
theorem passage_crossing {f : WireFrame} (silent : f.announces = false) (s : State) :
    (passage f s).plate = s.plate ∧ (passage f s).capture = s.capture ∧ (passage f s).eval = s.eval ∧ (passage f s).timers = s.timers ∧
    (passage f s).plateActive = s.plateActive := by
  have changes := passage_changes f s
  exact ⟨changes .plate (by simp), changes .capture (by simp), changes .eval (by simp), (passage_items silent s).2,
    State.plateActive_congr (changes .power (by simp)) (changes .startUp (by simp))⟩

theorem stopDuringCrossing {s : State} {src : BitVec 4} {p : List Byte} (listens : s.listens src = true) (active : s.plateActive = true)
    {c : StopCause} (length : p.length = 1) (code : byteAt p 0 = c.code) (moving : s.bus.latch.stopped = false) :
    Completes (.laneStop src p) s (fun t =>
      (s.plate.crossing = .onPlate → s.plate.measure = .measuring → s.goesOnUnmeasured t) ∧
      (s.plate.crossing ≠ .onPlate ∨ s.plate.measure ≠ .measuring → t.plate = s.plate ∧ t.capture = s.capture)) := by
  let f : WireFrame := ⟨0, 1, src.toNat, p⟩
  obtain ⟨plate, capture, eval, timers, sameActive⟩ := passage_crossing (f := f) (by simp [f, WireFrame.announces]) s
  have latch := (passage_link f s).2
  have stop : onLaneStop src.toNat p (passage f s) = setLatch c src.toNat (passage f s) := by
    rw [onLaneStop, readStopCause_eq_some_iff.mpr code]
  obtain ⟨r, latched, afterPlate, afterCapture, afterEval, afterTimers, routine⟩ :=
    setLatch_plate (s := passage f s) (by rw [latch]; exact moving) (sameActive.trans active) c src.toNat
  have rPlate : r.plate = s.plate := by rw [latched]; exact plate
  have rCapture : r.capture = s.capture := by rw [latched]; exact capture
  have rEval : r.eval = s.eval := by rw [latched]; exact eval
  have rTimers : r.timers = s.timers := by rw [latched]; exact timers
  refine ⟨_, heard_passage (cls := 0) (kind := 1) listens (by simp [kindLength, length]) _, ?_⟩
  change (_ → _ → s.goesOnUnmeasured (onLaneStop src.toNat p (passage f s))) ∧ _
  rw [stop]
  refine ⟨fun on measure => ?_, fun other => ?_⟩
  · have drops : plateStopped r = unmeasure r := if_pos (by rw [rPlate]; exact Plate.isMeasuring_iff.mpr ⟨on, measure⟩)
    rw [drops] at afterPlate afterCapture afterEval afterTimers
    exact unmeasure_goesOn rPlate rEval rTimers afterPlate afterCapture afterEval afterTimers (.after routine (passage_adds f s))
  · have stays : plateStopped r = r := if_neg (by rw [rPlate]; exact Plate.not_isMeasuring other)
    rw [stays] at afterPlate afterCapture
    exact ⟨afterPlate.trans rPlate, afterCapture.trans rCapture⟩

/-- The plate, the chain and the timers once a cancel is reported (R21, R128). -/
theorem cancelReports_plate {s : State} (active : s.plateActive = true) (n : Nat) :
    (cancelReports n s).plate = (plateCancelled n s).plate ∧ (cancelReports n s).capture = (plateCancelled n s).capture ∧
    (cancelReports n s).eval = (plateCancelled n s).eval ∧ (cancelReports n s).timers = (plateCancelled n s).timers ∧
    s.AddsRoutine (cancelReports n s) := by
  have reported : onPlate (plateCancelled n) (onRoller (rollerCancelled n) s) = plateCancelled n s := by
    rw [onRoller_of_plate active]
    exact if_pos active
  unfold cancelReports
  rw [reported]
  refine ⟨by simp, by simp, by simp, by simp, ?_⟩
  exact .after (guidanceTicketGone_adds _ _) (.after (certTicketGone_adds _ _) (plateCancelled_adds n s))

theorem cancelDuringCrossing {s : State} {src : BitVec 4} {p : List Byte} (listens : s.listens src = true) (active : s.plateActive = true)
    (length : p.length = 2) {e : Entry} (found : s.lane.find (wordAt p 0) = some e)
    (live : e.state = .registered ∨ e.state = .inLane ∨ e.state = .complete) :
    Completes (.vehicleCancel src p) s (fun t =>
      (s.plate.crossing = .onPlate → s.plate.measure = .measuring → s.plate.axle.ticket = wordAt p 0 → s.goesOnUnmeasured t) ∧
      (s.plate.crossing ≠ .onPlate ∨ s.plate.measure ≠ .measuring ∨ s.plate.axle.ticket ≠ wordAt p 0 →
        t.plate = s.plate ∧ t.capture = s.capture)) := by
  let f : WireFrame := ⟨2, 2, src.toNat, p⟩
  obtain ⟨plate, capture, eval, timers, sameActive⟩ := passage_crossing (f := f) (by simp [f, WireFrame.announces]) s
  obtain ⟨lane, -⟩ := passage_lane f s
  have takes : e.takesResults = true := Entry.takesResults_iff.mpr (by rcases live with h | h | h <;> simp [h])
  obtain ⟨r, cancelled⟩ : ∃ r, r = (passage f s).setLane ((passage f s).lane.cancel (wordAt p 0)) := ⟨_, rfl⟩
  have cancel : onVehicleCancel p (passage f s) = cancelReports (wordAt p 0) r := by
    rw [onVehicleCancel_eq, if_pos, cancelled]
    rw [lane]
    simp [LaneView.cancels, found, takes]
  have rPlate : r.plate = s.plate := by rw [cancelled]; exact plate
  have rCapture : r.capture = s.capture := by rw [cancelled]; exact capture
  have rEval : r.eval = s.eval := by rw [cancelled]; exact eval
  have rTimers : r.timers = s.timers := by rw [cancelled]; exact timers
  have rAdds : s.AddsRoutine r := .after (t := passage f s) (.of_eq (by rw [cancelled]; rfl)) (passage_adds f s)
  have rActive : r.plateActive = true := by rw [cancelled]; exact sameActive.trans active
  obtain ⟨afterPlate, afterCapture, afterEval, afterTimers, routine⟩ := cancelReports_plate rActive (wordAt p 0)
  refine ⟨_, heard_passage (cls := 2) (kind := 2) listens (by simp [kindLength, length]) _, ?_⟩
  change (_ → _ → _ → s.goesOnUnmeasured (onVehicleCancel p (passage f s))) ∧ _
  rw [cancel]
  refine ⟨fun on measure mine => ?_, fun other => ?_⟩
  · have drops : plateCancelled (wordAt p 0) r = unmeasure r := by
      refine if_pos ?_
      rw [rPlate, Plate.isMeasuring_iff.mpr ⟨on, measure⟩, mine]
      simp
    rw [drops] at afterPlate afterCapture afterEval afterTimers
    exact unmeasure_goesOn rPlate rEval rTimers afterPlate afterCapture afterEval afterTimers (.after routine rAdds)
  · have stays : plateCancelled (wordAt p 0) r = r := by
      refine if_neg ?_
      rw [rPlate, Bool.and_eq_true, Plate.isMeasuring_iff, decide_eq_true_iff]
      rintro ⟨⟨on, measure⟩, mine⟩
      rcases other with away | off | another
      · exact away on
      · exact off measure
      · exact another mine
    rw [stays] at afterPlate afterCapture
    exact ⟨afterPlate.trans rPlate, afterCapture.trans rCapture⟩

/-- The entry switch by its cases, seen from the state that the tick finds. -/
theorem entrySwitch_outcome {s r : State} (sampled : Sampled s r) (g : Filter) :
    let t := (plateEntry r).setFilter g
    (s.plate.crossing = .clear → t.plate.crossing = .onPlate ∧ t.plate.fixed = some (s.lane.expected .plate) ∧
      t.plate.reportExit = true ∧ t.timers.seqTimer = ⟨true, 160, false⟩ ∧
      s.queues t (.axleEvent (s.lane.expected .plate).ticket (s.lane.expected .plate).axle .arrived .plate) ∧
      t.lane = s.lane.axleEvent (s.lane.expected .plate).ticket (s.lane.expected .plate).axle .arrived .plate ∧
      (s.measures = false ∨ s.plate.faultHold = true → t.plate.measure = .unmeasured ∧ t.capture = s.capture) ∧
      (s.measures = true → s.plate.faultHold = false → t.plate.measure = .measuring ∧ t.capture.gateOpen = true ∧
        t.capture.s0.config = ⟨[0], .gate, .page, 1024, false⟩ ∧ t.capture.s0.running = true ∧
        (s.eval.context = .noContext → t.eval.context = .crossing ∧ t.eval.wantS0 = some t.capture.s0.runNumber))) ∧
    (s.plate.crossing = .reversing → t.plate.crossing = .clear ∧ t.lane = s.lane ∧ t.capture = s.capture ∧ s.reportsNoAxle t) ∧
    (s.plate.crossing = .onPlate → s.plate.measure = .measuring → s.givesUpMeasuring t ∧ t.lane = s.lane ∧ s.reportsNoAxle t ∧
      t.plate = s.plate.cleared ∧ t.timers.seqTimer = ⟨false, 0, false⟩) ∧
    (s.plate.crossing = .onPlate → s.plate.measure = .unmeasured → t.capture = s.capture ∧ t.lane = s.lane ∧ s.reportsNoAxle t ∧
      t.plate = s.plate.cleared ∧ t.timers.seqTimer = ⟨false, 0, false⟩) ∧
    (s.plate.crossing = .onPlate → s.plate.measure = .draining → t.plate = { s.plate with pendingEntry := true }) := by
  obtain ⟨clear, reversing, measuring, unmeasured, draining⟩ := plateEntry_cases r
  rw [sampled.plate] at clear reversing measuring unmeasured draining
  obtain ⟨lane, capture, eval, timer⟩ := plateToClear_rest r
  refine ⟨fun c => ?_, fun c => ?_, fun c m => ?_, fun c m => ?_, fun c m => ?_⟩
  · obtain ⟨plate, arrived, started, -⟩ := beginCrossing_items r
    obtain ⟨off, on⟩ := beginCrossing_measures r
    have queued := sampled.queues (beginCrossing_queues r) g
    have measures : r.measures = s.measures := congrArg (·.calib.isSome) sampled.eval
    rw [measures, sampled.plate] at off on
    rw [sampled.capture] at off
    rw [sampled.eval] at on
    rw [sampled.lane] at queued arrived plate
    rw [clear c]
    exact ⟨congrArg Plate.crossing plate, congrArg Plate.fixed plate, congrArg Plate.reportExit plate, started, queued, arrived, off, on⟩
  · rw [reversing c]
    exact ⟨congrArg Plate.crossing (plateToClear_plate r), lane.trans sampled.lane, capture.trans sampled.capture,
      sampled.reportsNoAxle (plateToClear_adds r) g⟩
  · obtain ⟨gives, sameLane, routine, record, cancelled⟩ := plateToClear_drops r
    rw [measuring c m]
    exact ⟨sampled.givesUp gives g, sameLane.trans sampled.lane, sampled.reportsNoAxle routine g,
      record.trans (congrArg Plate.cleared sampled.plate), cancelled⟩
  · rw [unmeasured c m]
    exact ⟨capture.trans sampled.capture, lane.trans sampled.lane, sampled.reportsNoAxle (plateToClear_adds r) g,
      (plateToClear_plate r).trans (congrArg Plate.cleared sampled.plate), timer⟩
  · rw [draining c m]
    rfl

/-- The exit switch by its cases, seen from the state that the tick finds. -/
theorem exitSwitch_outcome {s r : State} (sampled : Sampled s r) (g : Filter) :
    let t := (plateExit r).setFilter g
    (s.plate.crossing = .clear → t.plate = { s.plate with crossing := .reversing } ∧ s.onlyChanges [.clock, .filter, .plate] t) ∧
    (s.plate.crossing = .reversing → t.plate.crossing = .clear ∧ t.lane = s.lane ∧ t.capture = s.capture ∧ s.reportsNoAxle t) ∧
    (s.plate.crossing = .onPlate → s.plate.measure = .draining → s.onlyChanges [.clock, .filter] t) ∧
    (s.plate.crossing = .onPlate → s.plate.measure = .measuring → s.plate.pendingEntry = false → t.capture.gateOpen = false ∧
      t.capture.s0.running = false ∧ (t.plate.crossing = .onPlate → t.plate.measure = .draining)) ∧
    (s.plate.crossing = .onPlate → s.plate.measure = .unmeasured → s.plate.pendingEntry = false → s.plate.reportExit = true →
      t.plate.crossing = .clear ∧ t.plate.fixed = none ∧
      s.queues t (.axleEvent s.plate.axle.ticket s.plate.axle.axle .left .plate) ∧
      t.lane = s.lane.axleEvent s.plate.axle.ticket s.plate.axle.axle .left .plate) := by
  obtain ⟨clear, reversing, measuring, unmeasured, draining⟩ := plateExit_cases r
  rw [sampled.plate] at clear reversing measuring unmeasured draining
  refine ⟨fun c => ?_, fun c => ?_, fun c m => ?_, fun c m last => ?_, fun c m last report => ?_⟩
  · rw [clear c, changePlate_reversing (by rw [sampled.plate, c]), sampled.plate]
    exact ⟨rfl, sampled.changes (Within.setPlate r _).1 g⟩
  · obtain ⟨lane, capture, -⟩ := plateToClear_rest r
    rw [reversing c]
    exact ⟨congrArg Plate.crossing (plateToClear_plate r), lane.trans sampled.lane, capture.trans sampled.capture,
      sampled.reportsNoAxle (plateToClear_adds r) g⟩
  · rw [draining c m]
    exact sampled.changes (r.onlyChanges_refl []) g
  · rw [measuring c m]
    exact drainCrossing_outcome (by rw [sampled.plate]; exact last)
  · have plate : (cancelSeqTimer r).plate = s.plate := sampled.plate
    obtain ⟨record, -, -, -, lane⟩ := exited_items (cancelSeqTimer r)
    have queued := endCrossing_left (s := cancelSeqTimer r) (by rw [plate]; exact report)
    have ends := (endCrossing_cases (cancelSeqTimer r)).1 (by rw [plate]; exact last)
    rw [ends] at queued
    rw [plate] at lane queued
    rw [if_pos report] at lane
    rw [unmeasured c m, ends]
    refine ⟨congrArg Plate.crossing record, congrArg Plate.fixed record, sampled.queues (r := r) queued g, lane.trans ?_⟩
    change r.lane.axleEvent _ _ _ _ = _
    rw [sampled.lane]

theorem crossingExpiry_outcome {s : State} (ready : s.ready .crossingTimeout = true) :
    Completes .crossingExpiry s (fun t => t.plate.crossing = .clear ∧ t.plate.fixed = none ∧ t.plate.reportExit = false ∧
      t.plate.measure = .unmeasured ∧ t.plate.pendingEntry = s.plate.pendingEntry ∧ t.timers.seqTimer = ⟨false, 0, false⟩ ∧
      (s.plate.measure = .measuring → s.givesUpMeasuring t) ∧ s.reportsNoAxle t ∧
      t.guidance.isRaised .vehicleNotRegistered = false ∧ s.onlyChanges [.bus, .timers, .capture, .eval, .plate, .guidance] t) := by
  have due : s.plate.crossing = .onPlate ∧ s.plate.measure ≠ .draining := by
    simp only [State.ready, State.isDue, Bool.and_eq_true, beq_iff_eq, bne_iff_ne] at ready
    exact ⟨ready.2.1.2, ready.2.2⟩
  obtain ⟨on, other⟩ := due
  refine ⟨_, exec_crossingExpiry ready, ?_⟩
  cases measure : s.plate.measure with
  | draining => exact absurd measure other
  | measuring =>
    obtain ⟨gives, -, routine, record, timer⟩ := plateToClear_drops s
    rw [crossingExpired_measuring on measure]
    refine ⟨congrArg Plate.crossing record, congrArg Plate.fixed record, congrArg Plate.reportExit record, congrArg Plate.measure record,
      by rw [record]; rfl, timer, fun _ => gives, State.Adds.reportsNoAxle routine, plateToClear_isRaised _, ?_⟩
    exact State.onlyChanges_after (State.onlyChanges_mono (plateToClear_changes _) (by simp))
      (State.onlyChanges_mono (dropMeasurement_changes s) (by simp))
  | unmeasured =>
    have record := plateToClear_plate s
    rw [crossingExpired_unmeasured on measure]
    exact ⟨congrArg Plate.crossing record, congrArg Plate.fixed record, congrArg Plate.reportExit record, congrArg Plate.measure record,
      by rw [record]; rfl, (plateToClear_rest s).2.2.2, fun m => absurd m (by simp),
      State.Adds.reportsNoAxle (plateToClear_adds s), plateToClear_isRaised s, State.onlyChanges_mono (plateToClear_changes s) (by simp)⟩

/-- Settles O49: the two switches by the crossing record, the expiry, and the frames that make a crossing unmeasured. -/
theorem crossingsBeginAndEnd : Obligations.CrossingsBeginAndEnd := by
  intro s
  refine ⟨fun x first quiet active => ⟨fun only high => ?_, fun only high => ?_⟩, crossingExpiry_outcome, fun src p listens active =>
    ⟨fun c length code moving => stopDuringCrossing listens active length code moving,
      fun length e found live => cancelDuringCrossing listens active length found live⟩⟩
  · obtain ⟨r, g, sampled, run⟩ := entrySwitch first quiet active only high
    exact ⟨_, run, entrySwitch_outcome sampled g⟩
  · obtain ⟨r, g, sampled, run⟩ := exitSwitch first quiet active only high
    exact ⟨_, run, exitSwitch_outcome sampled g⟩

end Sys2Proof.Machine
end

section
/-! The streams of a phase, and the entry to WEIGH (R73, R103). -/

namespace Sys2Proof.Machine

/-! ### What an entry changes, and the streams it writes -/

/-- A roller operation that leaves the table and the certificate unit. -/
theorem Within.sequenceChanges {s t : State} (h : Within rollerBlocks s t) (lane : t.lane = s.lane) (cert : t.cert = s.cert) :
    s.onlyChanges [.bus, .timers, .capture, .eval, .roller, .guidance] t := by
  intro b other
  cases b with
  | lane => exact lane
  | cert => exact cert
  | bus | timers | capture | eval | roller | guidance => simp at other
  | _ => exact h.1 _ (by simp)

theorem pacePhase_capture (p : Phase) (s : State) : (pacePhase p s).capture = s.capture := (pacePhase_chain p s).1

/-- S0 and S1 as the entry to a phase writes them (R73). -/
theorem writePhaseStreams_written {s : State} (measures : s.measures = true) (p : Phase) (pressure : Bool) :
    (writePhaseStreams p pressure s).capture.s0.config = (phaseStreams p pressure).1.stored ∧
    (writePhaseStreams p pressure s).capture.s0.running =
      !(decide ((phaseStreams p pressure).1.trigger = .off ∨ (phaseStreams p pressure).1.columns = [])) ∧
    (writePhaseStreams p pressure s).capture.s0.runNumber =
      (if (phaseStreams p pressure).1.trigger = .off ∨ (phaseStreams p pressure).1.columns = [] then s.capture.s0.runNumber
        else (s.capture.s0.runNumber + 1) % 256) ∧
    (writePhaseStreams p pressure s).capture.s1.config = (phaseStreams p pressure).2.stored ∧
    (writePhaseStreams p pressure s).capture.s1.running =
      !(decide ((phaseStreams p pressure).2.trigger = .off ∨ (phaseStreams p pressure).2.columns = [])) := by
  have written : (writePhaseStreams p pressure s).capture =
      (writeStream .s0 (phaseStreams p pressure).1 (writeStream .s1 (phaseStreams p pressure).2 s)).capture := by
    have unfolded : writePhaseStreams p pressure s =
        pacePhase p (writeStream .s0 (phaseStreams p pressure).1 (writeStream .s1 (phaseStreams p pressure).2 s)) := if_pos measures
    rw [unfolded, pacePhase_capture]
  obtain ⟨config1, running1, -⟩ := writeStream_written .s1 (phaseStreams p pressure).2 s
  obtain ⟨others1, -⟩ := writeStream_leaves .s1 (phaseStreams p pressure).2 s
  have before := (others1 .s0 (by simp)).runNumber
  obtain ⟨config0, running0, run0⟩ := writeStream_written .s0 (phaseStreams p pressure).1 (writeStream .s1 (phaseStreams p pressure).2 s)
  obtain ⟨others0, -⟩ := writeStream_leaves .s0 (phaseStreams p pressure).1 (writeStream .s1 (phaseStreams p pressure).2 s)
  have still := others0 .s1 (by simp)
  rw [before] at run0
  rw [written]
  exact ⟨config0, running0, run0, still.config.trans config1, still.running.trans running1⟩

/-! ### The entry to WEIGH (R103) -/

/-- The station with the expected axle fixed on the rollers and its arrival reported (R103). -/
def State.axleTaken (s : State) : State :=
  localAxleEvent (s.lane.expected .roller) .arrived .roller
    (s.setRoller { s.roller with fixed := some (s.lane.expected .roller), kind := .service })

/-- The station with the weighing of the axle begun (R103). -/
def State.weighBegun (s : State) : State :=
  evalBeginWeigh (writePhaseStreams .weigh false (changeRoller (fun r => { r with phase := .weigh }) s.axleTaken))

theorem enterWeigh_eq (s : State) : enterWeigh s = if (s.lane.expected .roller).ticket = 0 then
    raise .vehicleNotRegistered { axle := some (s.lane.expected .roller).axle } (lower .driveOn s.weighBegun)
  else lower .driveOn s.weighBegun := rfl

theorem enterWeigh_chain (s : State) : (enterWeigh s).capture = s.weighBegun.capture ∧ (enterWeigh s).eval = s.weighBegun.eval := by
  rw [enterWeigh_eq]
  split <;> simp

theorem enterWeigh_isRaised (s : State) : (enterWeigh s).guidance.isRaised .driveOn = false ∧
    ((s.lane.expected .roller).ticket = 0 → (enterWeigh s).guidance.isRaised .vehicleNotRegistered = true) := by
  rw [enterWeigh_eq]
  split
  · simp [raise_isRaised, lower_isRaised]
  · rename_i known
    exact ⟨by simp [lower_isRaised], fun unknown => absurd unknown known⟩

theorem enterWeigh_queues (s : State) :
    s.queues (enterWeigh s) (.axleEvent (s.lane.expected .roller).ticket (s.lane.expected .roller).axle .arrived .roller) := by
  have taken : KeepsQueue (queueFrame (.axleEvent (s.lane.expected .roller).ticket (s.lane.expected .roller).axle .arrived .roller)
      (s.setRoller { s.roller with fixed := some (s.lane.expected .roller), kind := .service })) s.axleTaken := .of_eq rfl
  have begun : KeepsQueue s.axleTaken s.weighBegun :=
    .after (t := writePhaseStreams .weigh false (changeRoller (fun r => { r with phase := .weigh }) s.axleTaken)) (.of_eq rfl)
      (.after (writePhaseStreams_roller _ _ _).keepsQueue (changeRoller_within _ _).keepsQueue)
  have lowered : KeepsQueue s.weighBegun (lower .driveOn s.weighBegun) := (lower_within _ _).keepsQueue
  have entered : KeepsQueue s.axleTaken (enterWeigh s) := by
    rw [enterWeigh_eq]
    exact .ite (.after (raise_within _ _ _).keepsQueue (lowered.after begun)) (lowered.after begun)
  have can : (s.setRoller { s.roller with fixed := some (s.lane.expected .roller), kind := .service }).bus.canQueue = s.bus.canQueue := rfl
  exact queues_of_keeps can rfl (entered.after taken)

theorem axleTaken_chain (s : State) : (changeRoller (fun r => { r with phase := .weigh }) s.axleTaken).capture = s.capture ∧
    (changeRoller (fun r => { r with phase := .weigh }) s.axleTaken).eval = s.eval := by simp [State.axleTaken]

/-- The WEIGH streams and the unit's context as the weighing begins (R73, R77). -/
theorem weighBegun_chain {s : State} (measures : s.measures = true) :
    s.weighBegun.capture.s0.config = ⟨[0, 1], .pt1, .page, 64, false⟩ ∧ s.weighBegun.capture.s0.running = true ∧
    s.weighBegun.capture.s1.config = ⟨[2, 3], .pt1, .page, 64, false⟩ ∧ s.weighBegun.capture.s1.running = true ∧
    s.weighBegun.eval.context = .weighing ∧ s.weighBegun.eval.loads = none ∧ s.weighBegun.eval.zt = none ∧ s.weighBegun.eval.rr = none ∧
    s.weighBegun.eval.wantS0 = some s.weighBegun.capture.s0.runNumber ∧ s.weighBegun.eval.wantS1 = some s.weighBegun.capture.s1.runNumber := by
  obtain ⟨-, eval⟩ := axleTaken_chain s
  have still : (changeRoller (fun r => { r with phase := .weigh }) s.axleTaken).measures = true := by
    rw [State.measures, eval]
    exact measures
  obtain ⟨config0, running0, -, config1, running1⟩ := writePhaseStreams_written still .weigh false
  exact ⟨config0, running0, config1, running1, rfl, rfl, rfl, rfl, rfl, rfl⟩

theorem enterWeigh_changes (s : State) :
    s.onlyChanges [.lane, .bus, .timers, .capture, .eval, .roller, .guidance] (enterWeigh s) := by
  obtain ⟨-, -, -, cert, -⟩ := enterWeigh_frame s
  intro b other
  cases b with
  | cert => exact cert
  | lane | bus | timers | capture | eval | roller | guidance => simp at other
  | _ => exact (enterWeigh_within s).1 _ (by simp)

/-- Settles O43: the entry to WEIGH, where an axle on the rollers leads. -/
theorem axleOnRollersIsWeighed : Obligations.AxleOnRollersIsWeighed := by
  intro s ready
  have measures : s.measures = true := by
    simp only [State.ready, State.isDue, Bool.and_eq_true, Bool.not_eq_true'] at ready
    have open' := ready.2.1.2
    simp only [State.idleHeld, Bool.or_eq_false_iff, Bool.not_eq_false'] at open'
    exact open'.2
  have run : exec .axleOnRollers s = .next (enterWeigh s) :=
    (exec_named (.axleOnRollers, .axleOn) (by decide) s).trans (congrArg _ (named_ready ready))
  obtain ⟨-, -, -, -, -, -, lane, roller⟩ := enterWeigh_frame s
  obtain ⟨capture, eval⟩ := enterWeigh_chain s
  obtain ⟨lowered, unknown⟩ := enterWeigh_isRaised s
  obtain ⟨config0, running0, config1, running1, context, loads, zero, rolling, want0, want1⟩ := weighBegun_chain measures
  refine ⟨_, run, ?_⟩
  dsimp only
  rw [capture, eval, roller, lane]
  exact ⟨enterWeigh_changes s, rfl, rfl, rfl, rfl, enterWeigh_queues s, rfl, config0, running0, config1, running1, context, loads, zero, rolling,
    want0, want1, lowered, unknown⟩

end Sys2Proof.Machine
end

section
/-! The ends of WARN, and a welded contactor taken before them (R99, R105 to R107). -/

namespace Sys2Proof.Machine

/-! ### A welded contactor outlasts what is taken after it (R99, R117) -/

/-- The rollers of a station in a stopped lane, its contactor found welded. -/
structure State.Seized (s : State) : Prop where
  geared : s.Geared
  active : s.rollerActive = true
  stopped : s.bus.latch.stopped = true
  welded : s.roller.welded = true

theorem State.Seized.idle {s : State} (h : s.Seized) : s.roller.phase = .idle ∧ s.roller.motors = false := h.geared.stopped_idle h.stopped

theorem State.Seized.keeps {s t : State} (h : s.Seized) (geared : t.Geared) (power : t.power = s.power) (startUp : t.startUp = s.startUp)
    (latch : t.bus.latch = s.bus.latch) (welded : t.roller.welded = s.roller.welded) : t.Seized where
  geared := geared
  active := (State.rollerActive_congr power startUp).trans h.active
  stopped := by rw [latch]; exact h.stopped
  welded := welded.trans h.welded

/-- What leaves the roller sequence leaves it seized. -/
theorem State.Seized.within {s t : State} {bs : List Block} (h : s.Seized) (k : Within bs s t)
    (other : Block.power ∉ bs ∧ Block.startUp ∉ bs ∧ Block.roller ∉ bs) (geared : t.Geared) : t.Seized :=
  h.keeps geared (k.same .power other.1) (k.same .startUp other.2.1) k.sameBus.2.2.2.2.1 (by rw [k.same .roller other.2.2])

theorem rollerFault_welded (cause : FaultCause) (s : State) : (rollerFault cause s).roller.welded = s.roller.welded := by
  cases held : s.roller.faultHold with
  | none => rw [rollerFault_free cause s held]; simp
  | some c =>
    rw [rollerFault_held cause s (by simp [held])]
    split <;> rfl

theorem told_welded (n : Nat) (s : State) : (s.told n).roller.welded = s.roller.welded := by
  rw [told_roller]
  unfold State.rollerTold onRoller
  split
  · split
    · exact rollerFault_welded _ s
    · rfl
  · rfl

theorem told_latch (n : Nat) (s : State) : (s.told n).bus.latch = s.bus.latch ∧ (s.told n).power = s.power ∧ (s.told n).startUp = s.startUp := by
  have roller : Within rollerBlocks s (s.rollerTold n) := Within.ite (onRoller_within (rollerFault_within _) s) (Within.refl _ s)
  have plate : Within plateBlocks (s.rollerTold n) (s.told n) :=
    Within.ite (onPlate_within plateFault_within (s.rollerTold n)) (Within.refl _ _)
  refine ⟨plate.sameBus.2.2.2.2.1.trans roller.sameBus.2.2.2.2.1, ?_, ?_⟩
  · exact (plate.same .power (by simp)).trans (roller.same .power (by simp))
  · exact (plate.same .startUp (by simp)).trans (roller.same .startUp (by simp))

theorem faultInput_seized {s : State} (h : s.Seized) (n : Nat) : (faultInput n s).Seized := by
  obtain ⟨latch, power, startUp⟩ := told_latch n (s.setCapture (s.capture.fault n))
  have welded := told_welded n (s.setCapture (s.capture.fault n))
  refine h.keeps (faultInput_geared n h.geared) ?_ ?_ ?_ ?_
  · rw [faultInput_eq, (raiseSensorFault_frame _).1.1]
    exact power
  · rw [faultInput_eq, (raiseSensorFault_frame _).1.2.1]
    exact startUp
  · rw [faultInput_eq, (raiseSensorFault_frame _).2.1.2.2.2.2.1]
    exact latch
  · rw [faultInput_eq, (raiseSensorFault_frame _).2.2.2.2.2.2.2.1]
    exact welded

theorem withoutPeer_welded {n : Nat} {s : State} (idle : s.roller.phase = .idle) : (s.withoutPeer n).roller.welded = s.roller.welded := by
  obtain ⟨r, lost⟩ : ∃ r, r = s.setBus { s.bus with peers := s.bus.peers.filter fun p => p.station ≠ n } := ⟨_, rfl⟩
  have roller : r.roller = s.roller := by rw [lost]; rfl
  have unawaited : removeAwaited n r = r := if_neg (by rw [roller]; simp [idle])
  unfold State.withoutPeer onRoller
  rw [← lost]
  dsimp only
  rw [unawaited]
  split
  · have kept : (judgeRoleClash r).roller.welded = r.roller.welded := by rw [(judgeRoleClash_items r).1]
    rw [kept, roller]
  · rw [roller]

/-- A due event of a seized station leaves it seized. -/
theorem takeDue_seized {s : State} {d : Due} (h : s.Seized) (due : s.isDue d = true) : (takeDue s d).Seized := by
  have geared := takeDue_geared h.geared due
  have idle := h.idle.1
  have held : s.idleHeld = true := by simp [State.idleHeld, h.stopped]
  cases d with
  | certificateStart => exact h.within (startHead_within s) (by simp) geared
  | reprintStart => exact h.within (startHead_within s) (by simp) geared
  | inputFaulted n => exact faultInput_seized h n
  | release =>
    have same : takeDue s .release = s.setEval { s.eval with acc := { s.eval.acc with releaseDue := false } } := if_neg (by simp [idle])
    rw [same] at geared ⊢
    exact h.keeps geared rfl rfl rfl rfl
  | slipStop =>
    have same : takeDue s .slipStop = s.setEval { s.eval with acc := { s.eval.acc with slipDue := false } } := if_neg (by simp [idle])
    rw [same] at geared ⊢
    exact h.keeps geared rfl rfl rfl rfl
  | warnHorn | warnTimeout | runOut | spinUpTimeout | testLimit | feedbackCount | axleLeaves | rollDown =>
    simp [State.isDue, State.spinUpExpiry, State.warnExpiry, State.rollerExpiry, idle] at due
  | welded => simp [State.isDue, State.weldedDue, h.welded] at due
  | axleOn => simp [State.isDue, held] at due
  | crossingTimeout => exact h.within (crossingExpired_within s) (by simp) geared
  | paperWait =>
    exact h.within (Within.after ((failJob_within (cancelCertTimer s)).mono (by simp : jobBlocks ⊆ .timers :: jobBlocks))
      ((Within.setTimers s _).mono (by simp))) (by simp) geared
  | minimumShow => exact h.within (showTimeMet_within s) (by simp) geared
  | rejectedLife => exact h.within (lower_within _ s) (by simp) geared
  | warningLife => exact h.within (lower_within _ s) (by simp) geared
  | singleEnd => exact h.keeps geared rfl rfl rfl rfl
  | peerAbsent =>
    cases absent : s.bus.absent with
    | none => simp [State.isDue, absent] at due
    | some n =>
      have gone : takeDue s .peerAbsent = removePeer n s := by simp only [takeDue, absent]
      have gear := removePeer_gear n s
      rw [gone] at geared ⊢
      exact h.keeps geared gear.power gear.startUp (removePeer_bus n s).2.2
        ((congrArg Roller.welded (removePeer_roller n s)).trans (withoutPeer_welded idle))
  | startUpEnd =>
    have started : s.startUp.ended = true := by
      have active := h.active
      simp only [State.rollerActive, State.started, Bool.and_eq_true] at active
      exact active.1.2
    have once := h.geared.once
    simp only [State.isDue, Bool.and_eq_true] at due
    exact absurd (once due.2) (by simp [started])
  | converterStart => exact h.keeps geared rfl rfl rfl rfl

theorem settleFor_seized : ∀ (n : Nat) {s : State}, s.Seized → (settleFor n s).Seized
  | 0, _, h => h
  | n + 1, s, h => by
    unfold settleFor
    split
    · rename_i d found
      exact settleFor_seized n (takeDue_seized h (by simpa using List.find?_some found))
    · exact h

/-- A stop of the lane leaves what is welded welded (R99, R117). -/
theorem rollerStopped_welded (s : State) : (rollerStopped s).roller.welded = s.roller.welded := by
  unfold rollerStopped
  split
  · simp
  · simp
  · split <;> simp
  · simp

theorem setLatch_welded (c : StopCause) (n : Nat) (s : State) : (setLatch c n s).roller.welded = s.roller.welded := by
  cases h : s.bus.latch.stopped with
  | true => simp [setLatch_stopped h]
  | false =>
    have plate (r : State) : (onPlate plateStopped r).roller = r.roller := (onPlate_within plateStopped_within r).same .roller (by simp)
    simp only [setLatch_moving h, presenceIfChanged_fields, raise_frame, plate]
    unfold onRoller
    split
    · exact rollerStopped_welded _
    · rfl

/-- The station in whose lane stop a welded contactor results, before the fault is taken (R99). -/
def State.weldStopped (s : State) : State := stopLane .contactor (s.setRoller { s.roller with welded := true })

theorem weldedFound_eq (s : State) : weldedFound s = rollerFault .welded s.weldStopped := rfl

theorem weldStopped_welded (s : State) : s.weldStopped.roller.welded = true := by
  have kept := setLatch_welded .contactor s.startUp.ownNumber (queueFrame (.laneStop .contactor) (s.setRoller { s.roller with welded := true }))
  exact kept.trans (by simp)

theorem weldStopped_gear (s : State) : s.weldStopped.power = s.power ∧ s.weldStopped.startUp = s.startUp := by
  have changes := stopLane_changes .contactor (s.setRoller { s.roller with welded := true })
  exact ⟨changes .power (by simp), changes .startUp (by simp)⟩

theorem weldedFound_seized {s : State} (g : s.Geared) (active : s.rollerActive = true) : (weldedFound s).Seized := by
  obtain ⟨⟨⟨power, startUp, -⟩, ⟨-, -, -, -, latch, -⟩, -⟩, -⟩ := rollerFault_frame .welded s.weldStopped
  obtain ⟨power1, startUp1⟩ := weldStopped_gear s
  have stop : s.weldStopped.bus.latch.stopped = true := congrArg Latch.stopped (stopLane_latch .contactor (s.setRoller { s.roller with welded := true }))
  refine ⟨weldedFound_geared g, ?_, ?_, ?_⟩
  · rw [weldedFound_eq, State.rollerActive_congr (power.trans power1) (startUp.trans startUp1), active]
  · rw [weldedFound_eq, latch, stop]
  · rw [weldedFound_eq, rollerFault_welded, weldStopped_welded]

/-- Where a welded contactor alone is due, it is taken first, and what follows leaves the rollers seized (R99; log entry 44). -/
theorem settle_welded {s : State} (g : s.Geared) (due : s.isDue .welded = true)
    (alone : ∀ d ∈ dueOrder, d ≠ .welded → s.isDue d = false) : (settle s).Seized := by
  have active : s.rollerActive = true := by
    simp only [State.isDue, State.weldedDue, Bool.and_eq_true] at due
    exact due.1.1.1
  have first : dueOrder.find? s.isDue = some .welded := by
    cases found : dueOrder.find? s.isDue with
    | none => exact absurd due (by simpa using List.find?_eq_none.mp found .welded (by decide))
    | some d =>
      by_contra other
      have due' : s.isDue d = true := by simpa using List.find?_some found
      exact absurd due' (by simp [alone d (List.mem_of_find?_eq_some found) (by simpa using other)])
  have taken : settle s = settleFor 63 (weldedFound s) := settleFor_step first
  rw [taken]
  exact settleFor_seized 63 (weldedFound_seized g active)

end Sys2Proof.Machine
end

section
/-! The ends of WARN, settled (R99, R105 to R107). -/

namespace Sys2Proof.Machine

/-- A change of the sequence's items that keeps its activity asks for no PRESENCE (R33). -/
theorem changeRoller_quiet {f : Roller → Roller} {s : State} (same : (f s.roller).activity = s.roller.activity) :
    changeRoller f s = s.setRoller (f s.roller) := by
  have key : s.presenceKey = (s.setRoller (f s.roller)).presenceKey := by
    unfold State.presenceKey State.activity
    refine Prod.ext rfl (Prod.ext ?_ rfl)
    dsimp only
    cases role : s.startUp.role <;> simp [role, same]
  exact if_pos key

theorem Roller.activity_testing {r q : Roller} (hold : q.faultHold = r.faultHold) (before : r.phase ≠ .idle) (after : q.phase ≠ .idle) :
    q.activity = r.activity := by
  unfold Roller.activity
  rw [hold, if_neg before, if_neg after]

/-- The items of the sequence in SPIN_UP, the feedback lines standing as they are (R98, R107). -/
def Roller.spunUp (r : Roller) (fbL fbR : Bool) : Roller :=
  { r with phase := .spinUp, motors := true, feedbackCount := 0, awaited := [], warnWait := none, fbL := fbL, fbR := fbR }

/-- The entry to SPIN_UP from WARN asks for no PRESENCE. -/
theorem enterSpinUp_eq {s : State} (warn : s.roller.phase = .warn) : enterSpinUp s = startSeqTimer Config.spinUpWindows
    ((writePhaseStreams .spinUp false s).setRoller (s.roller.spunUp s.filter.accepted.fbL s.filter.accepted.fbR)) := by
  have roller : (writePhaseStreams .spinUp false s).roller = s.roller := by simp
  have filter : (writePhaseStreams .spinUp false s).filter = s.filter := by simp
  have quiet : ((writePhaseStreams .spinUp false s).roller.spunUp s.filter.accepted.fbL s.filter.accepted.fbR).activity =
      (writePhaseStreams .spinUp false s).roller.activity :=
    Roller.activity_testing rfl (by rw [roller, warn]; simp) (by simp [Roller.spunUp])
  have changed := changeRoller_quiet (f := fun r => r.spunUp s.filter.accepted.fbL s.filter.accepted.fbR) quiet
  rw [roller] at changed
  refine Eq.trans ?_ (congrArg (startSeqTimer Config.spinUpWindows) changed)
  unfold enterSpinUp
  dsimp only
  rw [filter]
  rfl

theorem spinUp_begins {s : State} {w : WarnWait} (due : s.spinUpExpiry w = true) :
    s.onlyChanges [.timers, .capture, .eval, .roller] (enterSpinUp s) ∧
    (enterSpinUp s).roller.phase = .spinUp ∧ (enterSpinUp s).roller.motors = true ∧ (enterSpinUp s).roller.feedbackCount = 0 ∧
    (enterSpinUp s).roller.awaited = [] ∧ (enterSpinUp s).roller.fbL = s.filter.accepted.fbL ∧
    (enterSpinUp s).roller.fbR = s.filter.accepted.fbR ∧ (enterSpinUp s).roller.fixed = s.roller.fixed ∧
    (enterSpinUp s).roller.kind = s.roller.kind ∧ (enterSpinUp s).timers.seqTimer = ⟨true, 32, false⟩ := by
  have warn : s.roller.phase = .warn := by
    simp only [State.spinUpExpiry, State.warnExpiry, State.rollerExpiry, Bool.and_eq_true, beq_iff_eq] at due
    exact due.1.1.2
  rw [enterSpinUp_eq warn]
  refine ⟨?_, rfl, rfl, rfl, rfl, rfl, rfl, rfl, rfl, rfl⟩
  exact State.onlyChanges_after (State.onlyChanges_mono (startSeqTimer_within _ _).1 (by simp))
    (State.onlyChanges_after (State.onlyChanges_mono (Within.setRoller _ _).1 (by simp))
      (State.onlyChanges_mono (writePhaseStreams_within _ _ s).1 (by simp)))

theorem enterPositioned_timer (s : State) : (enterPositioned s).timers.seqTimer = ⟨false, 0, false⟩ := by simp [enterPositioned]

/-- The prompts that the entry to POSITIONED leaves show what they showed (R104). -/
theorem enterPositioned_shows {s : State} {p : Prompt} {f : PromptFields} (h : s.guidance.Shows p f)
    (other : p ∉ [Prompt.motorsStarting, .releaseBrake, .axleResult, applyPrompt s.roller.kind]) : (enterPositioned s).guidance.Shows p f := by
  have kept : (changeRoller (fun r => { r with phase := .positioned, awaited := [], warnWait := none })
      (cancelSeqTimer (writePhaseStreams .positioned false s))).guidance = s.guidance := by simp
  have kind : (changeRoller (fun r => { r with phase := .positioned, awaited := [], warnWait := none })
      (cancelSeqTimer (writePhaseStreams .positioned false s))).roller.kind = s.roller.kind := by simp
  have lowered := lowerAll_shows (ps := [.motorsStarting, .releaseBrake, .axleResult]) (s := changeRoller
    (fun r => { r with phase := .positioned, awaited := [], warnWait := none }) (cancelSeqTimer (writePhaseStreams .positioned false s)))
    (by rw [kept]; exact h) (fun m => other (by simpa using Or.imp_right (Or.imp_right Or.inl) (by simpa using m)))
  refine raise_shows_other lowered ?_ _
  have same : (lowerAll [.motorsStarting, .releaseBrake, .axleResult] (changeRoller
    (fun r => { r with phase := .positioned, awaited := [], warnWait := none }) (cancelSeqTimer (writePhaseStreams .positioned false s)))).roller.kind =
    s.roller.kind := by simp
  rw [same]
  exact fun eq => other (by simp [eq])

/-- The warning that fails: POSITIONED again, with the panels that did not answer named (R106). -/
theorem warning_fails (s : State) : s.onlyChanges [.bus, .timers, .capture, .eval, .roller, .guidance] (failWarning s) ∧
    (failWarning s).roller.phase = .positioned ∧ (failWarning s).roller.motors = s.roller.motors ∧ (failWarning s).roller.awaited = [] ∧
    (failWarning s).roller.fixed = s.roller.fixed ∧ (failWarning s).timers.seqTimer = ⟨false, 0, false⟩ ∧
    (failWarning s).guidance.isRaised .motorsStarting = false ∧
    ((failWarning s).guidance.find .panelNotResponding).map (·.fields) = some { stations := s.roller.awaited } ∧
    (failWarning s).guidance.isRaised (if s.roller.kind = .service then .applyBrake else .applyParking) = true := by
  obtain ⟨⟨-, -, -, lane, cert, -⟩, -, roller⟩ := failWarning_frame s
  obtain ⟨r, raised⟩ : ∃ r, r = raise .panelNotResponding { stations := s.roller.awaited } s := ⟨_, rfl⟩
  have kind : r.roller.kind = s.roller.kind := by rw [raised]; simp
  have fails : failWarning s = enterPositioned r := by rw [raised]; rfl
  have shows : r.guidance.Shows .panelNotResponding { stations := s.roller.awaited } := by
    rw [raised]
    exact raise_shows _ _ s
  have within : Within rollerBlocks s (failWarning s) := Within.after (enterPositioned_within _) (raise_roller _ _ s)
  refine ⟨within.sequenceChanges lane cert, by rw [roller], by rw [roller], by rw [roller], by rw [roller], enterPositioned_timer _, ?_, ?_, ?_⟩
  · rw [fails, enterPositioned_isRaised, kind]
    cases s.roller.kind <;> simp [applyPrompt]
  · rw [fails]
    refine (enterPositioned_shows shows ?_).find_fields
    rw [kind]
    cases s.roller.kind <;> simp [applyPrompt]
  · rw [fails, enterPositioned_isRaised, kind]
    cases s.roller.kind <;> simp [applyPrompt]

/-- Settles O44: the two waits that switch the motors on, the one that fails, and the welded contactor taken before them. -/
theorem warningEndsInSpinUpOrFails : Obligations.WarningEndsInSpinUpOrFails := by
  refine ⟨fun s law welded alone _ _ c hc => ?_, fun s => ⟨fun c d hc ready => ?_, fun ready => ?_⟩⟩
  · obtain ⟨d, event, listed, apart⟩ : ∃ d, (c, d) ∈ namedEvents ∧ d ∈ dueOrder ∧ d ≠ .welded := by
      simp only [List.mem_cons, List.not_mem_nil, or_false] at hc
      rcases hc with rfl | rfl
      · exact ⟨.warnHorn, by decide, by decide, by simp⟩
      · exact ⟨.runOut, by decide, by decide, by simp⟩
    have seized := settle_welded (State.motorLaw_iff.mp law) welded alone
    have run : exec c s = .next (settle s) := (exec_named (c, d) event s).trans (congrArg _ (if_neg (by simp [alone d listed apart])))
    exact ⟨_, run, seized.welded, seized.idle.1, seized.idle.2, seized.stopped⟩
  · simp only [List.mem_cons, List.not_mem_nil, or_false, Prod.mk.injEq] at hc
    rcases hc with ⟨rfl, rfl⟩ | ⟨rfl, rfl⟩
    · have due : s.spinUpExpiry .hornAlone = true := by
        simp only [State.ready, Bool.and_eq_true] at ready
        exact ready.2
      exact ⟨_, (exec_named (.warnHornExpiry, .warnHorn) (by decide) s).trans (congrArg _ (named_ready ready)), spinUp_begins due⟩
    · have due : s.spinUpExpiry .runOut = true := by
        simp only [State.ready, Bool.and_eq_true] at ready
        exact ready.2
      exact ⟨_, (exec_named (.runOutExpiry, .runOut) (by decide) s).trans (congrArg _ (named_ready ready)), spinUp_begins due⟩
  · exact ⟨_, (exec_named (.warningTimeout, .warnTimeout) (by decide) s).trans (congrArg _ (named_ready ready)), warning_fails s⟩

end Sys2Proof.Machine
end

section
/-! The window that ends SPIN_UP (R107, R108). -/

namespace Sys2Proof.Machine

/-! ### The guidance unit's part of the tick -/

theorem Guidance.countWindow_isRaised (g : Guidance) (shown q : Prompt) : (g.countWindow shown).isRaised q = g.isRaised q := by
  simp only [Guidance.isRaised, Guidance.countWindow, List.any_map]
  congr 1
  funext e
  obtain ⟨name, lowering⟩ := Guidance.countWindow_entry shown e
  simp only [Function.comp, name, lowering]

theorem hornTick_prompts (p : Prompt) (s : State) : (hornTick p s).guidance.prompts = s.guidance.prompts := by
  unfold hornTick
  dsimp only
  split_ifs <;> rfl

theorem hornTick_pt0 (p : Prompt) (s : State) : (hornTick p s).timers.pt0 = s.timers.pt0 := by
  unfold hornTick
  dsimp only
  split_ifs <;> rfl

theorem guidanceTick8_pt0 (s : State) : (guidanceTick8 s).timers.pt0 = s.timers.pt0 := by
  unfold guidanceTick8
  split
  · rfl
  · rw [(composePanel_frame _).2.2.2.2.1]
    exact hornTick_pt0 _ _

/-- The tick raises and lowers nothing (R133). -/
theorem guidanceTick8_isRaised (s : State) (q : Prompt) : (guidanceTick8 s).guidance.isRaised q = s.guidance.isRaised q := by
  unfold guidanceTick8
  split
  · rfl
  · rename_i p _
    have prompts := (composePanel_prompts (hornTick p (s.setGuidance (s.guidance.countWindow p)))).trans (hornTick_prompts p _)
    have same (g h : Guidance) (eq : g.prompts = h.prompts) : g.isRaised q = h.isRaised q := by rw [Guidance.isRaised, eq]; rfl
    exact (same _ _ prompts).trans (Guidance.countWindow_isRaised s.guidance p q)

/-! ### The takers after the window -/

/-- What the takers that come after the window leave of a phase it has begun, its timer cancelled. -/
structure State.StaysBegun (s t : State) : Prop where
  phase : t.roller.phase = s.roller.phase
  motors : t.roller.motors = s.roller.motors
  pt0 : t.timers.pt0 = s.timers.pt0
  timer : s.timers.seqTimer.running = false → t.timers.seqTimer.running = false
  capture : t.capture = s.capture
  raised : ∀ q, t.guidance.isRaised q = s.guidance.isRaised q

theorem State.StaysBegun.after {r s t : State} (h₂ : s.StaysBegun t) (h₁ : r.StaysBegun s) : r.StaysBegun t where
  phase := h₂.phase.trans h₁.phase
  motors := h₂.motors.trans h₁.motors
  pt0 := h₂.pt0.trans h₁.pt0
  timer := fun still => h₂.timer (h₁.timer still)
  capture := h₂.capture.trans h₁.capture
  raised := fun q => (h₂.raised q).trans (h₁.raised q)

theorem tickTimers_stays (s : State) : s.StaysBegun (tickTimers s) where
  phase := rfl
  motors := rfl
  pt0 := rfl
  timer := fun still => by
    have ticked : s.timers.seqTimer.tick = s.timers.seqTimer := if_pos (by simp [still])
    exact (congrArg PhaseTimer.running ticked).trans still
  capture := rfl
  raised := fun _ => rfl

theorem sequenceTick_stays (s : State) : s.StaysBegun (takeTick8 s .sequence) := by
  obtain ⟨w, f, n, eq⟩ := takeTick8_sequence_eq s
  rw [eq]
  exact ⟨rfl, rfl, rfl, fun still => still, rfl, fun _ => rfl⟩

theorem guidanceTick8_stays (s : State) : s.StaysBegun (guidanceTick8 s) where
  phase := congrArg Roller.phase (guidanceTick8_same s).1
  motors := congrArg Roller.motors (guidanceTick8_same s).1
  pt0 := guidanceTick8_pt0 s
  timer := fun still => (congrArg PhaseTimer.running (guidanceTick8_timers s).1).trans still
  capture := (guidanceTick8_within s).1 .capture (by simp)
  raised := guidanceTick8_isRaised s

/-- In the order of R46's table the window comes first. -/
theorem tick8_stays (s : State) : (closeWindow (s.setClock s.clock.tick8)).StaysBegun (tick8 [] s) := by
  have order : takerOrder [] = [.pulseCounters, .phaseTimers, .sequence, .guidance] := by decide
  have run : tick8 [] s = guidanceTick8 (takeTick8 (tickTimers (closeWindow (s.setClock s.clock.tick8))) .sequence) := by
    rw [tick8, order]
    rfl
  rw [run]
  exact (guidanceTick8_stays _).after ((sequenceTick_stays _).after (tickTimers_stays _))

/-! ### The entry to ZERO (R108) -/

theorem writePhaseStreams_pt0 {s : State} (measures : s.measures = true) (pressure : Bool) :
    (writePhaseStreams .zero pressure s).timers.pt0 = ⟨499, 499, true⟩ := by
  have written : writePhaseStreams .zero pressure s = pacePhase .zero
      (writeStream .s0 (phaseStreams .zero pressure).1 (writeStream .s1 (phaseStreams .zero pressure).2 s)) := if_pos measures
  rw [written]
  rfl

/-- The station in ZERO, its streams written (R108). -/
theorem enterZero_begins {s : State} (measures : s.measures = true) :
    (enterZero s).timers.pt0 = ⟨499, 499, true⟩ ∧ (enterZero s).timers.seqTimer.running = false ∧
    (enterZero s).capture.s0.config = ⟨[0, 1], .pt0, .page, 64, true⟩ ∧ (enterZero s).capture.s0.running = true ∧
    (enterZero s).capture.s0.runNumber = (s.capture.s0.runNumber + 1) % 256 ∧ (enterZero s).guidance.isRaised .motorsStarting = false := by
  have still : (cancelSeqTimer s).measures = true := measures
  obtain ⟨config, running, run, -, -⟩ := writePhaseStreams_written still .zero false
  have timers : (enterZero s).timers = (writePhaseStreams .zero false (cancelSeqTimer s)).timers := by simp [enterZero]
  have capture : (enterZero s).capture = (writePhaseStreams .zero false (cancelSeqTimer s)).capture := by simp [enterZero]
  obtain ⟨pt, cancelled⟩ := enterZero_timers s
  rw [capture]
  refine ⟨by rw [timers]; exact writePhaseStreams_pt0 still false, by rw [cancelled]; rfl, config, running, run, ?_⟩
  simp [enterZero, lower_isRaised]

/-- The window whose sample reaches the spin-up threshold on both sides (R107). -/
theorem closeWindow_spins {s : State} (active : s.rollerActive = true) (phase : s.roller.phase = .spinUp)
    (succeeds : s.spinUpSucceeds s.counters.sample = true) : ∃ a : TestAcc, closeWindow s =
      (enterZero (s.setCounters s.counters.cleared)).setEval { (enterZero (s.setCounters s.counters.cleared)).eval with acc := a } := by
  have taken : closeWindow s = evalWindow s.counters.sample (rollerWindow s.counters.sample (s.setCounters s.counters.cleared)) :=
    if_pos active
  have window : rollerWindow s.counters.sample (s.setCounters s.counters.cleared) = enterZero (s.setCounters s.counters.cleared) := by
    have spins : (s.setCounters s.counters.cleared).roller.phase = .spinUp := phase
    unfold rollerWindow
    rw [spins]
    exact if_pos succeeds
  rw [taken, window]
  exact evalWindow_eq _ _

/-- The tick of a window at the spin-up threshold enters ZERO (R107, R108). -/
theorem spinUp_succeeds {s : State} (quiet : s.quiet = true) (active : s.rollerActive = true) (phase : s.roller.phase = .spinUp)
    (left : s.roller.fbL = true) (right : s.roller.fbR = true) {k : Calibration} (calib : s.eval.calib = some k)
    (fastL : 9 * k.nnom / 10 ≤ s.counters.dl) (fastR : 9 * k.nnom / 10 ≤ s.counters.dr) :
    Completes (.tick8Hz []) s (fun t => t.roller.phase = .zero ∧ t.roller.motors = s.roller.motors ∧
      t.timers.pt0 = ⟨499, 499, true⟩ ∧ t.timers.seqTimer.running = false ∧
      t.capture.s0.config = ⟨[0, 1], .pt0, .page, 64, true⟩ ∧ t.capture.s0.running = true ∧
      t.capture.s0.runNumber = (s.capture.s0.runNumber + 1) % 256 ∧ t.guidance.isRaised .motorsStarting = false ∧
      t.lane = s.lane ∧ t.archive = s.archive) := by
  have unexpired : s.timers.seqTimer.expired = false := by
    have notDue := (State.quiet_iff.mp quiet).2 .spinUpTimeout (by decide)
    simpa [State.isDue, State.rollerExpiry, active, phase] using notDue
  have succeeds : (s.setClock s.clock.tick8).spinUpSucceeds (s.setClock s.clock.tick8).counters.sample = true := by
    change s.spinUpSucceeds s.counters.sample = true
    unfold State.spinUpSucceeds
    rw [calib]
    simp [left, right, unexpired, Calibration.threshold, Counters.sample, fastL, fastR]
  have changes := tick8_changes [] s
  have stays := tick8_stays s
  obtain ⟨a, closed⟩ := closeWindow_spins (s := s.setClock s.clock.tick8) active phase succeeds
  rw [closed] at stays
  obtain ⟨r, before⟩ : ∃ r, r = (s.setClock s.clock.tick8).setCounters (s.setClock s.clock.tick8).counters.cleared := ⟨_, rfl⟩
  rw [← before] at stays
  have measures : r.measures = true := by
    rw [before]
    change s.eval.calib.isSome = true
    rw [calib]
    rfl
  have roller : r.roller = s.roller := by rw [before]; rfl
  have capture : r.capture = s.capture := by rw [before]; rfl
  obtain ⟨pt0, timer, config, running, run, lowered⟩ := enterZero_begins measures
  obtain ⟨-, -, zero⟩ := enterZero_frame r
  rw [capture] at run
  refine ⟨_, exec_outside_quiet quiet (tick8 []), ?_, ?_, stays.pt0.trans pt0, stays.timer timer, ?_, ?_, ?_, ?_, changes .lane (by simp),
    changes .archive (by simp)⟩
  · exact stays.phase.trans (congrArg Roller.phase zero)
  · have motors : (enterZero r).roller.motors = s.roller.motors := by rw [zero, roller]
    exact stays.motors.trans motors
  · rw [stays.capture]
    exact config
  · rw [stays.capture]
    exact running
  · rw [stays.capture]
    exact run
  · rw [stays.raised]
    exact lowered

end Sys2Proof.Machine
end

section
/-! Motor faults by the clock and the feedback lines, and the welded contactor (R98, R99, R114). -/

namespace Sys2Proof.Machine

/-! ### A fault taken (R114) -/

theorem Eval.discardTest_keeps (e : Eval) : e.discardTest.loads = e.loads ∧ e.discardTest.zt = e.zt := by
  unfold Eval.discardTest
  split <;> exact ⟨rfl, rfl⟩

/-- The entry to IDLE under a fault leaves what MOTOR_FAULT shows (R101, R114). -/
theorem enterIdle_shows {s : State} {f : PromptFields} (h : s.guidance.Shows .motorFault f) (k : Bool) :
    (enterIdle k s).guidance.Shows .motorFault f := by
  have lowered (r : State) (same : r.guidance = s.guidance) : (lowerAll idleLowers r).guidance.Shows .motorFault f :=
    lowerAll_shows (by rw [same]; exact h) (by decide)
  have missing (r : State) (shows : r.guidance.Shows .motorFault f) :
      (if r.measures then r else raise .calibrationMissing {} r).guidance.Shows .motorFault f := by
    split
    · exact shows
    · exact raise_shows_other shows (by simp) {}
  refine showDriveOn_shows (by simp) (missing _ (lowered _ ?_))
  cases k <;> simp

/-- The station in which a motor fault is shown, before IDLE is entered (R114). -/
def State.faultShown (cause : FaultCause) (s : State) : State :=
  raiseMotorFault cause (changeRoller (fun r => { r with faultHold := some cause }) (evalDiscardTest (motorStop s)))

theorem rollerFault_shown {s : State} (free : s.roller.faultHold = none) (cause : FaultCause) :
    rollerFault cause s = enterIdle true (s.faultShown cause) := if_neg (by simp [free])

/-- What a fault on a free sequence makes of the station (R114). -/
structure State.Faults (cause : FaultCause) (s t : State) : Prop where
  roller : t.roller = ({ s.roller.stopped with faultHold := some cause } : Roller).idled true
  loads : t.eval.loads = s.eval.loads
  zt : t.eval.zt = s.eval.zt
  stops : KeepsQueue (motorStop s) t
  shows : t.guidance.Shows .motorFault { cause := some cause }
  changes : s.onlyChanges [.bus, .timers, .capture, .eval, .roller, .guidance] t

theorem rollerFault_takes {s : State} (free : s.roller.faultHold = none) {cause : FaultCause} (motor : cause ≠ .sensor) :
    s.Faults cause (rollerFault cause s) := by
  obtain ⟨⟨-, -, -, lane, cert, -⟩, -⟩ := rollerFault_frame cause s
  obtain ⟨keptLoads, keptZero⟩ := s.eval.discardTest_keeps
  have context : SameContext s.eval.discardTest (rollerFault cause s).eval := by
    have idle := enterIdle_context true (s.faultShown cause)
    have discarded : (s.faultShown cause).eval = s.eval.discardTest := by simp [State.faultShown]
    rw [if_pos rfl, discarded] at idle
    rw [rollerFault_shown free]
    exact idle
  refine ⟨rollerFault_free cause s free, context.loads.trans keptLoads, context.zt.trans keptZero, ?_, ?_,
    (rollerFault_within cause s).sequenceChanges lane cert⟩
  · have shown : Within rollerBlocks (motorStop s) (s.faultShown cause) :=
      Within.after (raiseMotorFault_within _ _) (Within.after (changeRoller_within _ _) (setEval_roller _ _))
    rw [rollerFault_shown free]
    exact ((enterIdle_within true _).keepsQueue).after shown.keepsQueue
  · rw [rollerFault_shown free]
    refine enterIdle_shows ?_ true
    rw [State.faultShown, raiseMotorFault, if_neg motor]
    exact raise_shows _ _ _

theorem State.Faults.sequence {cause : FaultCause} {s t : State} (h : s.Faults cause t) : t.roller.phase = .idle ∧ t.roller.motors = false ∧
    t.roller.faultHold = some cause ∧ t.roller.fixed = s.roller.fixed ∧ t.roller.weighed = s.roller.weighed := by
  rw [h.roller]
  simp

theorem State.Faults.queues {cause : FaultCause} {s t : State} (h : s.Faults cause t) (on : s.roller.motors = true) :
    s.queues t (.rollersStopped s.roller.axle.ticket s.roller.axle.axle) := motorStop_queues rfl rfl on h.stops

/-! ### The two expiries of SPIN_UP (R98, R107) -/

theorem State.Geared.free_of_phase {s : State} (g : s.Geared) (working : s.roller.phase ≠ .idle) : s.roller.faultHold = none := by
  by_contra held
  exact working (g.resting (Or.inr (Or.inl (Option.isSome_iff_ne_none.mpr held))))

theorem spinUpFault_outcome {s : State} (law : s.motorLaw = true) {c : Instr} {d : Due} {cause : FaultCause}
    (event : (c, d, cause) ∈ [(Instr.spinUpTimeout, Due.spinUpTimeout, FaultCause.noSpinUp),
      (Instr.feedbackCountExpiry, Due.feedbackCount, FaultCause.noFeedback)]) (ready : s.ready d = true) :
    Completes c s (fun t => t.roller.phase = .idle ∧ t.roller.motors = false ∧ t.roller.faultHold = some cause ∧
        t.roller.fixed = s.roller.fixed ∧ t.roller.weighed = s.roller.weighed ∧
        (s.roller.motors = true → s.queues t (.rollersStopped s.roller.axle.ticket s.roller.axle.axle)) ∧
        (t.guidance.find .motorFault).map (·.fields) = some { cause := some cause } ∧
        s.onlyChanges [.bus, .timers, .capture, .eval, .roller, .guidance] t) := by
  obtain ⟨named, taken, spinUp, motor⟩ : (c, d) ∈ namedEvents ∧ takeDue s d = rollerFault cause s ∧ s.roller.phase = .spinUp ∧ cause ≠ .sensor := by
    simp only [List.mem_cons, List.not_mem_nil, or_false, Prod.mk.injEq] at event
    rcases event with ⟨rfl, rfl, rfl⟩ | ⟨rfl, rfl, rfl⟩
    · simp only [State.ready, State.isDue, State.rollerExpiry, Bool.and_eq_true, beq_iff_eq] at ready
      exact ⟨by decide, rfl, ready.2.2, by simp⟩
    · simp only [State.ready, State.isDue, Bool.and_eq_true, beq_iff_eq] at ready
      exact ⟨by decide, rfl, ready.2.1.1.2, by simp⟩
  have free := (State.motorLaw_iff.mp law).free_of_phase (by rw [spinUp]; simp)
  have faults := rollerFault_takes free motor
  obtain ⟨idle, still, held, fixed, weighed⟩ := faults.sequence
  refine ⟨_, (exec_named (c, d) named s).trans (congrArg _ ((named_ready ready).trans taken)), idle, still, held, fixed, weighed, faults.queues,
    faults.shows.find_fields, faults.changes⟩

/-! ### The welded contactor (R99) -/

theorem rollerStopped_cert (s : State) : (rollerStopped s).cert = s.cert := by
  unfold rollerStopped
  split
  · simp
  · simp
  · split <;> simp
  · simp

theorem plateStopped_cert (s : State) : (plateStopped s).cert = s.cert := by
  unfold plateStopped
  split <;> simp

theorem setLatch_cert (c : StopCause) (n : Nat) (s : State) : (setLatch c n s).cert = s.cert := by
  cases h : s.bus.latch.stopped with
  | true => simp [setLatch_stopped h]
  | false =>
    have reported (r : State) : (onPlate plateStopped (onRoller rollerStopped r)).cert = r.cert := by
      unfold onPlate onRoller
      split <;> split <;> simp [plateStopped_cert, rollerStopped_cert]
    simp [setLatch_moving h, reported]

/-- A welded contactor holds the sequence under its cause, whatever held it, and is shown (R99, R114). -/
theorem rollerFault_welds (s : State) : (rollerFault .welded s).roller.faultHold = some .welded ∧
    (rollerFault .welded s).guidance.Shows .motorFault { cause := some .welded } := by
  cases held : s.roller.faultHold with
  | none =>
    have faults := rollerFault_takes held (cause := .welded) (by simp)
    exact ⟨faults.sequence.2.2.1, faults.shows⟩
  | some c =>
    have taken : rollerFault .welded s =
        raise .motorFault { cause := some .welded } (s.setRoller { s.roller with faultHold := some .welded }) := by
      rw [rollerFault, if_pos (by simp [held])]
      rfl
    rw [taken]
    exact ⟨by simp, raise_shows _ _ _⟩

theorem weldedFound_sequence (s : State) : s.onlyChanges [.lane, .bus, .timers, .capture, .eval, .roller, .plate, .guidance] (weldedFound s) := by
  obtain ⟨⟨-, -, -, -, cert, -⟩, -⟩ := rollerFault_frame .welded s.weldStopped
  have stopped : s.weldStopped.cert = s.cert := (setLatch_cert _ _ _).trans (by simp)
  intro b other
  cases b with
  | cert => exact cert.trans stopped
  | lane | bus | timers | capture | eval | roller | plate | guidance => simp at other
  | _ => exact weldedFound_changes s _ (by simp)

theorem weldedContactor_outcome {s : State} (law : s.motorLaw = true) (ready : s.ready .welded = true) :
    Completes .weldedContactor s (fun t => t.roller.phase = .idle ∧ t.roller.motors = false ∧ t.roller.welded = true ∧
        t.roller.faultHold = some .welded ∧ s.queues t (.laneStop .contactor) ∧
        t.bus.latch = { s.bus.latch with stopped := true, cause := some .contactor, station := some s.startUp.ownNumber } ∧
        (t.guidance.find .motorFault).map (·.fields) = some { cause := some .welded } ∧
        s.onlyChanges [.lane, .bus, .timers, .capture, .eval, .roller, .plate, .guidance] t) := by
  have active : s.rollerActive = true := by
    simp only [State.ready, State.isDue, State.weldedDue, Bool.and_eq_true] at ready
    exact ready.2.1.1.1
  have seized := weldedFound_seized (State.motorLaw_iff.mp law) active
  obtain ⟨held, shows⟩ := rollerFault_welds s.weldStopped
  obtain ⟨⟨-, ⟨-, -, -, -, latch, -⟩, -⟩, -⟩ := rollerFault_frame .welded s.weldStopped
  have stop := stopLane_latch .contactor (s.setRoller { s.roller with welded := true })
  have queued : s.queues (weldedFound s) (.laneStop .contactor) :=
    queues_of_keeps (r := s.setRoller { s.roller with welded := true }) rfl rfl
      ((rollerFault_within .welded s.weldStopped).keepsQueue.after (setLatch_keepsQueue _ _ _))
  exact ⟨_, (exec_named (.weldedContactor, .welded) (by decide) s).trans (congrArg _ (named_ready ready)), seized.idle.1, seized.idle.2,
    seized.welded, held, queued, latch.trans stop, shows.find_fields, weldedFound_sequence s⟩

end Sys2Proof.Machine
end

section
/-! The feedback lines and the wheels on a running sequence (R98, R99, R115). -/

namespace Sys2Proof.Machine

/-- After the tick of the one line that changes the accepted levels are the sample's. -/
theorem levels_onlyLine {s r : State} {x : Samples} {l : Line} (only : s.onlyLine x l)
    (accepted : r.filter.accepted = setLine s.filter.accepted l (lineLevel x l)) (m : Line) :
    lineLevel r.filter.accepted m = lineLevel x m := by
  rw [accepted, lineLevel_setLine]
  by_cases here : m = l
  · rw [if_pos here, here]
  · rw [if_neg here, only.1 m here]

/-! ### The feedback lines (R98, R99) -/

/-- The roller items once both feedback lines are inactive, where they are (R99). -/
def Roller.unwelded (r : Roller) (fbL fbR : Bool) : Roller :=
  if r.welded = true ∧ fbL = false ∧ fbR = false then { r with welded := false, weldedCount := 0 } else r

theorem clearWelded_eq (s : State) : clearWelded s = s.setRoller (s.roller.unwelded s.filter.accepted.fbL s.filter.accepted.fbR) := by
  unfold clearWelded Roller.unwelded
  by_cases both : s.roller.welded = true ∧ s.filter.accepted.fbL = false ∧ s.filter.accepted.fbR = false
  · rw [if_pos both, if_pos (by simp [both])]
  · rw [if_neg both, if_neg (by simpa [and_assoc] using both)]
    rfl

theorem Roller.unwelded_fields (r : Roller) (fbL fbR : Bool) : (r.unwelded fbL fbR).phase = r.phase ∧ (r.unwelded fbL fbR).motors = r.motors ∧
    (r.unwelded fbL fbR).faultHold = r.faultHold ∧ (r.unwelded fbL fbR).fixed = r.fixed ∧ (r.unwelded fbL fbR).weighed = r.weighed := by
  unfold Roller.unwelded
  split <;> exact ⟨rfl, rfl, rfl, rfl, rfl⟩

/-- The feedback line of a side. -/
def feedbackLine (left : Bool) : Line := if left then .fbL else .fbR

/-- Whether a side is confirmed. -/
def Roller.confirmed (r : Roller) (left : Bool) : Bool := if left then r.fbL else r.fbR

/-- The outcome of the tick at which a feedback line alone changes. -/
theorem feedbackLine_outcome {s : State} {x : Samples} (left : Bool) (quiet : s.quiet = true) (active : s.rollerActive = true)
    (law : s.motorLaw = true) (only : s.onlyLine x (feedbackLine left)) (first : List Line) : Completes (.tick32Hz x first) s (fun t =>
      (lineLevel x (feedbackLine left) = true → s.roller.motors = true → s.onlyChanges [.clock, .filter, .roller] t ∧
        t.roller = { s.roller with fbL := s.roller.fbL || decide (feedbackLine left = .fbL), fbR := s.roller.fbR || decide (feedbackLine left = .fbR) }) ∧
      (lineLevel x (feedbackLine left) = true → s.roller.motors = false → s.onlyChanges [.clock, .filter] t) ∧
      (lineLevel x (feedbackLine left) = false → s.roller.motors = true → s.roller.confirmed left = true →
        t.roller.phase = .idle ∧ t.roller.motors = false ∧ t.roller.faultHold = some .dropout ∧ t.roller.fixed = s.roller.fixed ∧
        t.roller.weighed = s.roller.weighed ∧ t.eval.loads = s.eval.loads ∧ t.eval.zt = s.eval.zt ∧
        s.queues t (.rollersStopped s.roller.axle.ticket s.roller.axle.axle) ∧
        (t.guidance.find .motorFault).map (·.fields) = some { cause := some .dropout } ∧
        s.onlyChanges [.bus, .clock, .filter, .timers, .capture, .eval, .roller, .guidance] t) ∧
      (lineLevel x (feedbackLine left) = false → s.roller.motors = false ∨ s.roller.confirmed left = false →
        s.onlyChanges [.clock, .filter, .roller] t ∧ t.roller = s.roller.unwelded x.fbL x.fbR)) := by
  obtain ⟨r, g, sampled, accepted, run⟩ := exec_onlyLine quiet only first
  have works : r.rollerActive = true := sampled.rollerActive.trans active
  have sides : r.filter.accepted.fbL = x.fbL ∧ r.filter.accepted.fbR = x.fbR :=
    ⟨levels_onlyLine only accepted .fbL, levels_onlyLine only accepted .fbR⟩
  refine ⟨_, run, fun high on => ?_, fun high off => ?_, fun low on confirmed => ?_, fun low other => ?_⟩
  · rw [high]
    have event : lineEvent (feedbackLine left) true r = feedbackActive left r := by cases left <;> exact if_pos works
    have taken : feedbackActive left r = r.setRoller (if left then { r.roller with fbL := true } else { r.roller with fbR := true }) :=
      if_pos (by rw [sampled.roller, on])
    rw [event, taken]
    refine ⟨State.onlyChanges_mono (sampled.changes (Within.setRoller r _).1 g) (by simp), ?_⟩
    rw [sampled.roller]
    cases left <;> simp [feedbackLine]
  · rw [high]
    have event : lineEvent (feedbackLine left) true r = feedbackActive left r := by cases left <;> exact if_pos works
    have still : feedbackActive left r = r := if_neg (by simp [sampled.roller, off])
    rw [event, still]
    exact sampled.changes (r.onlyChanges_refl []) g
  · rw [low]
    have event : lineEvent (feedbackLine left) false r = feedbackInactive left r := by cases left <;> exact if_pos works
    have taken : feedbackInactive left r = clearWelded (rollerFault .dropout r) := by
      have drops : (r.roller.motors && r.roller.confirmed left) = true := by simp [sampled.roller, on, confirmed]
      exact congrArg clearWelded (if_pos drops)
    have free : s.roller.faultHold = none := by
      have gear := State.motorLaw_iff.mp law
      refine gear.free_of_phase fun idle => ?_
      exact absurd (gear.off (by simp [idle, Phase.turns])) (by simp [on])
    have faults := rollerFault_takes (s := r) (by rw [sampled.roller]; exact free) (cause := .dropout) (by simp)
    obtain ⟨idle, still, held, fixed, weighed⟩ := faults.sequence
    have queued := sampled.queues (faults.queues (by rw [sampled.roller]; exact on)) g
    rw [event, taken, clearWelded_eq]
    obtain ⟨phase', motors', hold', fixed', weighed'⟩ := (rollerFault .dropout r).roller.unwelded_fields
      (rollerFault .dropout r).filter.accepted.fbL (rollerFault .dropout r).filter.accepted.fbR
    rw [sampled.roller] at fixed weighed queued
    refine ⟨phase'.trans idle, motors'.trans still, hold'.trans held, fixed'.trans fixed, weighed'.trans weighed,
      faults.loads.trans (congrArg Eval.loads sampled.eval), faults.zt.trans (congrArg Eval.zt sampled.eval), queued, faults.shows.find_fields, ?_⟩
    exact State.onlyChanges_mono (sampled.changes (State.onlyChanges_after (State.onlyChanges_mono (Within.setRoller _ _).1 (by simp))
      faults.changes) g) (by simp)
  · rw [low]
    have event : lineEvent (feedbackLine left) false r = feedbackInactive left r := by cases left <;> exact if_pos works
    have taken : feedbackInactive left r = clearWelded r := by
      have stays : ¬(r.roller.motors && r.roller.confirmed left) = true := by
        rw [sampled.roller]
        rcases other with off | open' <;> simp [*]
      exact congrArg clearWelded (if_neg stays)
    rw [event, taken, clearWelded_eq, sides.1, sides.2]
    refine ⟨State.onlyChanges_mono (sampled.changes (Within.setRoller r _).1 g) (by simp), ?_⟩
    rw [sampled.roller]
    rfl

/-! ### The wheels (R115) -/

theorem Phase.needsWheels_iff {p : Phase} :
    p.needsWheels = true ↔ p ∈ [Phase.weigh, .positioned, .warn, .spinUp, .zero, .test] := by
  cases p <;> simp [Phase.needsWheels]

/-- The axle ended by a wheel that leaves: motors off, IDLE, nothing of the axle kept (R115). -/
theorem wheelsLeaving_ends {s : State} (needs : s.roller.phase.needsWheels = true) :
    (wheelsLeaving s).roller = s.roller.stopped.idled false ∧ SameContext s.eval.discardAxle (wheelsLeaving s).eval ∧
    s.AddsRoutine (wheelsLeaving s) ∧ KeepsQueue (motorStop s) (wheelsLeaving s) ∧
    s.onlyChanges [.bus, .timers, .capture, .eval, .roller, .guidance] (wheelsLeaving s) := by
  have ends : wheelsLeaving s = enterIdle false (motorStop s) := if_pos needs
  obtain ⟨⟨-, -, -, lane, cert, -⟩, -, roller⟩ := enterIdle_frame false (motorStop s)
  have context := enterIdle_context false (motorStop s)
  have within := wheelsLeaving_within s
  rw [ends] at within ⊢
  refine ⟨by rw [roller]; simp, by simpa using context, (enterIdle_adds _ _).after (motorStop_adds s),
    (enterIdle_within false _).keepsQueue, within.sequenceChanges (lane.trans (by simp)) (cert.trans (by simp))⟩

theorem wheelLine_outcome {s : State} {x : Samples} {l : Line} (wheel : l ∈ [Line.wheelL, .wheelR]) (quiet : s.quiet = true)
    (active : s.rollerActive = true) (only : s.onlyLine x l) (low : lineLevel x l = false) (first : List Line) :
    Completes (.tick32Hz x first) s (fun t =>
      (s.roller.phase ∈ [.weigh, .positioned, .warn, .spinUp, .zero, .test] → t.roller.phase = .idle ∧ t.roller.motors = false ∧
        t.roller.fixed = none ∧ t.roller.weighed = false ∧ t.eval.context = .noContext ∧ t.eval.loads = none ∧ t.eval.zt = none ∧
        t.eval.rr = none ∧ s.reportsNoAxle t ∧
        (s.roller.motors = true → s.queues t (.rollersStopped s.roller.axle.ticket s.roller.axle.axle)) ∧
        s.onlyChanges [.bus, .clock, .filter, .timers, .capture, .eval, .roller, .guidance] t) ∧
      (s.roller.phase ∈ [.idle, .stopping, .result, .exit] → s.onlyChanges [.clock, .filter] t)) := by
  obtain ⟨r, g, sampled, -, run⟩ := exec_onlyLine quiet only first
  have works : r.rollerActive = true := sampled.rollerActive.trans active
  have event : lineEvent l (lineLevel x l) r = wheelsLeaving r := by
    simp only [List.mem_cons, List.not_mem_nil, or_false] at wheel
    rw [low]
    rcases wheel with rfl | rfl <;> exact if_pos works
  rw [event] at run
  refine ⟨_, run, fun needs => ?_, fun rests => ?_⟩
  · obtain ⟨roller, context, routine, stops, changes⟩ := wheelsLeaving_ends (s := r) (by rw [sampled.roller]; exact Phase.needsWheels_iff.mpr needs)
    have items : ((wheelsLeaving r).setFilter g).roller = s.roller.stopped.idled false := by
      rw [← sampled.roller]
      exact roller
    have queued (on : s.roller.motors = true) := sampled.queues
      (motorStop_queues (s := r) (r := r) (t := wheelsLeaving r) rfl rfl (by rw [sampled.roller]; exact on) stops) g
    rw [sampled.roller] at queued
    refine ⟨?_, ?_, ?_, ?_, context.context, context.loads, context.zt, context.rr, sampled.reportsNoAxle routine g, queued,
      State.onlyChanges_mono (sampled.changes changes g) (by simp)⟩
    all_goals
      rw [items]
      simp
  · have stays : wheelsLeaving r = r := by
      refine if_neg ?_
      rw [sampled.roller, Phase.needsWheels_iff]
      intro needs
      simp only [List.mem_cons, List.not_mem_nil, or_false] at rests needs
      rcases rests with h | h | h | h <;> simp [h] at needs
    rw [stays]
    exact sampled.changes (r.onlyChanges_refl []) g

/-- Settles O45: the window that ends SPIN_UP, the lines, the expiries and the welded contactor. -/
theorem spinUpSucceedsOrFaults : Obligations.SpinUpSucceedsOrFaults := by
  refine ⟨fun s quiet active phase left right k calib fastL fastR => spinUp_succeeds quiet active phase left right calib fastL fastR,
    fun s x first quiet active law => ⟨fun l confirmed side only => ?_, fun l wheel only low => wheelLine_outcome wheel quiet active only low first⟩,
    fun s law => ⟨fun c d cause event ready => spinUpFault_outcome law event ready, weldedContactor_outcome law⟩⟩
  simp only [List.mem_cons, List.not_mem_nil, or_false, Prod.mk.injEq] at side
  rcases side with ⟨rfl, rfl⟩ | ⟨rfl, rfl⟩
  · exact feedbackLine_outcome true quiet active law only first
  · exact feedbackLine_outcome false quiet active law only first

end Sys2Proof.Machine
end

section
/-! The three ends of a test (R109, R110). -/

namespace Sys2Proof.Machine

/-! ### The record asked for and its report -/

/-- The report that may come at once with the record asked for, taken (R110). -/
def takeRecord (r : Option EvalReport) (s : State) : State :=
  match r with
  | some r => recordReport r s
  | none => s

/-- The station once STOPPING has begun, before the record is asked for (R110). -/
def State.stopBegun (reason : EndReason) (s : State) : State :=
  raise .releaseBrake { ticket := some s.roller.axle.ticket, axle := some s.roller.axle.axle } (lowerAll [.applyBrake, .applyParking]
    (evalEndTest (changeRoller (fun r => { r with phase := .stopping, rollDown := 0 })
      (cancelSeqTimer (writePhaseStreams .stopping false (motorStop (s.setRoller { s.roller with endReason := some reason })))))))

/-- The items of the sequence as STOPPING begins (R110). -/
def Roller.stoppedFor (r : Roller) (reason : EndReason) : Roller :=
  { ({ r with endReason := some reason } : Roller).stopped with phase := .stopping, rollDown := 0 }

theorem Roller.stoppedFor_fields (r : Roller) (reason : EndReason) : (r.stoppedFor reason).motors = false ∧
    (r.stoppedFor reason).phase = .stopping ∧ (r.stoppedFor reason).endReason = some reason ∧ (r.stoppedFor reason).rollDown = 0 ∧
    (r.stoppedFor reason).fixed = r.fixed ∧ (r.stoppedFor reason).faultHold = r.faultHold := by
  simp only [Roller.stoppedFor, Roller.stopped]
  cases r.motors <;> simp

theorem enterStopping_eq (reason : EndReason) (s : State) : enterStopping reason s =
    takeRecord (drain (s.stopBegun reason).capture (s.stopBegun reason).eval.requestRecord).2
      ((s.stopBegun reason).setEval (drain (s.stopBegun reason).capture (s.stopBegun reason).eval.requestRecord).1) := by
  obtain ⟨q, stopped⟩ : ∃ q, q = evalEndTest (changeRoller (fun r => { r with phase := .stopping, rollDown := 0 })
      (cancelSeqTimer (writePhaseStreams .stopping false (motorStop (s.setRoller { s.roller with endReason := some reason }))))) := ⟨_, rfl⟩
  have axle : q.roller.axle = s.roller.axle := by
    rw [stopped]
    simp [Roller.axle]
  have begun : s.stopBegun reason = raise .releaseBrake { ticket := some q.roller.axle.ticket, axle := some q.roller.axle.axle }
      (lowerAll [.applyBrake, .applyParking] q) := by
    rw [axle, stopped]
    rfl
  rw [begun, stopped]
  rfl

theorem drain_calib (c : Capture) (e : Eval) : (drain c e).1.calib = e.calib := by
  by_cases draining : e.context = .draining
  · by_cases asked : e.requested = true ∧ drained c e = true
    · rw [drain_gives draining asked.1 asked.2]
      rfl
    · rw [drain_waits draining (by rw [← Bool.not_eq_true]; exact not_and_or.mp asked)]
  · by_cases crossing : e.context = .crossingDrain
    · unfold drain
      rw [crossing]
      dsimp only
      split
      · split <;> rfl
      · rfl
    · rw [drain_other draining crossing]

/-! ### What a phase without recording leaves off -/

/-- S0 is OFF and PT0 stopped at the entry to a phase that does not record (R73). -/
theorem writePhaseStreams_stops {s : State} (measures : s.measures = true) {p : Phase} (silent : p = .stopping ∨ p = .idle) :
    (writePhaseStreams p false s).capture.s0.running = false ∧ (writePhaseStreams p false s).timers.pt0.running = false := by
  obtain ⟨-, running, -⟩ := writePhaseStreams_written measures p false
  have written : writePhaseStreams p false s =
      pacePhase p (writeStream .s0 (phaseStreams p false).1 (writeStream .s1 (phaseStreams p false).2 s)) := if_pos measures
  refine ⟨?_, ?_⟩
  · rw [running]
    rcases silent with rfl | rfl <;> rfl
  · rw [written]
    rcases silent with rfl | rfl <;> rfl

theorem enterIdle_off {s : State} (measures : s.measures = true) (k : Bool) : (enterIdle k s).capture.s0.running = false ∧
    (enterIdle k s).timers.pt0.running = false ∧ (enterIdle k s).timers.seqTimer.running = false := by
  have same : (enterIdle k s).capture = (writePhaseStreams .idle false s).capture ∧
      (enterIdle k s).timers.pt0 = (writePhaseStreams .idle false s).timers.pt0 := by
    unfold enterIdle
    dsimp only
    split <;> split <;> simp
  obtain ⟨pt, timers⟩ := enterIdle_timers k s
  obtain ⟨capture, pace⟩ := writePhaseStreams_stops measures (p := .idle) (Or.inr rfl)
  rw [same.1, same.2]
  exact ⟨capture, pace, by rw [timers]; rfl⟩

/-! ### STOPPING -/

/-- The end of a test as it stands, whichever report comes (R110). -/
structure State.Stops (reason : EndReason) (s t : State) : Prop where
  motors : t.roller.motors = false
  stream : t.capture.s0.running = false
  timer : t.timers.seqTimer.running = false
  pace : t.timers.pt0.running = false
  fixed : t.roller.fixed = s.roller.fixed
  phase : t.roller.phase = .stopping ∨ (t.roller.phase = .idle ∧ t.roller.faultHold = some .noRows)
  queued : KeepsQueue (motorStop (s.setRoller { s.roller with endReason := some reason })) t

theorem stopBegun_items (reason : EndReason) (s : State) : (s.stopBegun reason).roller = s.roller.stoppedFor reason ∧
    (s.stopBegun reason).lane = s.lane ∧ (s.stopBegun reason).cert = s.cert ∧
    (s.stopBegun reason).capture =
      (writePhaseStreams .stopping false (motorStop (s.setRoller { s.roller with endReason := some reason }))).capture ∧
    (s.stopBegun reason).timers = { (writePhaseStreams .stopping false
      (motorStop (s.setRoller { s.roller with endReason := some reason }))).timers with seqTimer := ⟨false, 0, false⟩ } ∧
    (s.stopBegun reason).eval =
      (writePhaseStreams .stopping false (motorStop (s.setRoller { s.roller with endReason := some reason }))).eval.endTest := by
  simp [State.stopBegun, Roller.stoppedFor]

theorem stopBegun_isRaised (reason : EndReason) (s : State) :
    (s.stopBegun reason).guidance.isRaised .releaseBrake = true ∧ (s.stopBegun reason).guidance.isRaised .applyBrake = false := by
  unfold State.stopBegun
  refine ⟨by simp [raise_isRaised], ?_⟩
  rw [raise_isRaised, lowerAll_isRaised _ _ _ (by decide)]
  simp

/-- The unit as STOPPING begins: the test ended, its accumulators standing (R77, R110). -/
theorem stopBegun_context (reason : EndReason) (s : State) : SameContext s.eval.endTest (s.stopBegun reason).eval := by
  have streams := writePhaseStreams_context .stopping false (motorStop (s.setRoller { s.roller with endReason := some reason }))
  have before : (motorStop (s.setRoller { s.roller with endReason := some reason })).eval = s.eval := by simp
  rw [before] at streams
  rw [(stopBegun_items reason s).2.2.2.2.2]
  obtain ⟨context, loads, zero, rolling, want0, want1, test, acc, requested, peak, calib⟩ := streams
  unfold Eval.endTest
  rw [context]
  split
  · exact ⟨rfl, loads, zero, rolling, want0, want1, test, acc, requested, peak, calib⟩
  · exact ⟨context, loads, zero, rolling, want0, want1, test, acc, requested, peak, calib⟩

theorem endTest_calib (e : Eval) : e.endTest.calib = e.calib := by
  unfold Eval.endTest
  split <;> rfl

theorem stopBegun_stops {s : State} (measures : s.measures = true) (reason : EndReason) (e : Eval) :
    s.Stops reason ((s.stopBegun reason).setEval e) := by
  obtain ⟨roller, -, -, capture, timers, -⟩ := stopBegun_items reason s
  obtain ⟨motors, phase, -, -, fixed, -⟩ := s.roller.stoppedFor_fields reason
  have measures' : (motorStop (s.setRoller { s.roller with endReason := some reason })).measures = true := by
    have eval : (motorStop (s.setRoller { s.roller with endReason := some reason })).eval = s.eval := by simp
    rw [State.measures, eval]
    exact measures
  obtain ⟨stream, pace⟩ := writePhaseStreams_stops measures' (p := .stopping) (Or.inl rfl)
  have begun : Within rollerBlocks (motorStop (s.setRoller { s.roller with endReason := some reason })) ((s.stopBegun reason).setEval e) :=
    Within.after (setEval_roller _ _) (Within.after (raise_roller _ _ _) (Within.after (lowerAll_roller _ _) (Within.after (setEval_roller _ _)
      (Within.after (changeRoller_within _ _) (Within.after (cancelSeqTimer_roller _) (writePhaseStreams_roller _ _ _))))))
  refine ⟨?_, ?_, ?_, ?_, ?_, Or.inl ?_, begun.keepsQueue⟩
  · exact (congrArg Roller.motors roller).trans motors
  · exact (congrArg (·.s0.running) capture).trans stream
  · exact congrArg (·.seqTimer.running) timers
  · exact (congrArg (·.pt0.running) timers).trans pace
  · exact (congrArg Roller.fixed roller).trans fixed
  · exact (congrArg Roller.phase roller).trans phase

/-- The report that comes at once, at a station whose STOPPING has begun (R110). -/
theorem recordReport_stops {s t : State} {reason : EndReason} (h : s.Stops reason t) (phase : t.roller.phase = .stopping)
    (free : t.roller.faultHold = none) (measures : t.measures = true) (r : EvalReport) : s.Stops reason (recordReport r t) := by
  cases r with
  | recordFormed rec =>
    have held : recordReport (.recordFormed rec) t = t.setRoller { t.roller with held := some rec } := if_neg (by simp [phase])
    have same : KeepsQueue t (t.setRoller { t.roller with held := some rec }) := .of_eq rfl
    rw [held]
    exact ⟨h.motors, h.stream, h.timer, h.pace, h.fixed, Or.inl phase, same.after h.queued⟩
  | noRows =>
    have faults := rollerFault_takes free (cause := .noRows) (by simp)
    obtain ⟨idle, still, held, fixed, -⟩ := faults.sequence
    have shown : (t.faultShown .noRows).measures = true := by
      have eval : (t.faultShown .noRows).eval = t.eval.discardTest := by simp [State.faultShown]
      have calib : t.eval.discardTest.calib = t.eval.calib := by
        unfold Eval.discardTest
        split <;> rfl
      rw [State.measures, eval, calib]
      exact measures
    obtain ⟨stream, pace, timer⟩ := enterIdle_off shown true
    rw [← rollerFault_shown free] at stream pace timer
    exact ⟨still, stream, timer, pace, fixed.trans h.fixed, Or.inr ⟨idle, held⟩, ((rollerFault_within .noRows t).keepsQueue).after h.queued⟩
  | weighFormed w => exact h
  | zeroFormed => exact h
  | slipFormed i => exact h

theorem enterStopping_stops {s : State} (measures : s.measures = true) (free : s.roller.faultHold = none) (reason : EndReason) :
    s.Stops reason (enterStopping reason s) := by
  obtain ⟨-, phase, -, -, -, hold⟩ := s.roller.stoppedFor_fields reason
  have roller := (stopBegun_items reason s).1
  obtain ⟨e, drains⟩ : ∃ e, e = (drain (s.stopBegun reason).capture (s.stopBegun reason).eval.requestRecord).1 := ⟨_, rfl⟩
  have calib : e.calib = s.eval.calib := by
    have asked (k : Eval) : k.requestRecord.calib = k.calib := by
      unfold Eval.requestRecord
      split <;> rfl
    rw [drains, drain_calib, asked, (stopBegun_context reason s).calib, endTest_calib]
  have begun := stopBegun_stops measures reason e
  rw [enterStopping_eq, ← drains]
  cases (drain (s.stopBegun reason).capture (s.stopBegun reason).eval.requestRecord).2 with
  | none => exact begun
  | some r =>
    refine recordReport_stops begun ((congrArg Roller.phase roller).trans phase) ?_ ?_ r
    · exact ((congrArg Roller.faultHold roller).trans hold).trans free
    · change e.calib.isSome = true
      rw [calib]
      exact measures

/-- A test with an evaluated row has a record to come: it stays in STOPPING under its reason (R88, R110). -/
theorem enterStopping_records {s : State} (rows : 0 < s.eval.acc.rows) (context : s.eval.context = .testing) (reason : EndReason) :
    (enterStopping reason s).roller.phase = .stopping ∧ (enterStopping reason s).roller.endReason = some reason ∧
    (enterStopping reason s).roller.rollDown = 0 ∧ (enterStopping reason s).guidance.isRaised .releaseBrake = true ∧
    (enterStopping reason s).guidance.isRaised .applyBrake = false := by
  obtain ⟨-, phase, ends, down, -, -⟩ := s.roller.stoppedFor_fields reason
  obtain ⟨released, lowered⟩ := stopBegun_isRaised reason s
  obtain ⟨x, begun⟩ : ∃ x, x = s.stopBegun reason := ⟨_, rfl⟩
  have roller : x.roller = s.roller.stoppedFor reason := by rw [begun, (stopBegun_items reason s).1]
  have same : SameContext s.eval.endTest x.eval := by rw [begun]; exact stopBegun_context reason s
  rw [Eval.endTest, if_pos context] at same
  have draining : x.eval.requestRecord.context = .draining := by
    rw [Eval.requestRecord, if_pos same.context]
    exact same.context
  have rows' : x.eval.requestRecord.acc.rows ≠ 0 := by
    rw [Eval.requestRecord, if_pos same.context]
    change x.eval.acc.rows ≠ 0
    rw [same.acc]
    exact rows.ne'
  rw [← begun] at released lowered
  rw [enterStopping_eq, ← begun]
  have stays (e : Eval) : (x.setEval e).roller.phase = .stopping ∧ (x.setEval e).roller.endReason = some reason ∧
      (x.setEval e).roller.rollDown = 0 := by
    change x.roller.phase = _ ∧ x.roller.endReason = _ ∧ x.roller.rollDown = _
    rw [roller]
    exact ⟨phase, ends, down⟩
  by_cases gives : x.eval.requestRecord.requested = true ∧ drained x.capture x.eval.requestRecord = true
  · rw [drain_gives draining gives.1 gives.2, if_neg rows']
    obtain ⟨phase', ends', down'⟩ := stays x.eval.requestRecord.recorded
    have held (rec : FormedRecord) : takeRecord (some (.recordFormed rec)) (x.setEval x.eval.requestRecord.recorded) =
        (x.setEval x.eval.requestRecord.recorded).setRoller
          { (x.setEval x.eval.requestRecord.recorded).roller with held := some rec } := if_neg (by rw [phase']; simp)
    dsimp only
    rw [held]
    exact ⟨phase', ends', down', released, lowered⟩
  · rw [drain_waits draining (by rw [← Bool.not_eq_true]; exact not_and_or.mp gives)]
    obtain ⟨phase', ends', down'⟩ := stays x.eval.requestRecord
    exact ⟨phase', ends', down', released, lowered⟩

end Sys2Proof.Machine
end

section
/-! ### The ends of a test, settled -/

namespace Sys2Proof.Machine

theorem recordReport_tables {s : State} (other : s.roller.phase ≠ .result) (r : EvalReport) :
    (recordReport r s).lane = s.lane ∧ (recordReport r s).cert = s.cert := by
  cases r with
  | recordFormed rec =>
    have held : recordReport (.recordFormed rec) s = s.setRoller { s.roller with held := some rec } := if_neg other
    rw [held]
    exact ⟨rfl, rfl⟩
  | noRows =>
    obtain ⟨⟨-, -, -, lane, cert, -⟩, -⟩ := rollerFault_frame .noRows s
    exact ⟨lane, cert⟩
  | weighFormed w => exact ⟨rfl, rfl⟩
  | zeroFormed => exact ⟨rfl, rfl⟩
  | slipFormed i => exact ⟨rfl, rfl⟩

theorem enterStopping_changes (reason : EndReason) (s : State) :
    s.onlyChanges [.bus, .timers, .capture, .eval, .roller, .guidance] (enterStopping reason s) := by
  have tables : (enterStopping reason s).lane = s.lane ∧ (enterStopping reason s).cert = s.cert := by
    obtain ⟨roller, lane, cert, -⟩ := stopBegun_items reason s
    obtain ⟨-, phase, -⟩ := s.roller.stoppedFor_fields reason
    rw [enterStopping_eq]
    obtain ⟨e, record⟩ : ∃ e, e = (drain (s.stopBegun reason).capture (s.stopBegun reason).eval.requestRecord).1 := ⟨_, rfl⟩
    rw [← record]
    cases (drain (s.stopBegun reason).capture (s.stopBegun reason).eval.requestRecord).2 with
    | none => exact ⟨lane, cert⟩
    | some r =>
      have stopping : ((s.stopBegun reason).setEval e).roller.phase = .stopping := (congrArg Roller.phase roller).trans phase
      obtain ⟨sameLane, sameCert⟩ := recordReport_tables (s := (s.stopBegun reason).setEval e) (by rw [stopping]; simp) r
      exact ⟨sameLane.trans lane, sameCert.trans cert⟩
  exact (enterStopping_within reason s).sequenceChanges tables.1 tables.2

/-- What the end of a test makes of the station (R110). -/
structure State.EndsTest (reason : EndReason) (s t : State) : Prop where
  motors : t.roller.motors = false
  stream : t.capture.s0.running = false
  timer : t.timers.seqTimer.running = false
  pace : t.timers.pt0.running = false
  fixed : t.roller.fixed = s.roller.fixed
  queued : s.roller.motors = true → s.queues t (.rollersStopped s.roller.axle.ticket s.roller.axle.axle)
  phase : t.roller.phase = .stopping ∨ (t.roller.phase = .idle ∧ t.roller.faultHold = some .noRows)
  records : 0 < s.eval.acc.rows → s.eval.context = .testing → t.roller.phase = .stopping ∧ t.roller.endReason = some reason ∧
    t.roller.rollDown = 0 ∧ t.guidance.isRaised .releaseBrake = true ∧ t.guidance.isRaised .applyBrake = false
  changes : s.onlyChanges [.bus, .timers, .capture, .eval, .roller, .guidance] t

theorem enterStopping_ends {s : State} (measures : s.measures = true) (free : s.roller.faultHold = none) (reason : EndReason) :
    s.EndsTest reason (enterStopping reason s) := by
  have stops := enterStopping_stops measures free reason
  have queued (on : s.roller.motors = true) : s.queues (enterStopping reason s) (.rollersStopped s.roller.axle.ticket s.roller.axle.axle) :=
    motorStop_queues (r := s.setRoller { s.roller with endReason := some reason }) rfl rfl on stops.queued
  exact ⟨stops.motors, stops.stream, stops.timer, stops.pace, stops.fixed, queued, stops.phase,
    fun rows context => enterStopping_records rows context reason, enterStopping_changes reason s⟩

/-- The report that ends a test is taken out of the accumulators before (R109). -/
theorem State.EndsTest.report {reason : EndReason} {s t : State} {a : TestAcc} (h : (s.setEval { s.eval with acc := a }).EndsTest reason t)
    (rows : a.rows = s.eval.acc.rows) : s.EndsTest reason t where
  motors := h.motors
  stream := h.stream
  timer := h.timer
  pace := h.pace
  fixed := h.fixed
  queued := h.queued
  phase := h.phase
  records := fun evaluated => h.records (rows.symm ▸ evaluated)
  changes := State.onlyChanges_after h.changes (State.onlyChanges_mono (Within.setEval s _).1 (by simp))

/-- A release or slip stop report in TEST, and outside it (R109, R110). -/
theorem testReport_outcome {s : State} {a : TestAcc} (law : s.motorLaw = true) (measures : s.measures = true)
    (rows : a.rows = s.eval.acc.rows) (reason : EndReason) :
    (s.roller.phase = .test → s.EndsTest reason (testReport reason (s.setEval { s.eval with acc := a }))) ∧
    (s.roller.phase ≠ .test → s.onlyChanges [.eval] (testReport reason (s.setEval { s.eval with acc := a })) ∧
      (testReport reason (s.setEval { s.eval with acc := a })).eval.context = s.eval.context) := by
  refine ⟨fun test => ?_, fun other => ?_⟩
  · have taken : testReport reason (s.setEval { s.eval with acc := a }) = enterStopping reason (s.setEval { s.eval with acc := a }) := if_pos test
    have free : s.roller.faultHold = none := (State.motorLaw_iff.mp law).free_of_phase (by rw [test]; simp)
    rw [taken]
    exact (enterStopping_ends (s := s.setEval { s.eval with acc := a }) measures free reason).report rows
  · have stays : testReport reason (s.setEval { s.eval with acc := a }) = s.setEval { s.eval with acc := a } := if_neg other
    rw [stays]
    exact ⟨(Within.setEval s _).1, rfl⟩

/-- The three events that end a test, as their due events take them. -/
theorem takeDue_endsTest {s : State} (law : s.motorLaw = true) (measures : s.measures = true) {c : Instr} {d : Due} {reason : EndReason}
    (event : (c, d, reason) ∈ [(Instr.testTimeLimit, Due.testLimit, EndReason.time), (Instr.release, Due.release, EndReason.release),
      (Instr.slipStop, Due.slipStop, EndReason.slip)]) (due : s.isDue d = true) :
    (c, d) ∈ namedEvents ∧ (s.roller.phase = .test → s.EndsTest reason (takeDue s d)) ∧
    (s.roller.phase ≠ .test → s.onlyChanges [.eval] (takeDue s d) ∧ (takeDue s d).eval.context = s.eval.context) := by
  simp only [List.mem_cons, List.not_mem_nil, or_false, Prod.mk.injEq] at event
  rcases event with ⟨rfl, rfl, rfl⟩ | ⟨rfl, rfl, rfl⟩ | ⟨rfl, rfl, rfl⟩
  · have test : s.roller.phase = .test := by
      simp only [State.isDue, State.rollerExpiry, Bool.and_eq_true, beq_iff_eq] at due
      exact due.2
    have free : s.roller.faultHold = none := (State.motorLaw_iff.mp law).free_of_phase (by rw [test]; simp)
    exact ⟨by decide, fun _ => enterStopping_ends measures free .time, fun other => absurd test other⟩
  · exact ⟨by decide, testReport_outcome (a := { s.eval.acc with releaseDue := false }) law measures rfl .release⟩
  · exact ⟨by decide, testReport_outcome (a := { s.eval.acc with slipDue := false }) law measures rfl .slip⟩

/-- Settles O46: the three events, in TEST and outside it. -/
theorem testEndsUnderItsReason : Obligations.TestEndsUnderItsReason := by
  intro s law measures c d reason event ready
  have due : s.isDue d = true := by
    simp only [State.ready, Bool.and_eq_true] at ready
    exact ready.2
  obtain ⟨named, ends, ignored⟩ := takeDue_endsTest law measures event due
  have run : exec c s = .next (takeDue s d) := (exec_named (c, d) named s).trans (congrArg _ (named_ready ready))
  refine ⟨fun test => ⟨_, run, ?_⟩, fun other => ⟨_, run, ignored other⟩⟩
  obtain ⟨motors, stream, timer, pace, fixed, queued, phase, records, changes⟩ := ends test
  exact ⟨motors, stream, timer, pace, fixed, queued, phase, records, changes⟩

end Sys2Proof.Machine
end

section
/-! The result written, and the axle that leaves (R110 to R112). -/

namespace Sys2Proof.Machine

/-! ### The entry to RESULT -/

/-- The station in RESULT, before a held record is written (R110). -/
def State.resultBegun (s : State) : State :=
  changeRoller (fun r => { r with phase := .result, wheelCount := 0 }) (writePhaseStreams .result false s)

theorem enterResult_eq (s : State) : enterResult s = writeResult s.resultBegun := rfl

theorem resultBegun_items (s : State) : s.resultBegun.roller = { s.roller with phase := .result, wheelCount := 0 } ∧
    s.resultBegun.lane = s.lane ∧ s.resultBegun.guidance = s.guidance ∧ s.resultBegun.bus.canQueue = s.bus.canQueue := by
  refine ⟨by simp [State.resultBegun], by simp [State.resultBegun], by simp [State.resultBegun], ?_⟩
  have within : Within rollerBlocks s s.resultBegun := Within.after (changeRoller_within _ _) (writePhaseStreams_roller _ _ s)
  have mode := within.sameBus.1
  unfold Bus.canQueue
  rw [mode]

/-- What AXLE_RESULT shows of a record (R111). -/
def resultFields (a : FixedAxle) (rec : FormedRecord) (reason : EndReason) : PromptFields :=
  { ticket := some a.ticket, axle := some a.axle, kind := some rec.kind, fmax := some rec.figures.fmax, fref := rec.figures.fref
    imbalance := rec.figures.imbalance, endReason := some reason }

/-- The station once a held record has been taken and queued (R111). -/
def State.resultQueued (s : State) (rec : FormedRecord) : State :=
  queueFrame (.brakeResult s.roller.axle.ticket s.roller.axle.axle rec.kind (s.roller.endReason.getD .time) rec.load rec.figures)
    (takeResult s.roller.axle.ticket s.roller.axle.axle (resultOf rec (s.roller.endReason.getD .time)) s)

theorem writeResult_held {s : State} {rec : FormedRecord} (held : s.roller.held = some rec) : writeResult s =
    raise .axleResult (resultFields s.roller.axle rec (s.roller.endReason.getD .time))
      (lower .releaseBrake ((s.resultQueued rec).setRoller { (s.resultQueued rec).roller with resultWritten := true })) := by
  unfold writeResult
  rw [held]
  rfl

theorem writeResult_none {s : State} (none : s.roller.held = none) : writeResult s = s := by
  unfold writeResult
  rw [none]

/-- An accepted result stands at its entry (R14). -/
theorem takeResult_stands {s : State} {n axle : Nat} {e : Entry} (found : s.lane.find n = some e) (takes : e.takesResults = true)
    (low : 1 ≤ axle) (high : axle ≤ e.axleCount) (r : AxleResult) :
    (takeResult n axle r s).lane.find n = some (e.afterResult axle r s.slipRequired) := by
  have taken : (takeResult n axle r s).lane = s.lane.update n fun _ => e.afterResult axle r s.slipRequired := by
    simp only [takeResult, LaneView.live_of found takes low high]
    exact storeTested_lane _ _ s
  have ticket := ticket_of_find found
  rw [taken, find_update fun x _ _ => by rw [Entry.afterResult_ticket, ticket], found]
  simp

theorem writeResult_isRaised {s : State} {rec : FormedRecord} (held : s.roller.held = some rec) :
    (writeResult s).guidance.isRaised .axleResult = true ∧ (writeResult s).guidance.isRaised .releaseBrake = false := by
  rw [writeResult_held held]
  simp [raise_isRaised, lower_isRaised]

theorem writeResult_queues {s : State} {rec : FormedRecord} (held : s.roller.held = some rec) : s.queues (writeResult s)
    (.brakeResult s.roller.axle.ticket s.roller.axle.axle rec.kind (s.roller.endReason.getD .time) rec.load rec.figures) := by
  have can : (takeResult s.roller.axle.ticket s.roller.axle.axle (resultOf rec (s.roller.endReason.getD .time)) s).bus.canQueue =
      s.bus.canQueue := by
    have mode := (takeResult_within s.roller.axle.ticket s.roller.axle.axle (resultOf rec (s.roller.endReason.getD .time)) s).sameBus.1
    unfold Bus.canQueue
    rw [mode]
  refine queues_of_keeps can rfl ?_
  rw [writeResult_held held]
  have written : KeepsQueue (s.resultQueued rec)
      ((s.resultQueued rec).setRoller { (s.resultQueued rec).roller with resultWritten := true }) := .of_eq rfl
  exact (raise_within _ _ _).keepsQueue.after ((lower_within _ _).keepsQueue.after written)

theorem writeResult_lane {s : State} {rec : FormedRecord} (held : s.roller.held = some rec) : (writeResult s).lane =
    (takeResult s.roller.axle.ticket s.roller.axle.axle (resultOf rec (s.roller.endReason.getD .time)) s).lane := by
  rw [writeResult_held held]
  simp [State.resultQueued]

/-- A service record taken at its entry, within the ranges of section 2.6 (R14, R111). -/
theorem writeResult_entry {s : State} {rec : FormedRecord} (held : s.roller.held = some rec) {e : Entry}
    (found : s.lane.find s.roller.axle.ticket = some e) (open' : e.state = .registered ∨ e.state = .inLane) (service : rec.kind = .service)
    {a : AxleRecord} (here : e.axle? s.roller.axle.axle = some a) (high : s.roller.axle.axle ≤ e.axleCount) :
    ∃ x, (writeResult s).lane.find s.roller.axle.ticket = some x ∧ ∃ y, x.axle? s.roller.axle.axle = some y ∧
      y.parking = a.parking ∧ y.slip = a.slip ∧ ∃ b, y.service = some b ∧ b.endReason = s.roller.endReason.getD .time ∧
        b.figures.fmax = ⟨min 6000 rec.figures.fmax.l, min 6000 rec.figures.fmax.r⟩ := by
  have takes : e.takesResults = true := Entry.takesResults_iff.mpr (by rcases open' with h | h <;> simp [h])
  have low : 1 ≤ s.roller.axle.axle := by
    by_contra zero
    have none : e.axle? s.roller.axle.axle = none := if_pos (by omega)
    exact absurd (here.symm.trans none) (by simp)
  have stands := takeResult_stands found takes low high (resultOf rec (s.roller.endReason.getD .time))
  refine ⟨_, (congrArg (·.find s.roller.axle.ticket) (writeResult_lane held)).trans stands, _,
    (Entry.afterResult_axle? here _ _ _).trans (if_pos rfl), ?_⟩
  have kind : resultOf rec (s.roller.endReason.getD .time) = .brake .service ⟨rec.figures, s.roller.endReason.getD .time⟩ rec.load := by
    rw [resultOf, service]
  rw [kind]
  exact ⟨rfl, rfl, _, rfl, rfl, rfl⟩

theorem rollDown_outcome {s : State} (ready : s.ready .rollDown = true) :
    Completes .rollDownComplete s (fun t => t.roller.phase = .result ∧ t.roller.motors = s.roller.motors ∧
        t.roller.wheelCount = 0 ∧ t.roller.fixed = s.roller.fixed ∧
        (s.roller.held = none → t.roller.resultWritten = s.roller.resultWritten ∧ t.lane = s.lane) ∧
        (∀ h, s.roller.held = some h → t.roller.resultWritten = true ∧ t.guidance.isRaised .axleResult = true ∧
          t.guidance.isRaised .releaseBrake = false ∧
          s.queues t (.brakeResult s.roller.axle.ticket s.roller.axle.axle h.kind (s.roller.endReason.getD .time) h.load h.figures) ∧
          (∀ e, s.lane.find s.roller.axle.ticket = some e → (e.state = .registered ∨ e.state = .inLane) → h.kind = .service →
            ∀ a, e.axle? s.roller.axle.axle = some a → s.roller.axle.axle ≤ e.axleCount →
            ∃ x, t.lane.find s.roller.axle.ticket = some x ∧ ∃ y, x.axle? s.roller.axle.axle = some y ∧
              y.parking = a.parking ∧ y.slip = a.slip ∧ ∃ b, y.service = some b ∧ b.endReason = s.roller.endReason.getD .time ∧
                b.figures.fmax = ⟨min 6000 h.figures.fmax.l, min 6000 h.figures.fmax.r⟩))) := by
  obtain ⟨-, -, -, -, -, items⟩ := enterResult_frame s
  obtain ⟨roller, lane, -, can⟩ := resultBegun_items s
  obtain ⟨x, begun⟩ : ∃ x, x = s.resultBegun := ⟨_, rfl⟩
  have enters : enterResult s = writeResult x := by rw [begun]; rfl
  rw [← begun] at roller lane can
  have axle : x.roller.axle = s.roller.axle := by rw [roller]; rfl
  have reason : x.roller.endReason = s.roller.endReason := by rw [roller]
  have record : x.roller.held = s.roller.held := by rw [roller]
  refine ⟨_, (exec_named (.rollDownComplete, .rollDown) (by decide) s).trans (congrArg _ (named_ready ready)), congrArg Roller.phase items,
    by rw [takeDue, items], congrArg Roller.wheelCount items, by rw [takeDue, items], fun none => ?_, fun h held => ?_⟩
  · have still : enterResult s = x := enters.trans (writeResult_none (record.trans none))
    refine ⟨?_, ?_⟩
    · rw [takeDue, still, roller]
    · rw [takeDue, still, lane]
  · have held' : x.roller.held = some h := record.trans held
    obtain ⟨shown, lowered⟩ := writeResult_isRaised held'
    have queued := writeResult_queues held'
    have entry := fun e (found : x.lane.find x.roller.axle.ticket = some e) open' service a here high =>
      writeResult_entry held' (e := e) found open' service (a := a) here high
    rw [axle, reason] at queued
    rw [axle, reason, lane] at entry
    have written : (enterResult s).roller.resultWritten = true := by rw [items]; simp [held]
    rw [takeDue]
    refine ⟨written, ?_⟩
    rw [enters]
    refine ⟨shown, lowered, ?_, fun e found open' service a here high => entry e found open' service a here high⟩
    exact fun open' room => queued (can.trans open') room

/-! ### The axle leaves (R112) -/

theorem axleLeft_changes (s : State) : s.onlyChanges [.lane, .bus, .timers, .capture, .eval, .roller, .guidance] (axleLeft s) := by
  obtain ⟨-, -, -, -, cert, -⟩ := axleLeft_frame s
  intro b other
  cases b with
  | cert => exact cert
  | lane | bus | timers | capture | eval | roller | guidance => simp at other
  | _ => exact (axleLeft_within s).1 _ (by simp)

theorem axleLeft_queues (s : State) : s.queues (axleLeft s) (.axleEvent s.roller.axle.ticket s.roller.axle.axle .left .roller) := by
  have reported : KeepsQueue (queueFrame (.axleEvent s.roller.axle.ticket s.roller.axle.axle .left .roller) s)
      (localAxleEvent s.roller.axle .left .roller s) := .of_eq rfl
  exact queues_of_keeps (r := s) rfl rfl ((enterIdle_within false _).keepsQueue.after reported)

/-- The prompts and the unit's context after an axle has left (R77, R101, R112). -/
theorem axleLeft_clears (s : State) : (axleLeft s).eval.context = .noContext ∧ (axleLeft s).eval.loads = none ∧ (axleLeft s).eval.zt = none ∧
    (axleLeft s).guidance.isRaised .driveOff = false := by
  have context := enterIdle_context false (localAxleEvent s.roller.axle .left .roller s)
  have driveOff := enterIdle_isRaised (q := .driveOff) (by simp) (by simp) false (localAxleEvent s.roller.axle .left .roller s)
  unfold axleLeft
  exact ⟨context.context, context.loads, context.zt, driveOff.trans (by simp [idleLowers])⟩

theorem axleLeaves_outcome {s : State} (ready : s.ready .axleLeaves = true) :
    Completes .axleLeaves s (fun t => t.roller.phase = .idle ∧ t.roller.fixed = none ∧ t.roller.weighed = false ∧
        t.roller.motors = s.roller.motors ∧ s.queues t (.axleEvent s.roller.axle.ticket s.roller.axle.axle .left .roller) ∧
        t.lane = s.lane.axleEvent s.roller.axle.ticket s.roller.axle.axle .left .roller ∧
        t.eval.context = .noContext ∧ t.eval.loads = none ∧ t.eval.zt = none ∧ t.guidance.isRaised .driveOff = false ∧
        s.onlyChanges [.lane, .bus, .timers, .capture, .eval, .roller, .guidance] t) := by
  obtain ⟨-, -, -, -, -, -, lane, roller⟩ := axleLeft_frame s
  obtain ⟨context, loads, zero, driveOff⟩ := axleLeft_clears s
  obtain ⟨phase, motors, -, fixed, weighed, -⟩ := s.roller.idled_fields false
  have run : exec .axleLeaves s = .next (axleLeft s) :=
    (exec_named (.axleLeaves, .axleLeaves) (by decide) s).trans (congrArg _ (named_ready ready))
  refine ⟨_, run, ?_⟩
  dsimp only
  rw [roller]
  exact ⟨phase, fixed, weighed, motors, axleLeft_queues s, lane, context, loads, zero, driveOff, axleLeft_changes s⟩

/-- Settles O47: the roll-down's end and the axle that leaves. -/
theorem resultIsWrittenAndTheAxleLeaves : Obligations.ResultIsWrittenAndTheAxleLeaves :=
  fun _ => ⟨rollDown_outcome, axleLeaves_outcome⟩

end Sys2Proof.Machine
end

section
/-! The START, NEXT and REPEAT keys by phase (R104, R105, R111, R112). -/

namespace Sys2Proof.Machine

/-! ### The entry to WARN (R105) -/

theorem panelPeers_eq (s : State) : s.panelPeers = (s.bus.peers.filter fun p => p.role = some .panel).map (·.station) := by
  exact congrArg (List.map _) (List.filter_congr fun p _ => Bool.eq_iff_iff.mpr (by simp))

theorem enterWarn_timer (s : State) : (enterWarn s).timers.seqTimer = ⟨true, if s.panelPeers = [] then 24 else 16, false⟩ := by
  have peers (r : State) (same : r.bus.peers = s.bus.peers) : (warnWaitOf r.panelPeers).2 = if s.panelPeers = [] then 24 else 16 := by
    have panels : r.panelPeers = s.panelPeers := by rw [State.panelPeers, same]; rfl
    rw [panels, warnWaitOf]
    cases s.panelPeers <;> rfl
  have started (n : Nat) (r : State) (many : 1 ≤ n) : (startSeqTimer n r).timers.seqTimer = ⟨true, n, false⟩ := by
    simp [Nat.max_eq_right many]
  unfold enterWarn
  dsimp only
  rw [peers]
  · exact started _ _ (by split <;> omega)
  · simp

theorem enterWarn_queues (s : State) :
    s.queues (enterWarn s) (.motorWarning s.roller.axle.ticket s.roller.axle.axle s.roller.kind) := by
  have can : (cancelSeqTimer (writePhaseStreams .warn false s)).bus.canQueue = s.bus.canQueue := by simp
  have kind : (cancelSeqTimer (writePhaseStreams .warn false s)).roller.kind = s.roller.kind := by simp
  rw [← kind]
  refine queues_of_keeps can rfl ?_
  exact (startSeqTimer_roller _ _).keepsQueue.after ((changeRoller_within _ _).keepsQueue.after ((raise_roller _ _ _).keepsQueue.after
    (lowerAll_roller _ _).keepsQueue))

theorem enterWarn_enters (s : State) : s.entersWarn (enterWarn s) s.roller.kind := by
  obtain ⟨⟨-, -, -, lane, -, -⟩, -, roller⟩ := enterWarn_frame s
  have timer := enterWarn_timer s
  have raised := enterWarn_isRaised .motorsStarting s
  have brake := enterWarn_isRaised .applyBrake s
  have parking := enterWarn_isRaised .applyParking s
  have result := enterWarn_isRaised .axleResult s
  have queued := enterWarn_queues s
  unfold State.entersWarn
  rw [roller]
  exact ⟨rfl, rfl, rfl, rfl, lane, panelPeers_eq s, timer, queued, raised.trans (by simp), brake.trans (by simp), parking.trans (by simp),
    result.trans (by simp), rfl, rfl⟩

/-- The entry to WARN as a state with the same axle, motors, table and bus sees it. -/
theorem State.entersWarn.seen {s r t : State} {k : TestKind} (h : r.entersWarn t k) (fixed : r.roller.fixed = s.roller.fixed)
    (motors : r.roller.motors = s.roller.motors) (lane : r.lane = s.lane) (peers : r.bus.peers = s.bus.peers)
    (can : r.bus.canQueue = s.bus.canQueue) (g : Filter) : s.entersWarn (t.setFilter g) k := by
  have axle : r.roller.axle = s.roller.axle := by rw [Roller.axle, fixed]; rfl
  obtain ⟨phase, kind, fixed', motors', lane', awaited, timer, queued, prompts⟩ := h
  rw [peers] at awaited
  rw [axle] at queued
  exact ⟨phase, kind, fixed'.trans fixed, motors'.trans motors, lane'.trans lane, awaited, timer, fun open' room => queued (can.trans open') room,
    prompts⟩

/-! ### The entry to EXIT (R112) -/

theorem enterExit_enters (s : State) : s.entersExit (enterExit s) ∧ (enterExit s).roller.motors = s.roller.motors ∧ (enterExit s).lane = s.lane := by
  obtain ⟨⟨-, -, -, lane, -, -⟩, -, roller⟩ := enterExit_frame s
  have raised := enterExit_isRaised .driveOff s
  have brake := enterExit_isRaised .applyBrake s
  have parking := enterExit_isRaised .applyParking s
  have result := enterExit_isRaised .axleResult s
  unfold State.entersExit
  rw [roller]
  exact ⟨⟨rfl, rfl, rfl, raised.trans (by simp), result.trans (by simp), brake.trans (by simp), parking.trans (by simp)⟩, rfl, lane⟩

/-! ### The keys -/

theorem owesParking_iff {s : State} : s.owesParking = true ↔ s.parkingTestOwed := by
  unfold State.owesParking State.parkingTestOwed
  cases s.lane.find s.roller.axle.ticket with
  | none => simp
  | some e =>
    have held : e.hasParking s.roller.axle.axle = false ↔ (e.axle? s.roller.axle.axle).bind (·.parking) = none := by
      rw [← Bool.not_eq_true, Entry.hasParking_iff]
      simp
    simp [held]

/-- The tick at which a key of the sequence is pressed: the key, on the state that the tick finds. -/
theorem keyTick {s : State} {x : Samples} {l : Line} (quiet : s.quiet = true) (active : s.rollerActive = true) (only : s.onlyLine x l)
    (high : lineLevel x l = true) (first : List Line) {f : State → State} (event : ∀ r, lineEvent l true r = onRoller f r) :
    ∃ (r : State) (g : Filter), Sampled s r ∧ exec (.tick32Hz x first) s = .next ((f r).setFilter g) := by
  obtain ⟨r, g, sampled, -, run⟩ := exec_onlyLine quiet only first
  have works : r.rollerActive = true := sampled.rollerActive.trans active
  have taken : onRoller f r = f r := if_pos works
  rw [high, event, taken] at run
  exact ⟨r, g, sampled, run⟩

theorem keyStart_outcome {s : State} {x : Samples} {first : List Line} (quiet : s.quiet = true) (active : s.rollerActive = true)
    (only : s.onlyLine x .keyStart) (high : x.keyStart = true) : Completes (.tick32Hz x first) s (fun t =>
      (s.roller.phase ≠ .positioned → s.onlyChanges [.clock, .filter] t) ∧
      (s.roller.phase = .positioned → s.entersWarn t s.roller.kind)) := by
  obtain ⟨r, g, sampled, run⟩ := keyTick quiet active only high first (f := keyStart) fun _ => rfl
  refine ⟨_, run, fun other => ?_, fun positioned => ?_⟩
  · have stays : keyStart r = r := if_neg (by rw [sampled.roller]; exact other)
    rw [stays]
    exact sampled.changes (r.onlyChanges_refl []) g
  · have enters : keyStart r = enterWarn (lower .panelNotResponding r) := if_pos (by rw [sampled.roller]; exact positioned)
    have begun := enterWarn_enters (lower .panelNotResponding r)
    have roller : (lower .panelNotResponding r).roller = s.roller := by rw [← sampled.roller]; simp
    have bus : (lower .panelNotResponding r).bus.peers = s.bus.peers ∧ (lower .panelNotResponding r).bus.canQueue = s.bus.canQueue := by
      rw [← sampled.bus]
      simp
    have lane : (lower .panelNotResponding r).lane = s.lane := by rw [← sampled.lane]; simp
    rw [enters]
    rw [roller] at begun
    exact begun.seen (by rw [roller]) (by rw [roller]) lane bus.1 bus.2 g

theorem Sampled.entersWarn {s r t : State} {k : TestKind} (h : Sampled s r) (begun : r.entersWarn t k) (g : Filter) :
    s.entersWarn (t.setFilter g) k :=
  begun.seen (by rw [h.roller]) (by rw [h.roller]) h.lane (by rw [h.bus]) (by rw [h.bus]) g

theorem Sampled.entersExit {s r : State} (h : Sampled s r) (g : Filter) : s.entersExit ((enterExit r).setFilter g) ∧
    ((enterExit r).setFilter g).roller.motors = s.roller.motors ∧ ((enterExit r).setFilter g).lane = s.lane := by
  obtain ⟨begun, motors, lane⟩ := enterExit_enters r
  generalize enterExit r = t at begun motors lane
  unfold State.entersExit at begun ⊢
  rw [h.roller] at begun motors
  exact ⟨begun, motors, lane.trans h.lane⟩

theorem keyRepeat_outcome {s : State} {x : Samples} {first : List Line} (quiet : s.quiet = true) (active : s.rollerActive = true)
    (only : s.onlyLine x .keyRepeat) (high : x.keyRepeat = true) : Completes (.tick32Hz x first) s (fun t =>
      (s.roller.phase ≠ .result ∨ s.roller.resultWritten = false → s.onlyChanges [.clock, .filter] t) ∧
      (s.roller.phase = .result → s.roller.resultWritten = true → s.entersWarn t s.roller.kind)) := by
  obtain ⟨r, g, sampled, run⟩ := keyTick quiet active only high first (f := keyRepeat) fun _ => rfl
  refine ⟨_, run, fun other => ?_, fun result written => ?_⟩
  · have stays : keyRepeat r = r := by
      refine if_neg ?_
      rw [sampled.roller]
      rcases other with other | unwritten <;> simp [*]
    rw [stays]
    exact sampled.changes (r.onlyChanges_refl []) g
  · have enters : keyRepeat r = enterWarn r := if_pos (by simp [sampled.roller, result, written])
    have begun := enterWarn_enters r
    rw [enters]
    rw [sampled.roller] at begun
    exact sampled.entersWarn begun g

/-- The NEXT key by its cases (R104, R111). -/
theorem keyNext_cases (s : State) :
    (s.roller.phase ≠ .positioned → (s.roller.phase ≠ .result ∨ s.roller.resultWritten = false) → keyNext s = s) ∧
    (s.roller.phase = .positioned → keyNext s = enterExit s) ∧
    (s.roller.phase = .result → s.roller.resultWritten = true → s.parkingTestOwed →
      keyNext s = enterWarn (s.setRoller { s.roller with kind := .parking })) ∧
    (s.roller.phase = .result → s.roller.resultWritten = true → ¬s.parkingTestOwed → keyNext s = enterExit s) := by
  have result (phase : s.roller.phase = .result) : keyNext s = if !s.roller.resultWritten then s
      else if s.owesParking then enterWarn (s.setRoller { s.roller with kind := .parking }) else enterExit s := by
    unfold keyNext
    rw [phase]
  refine ⟨fun away other => ?_, fun positioned => ?_, fun phase written owed => ?_, fun phase written free => ?_⟩
  · rcases other with off | unwritten
    · unfold keyNext
      split
      · rename_i positioned
        exact absurd positioned away
      · rename_i phase
        exact absurd phase off
      · rfl
    · by_cases phase : s.roller.phase = .result
      · rw [result phase, if_pos (by simp [unwritten])]
      · unfold keyNext
        split
        · rename_i positioned
          exact absurd positioned away
        · rename_i here
          exact absurd here phase
        · rfl
  · unfold keyNext
    rw [positioned]
  · rw [result phase, if_neg (by simp [written]), if_pos (owesParking_iff.mpr owed)]
  · rw [result phase, if_neg (by simp [written]), if_neg (mt owesParking_iff.mp free)]

theorem keyNext_outcome {s : State} {x : Samples} {first : List Line} (quiet : s.quiet = true) (active : s.rollerActive = true)
    (only : s.onlyLine x .keyNext) (high : x.keyNext = true) : Completes (.tick32Hz x first) s (fun t =>
      (s.roller.phase ≠ .positioned → (s.roller.phase ≠ .result ∨ s.roller.resultWritten = false) →
        s.onlyChanges [.clock, .filter] t) ∧
      (s.roller.phase = .positioned → s.entersExit t ∧ t.roller.motors = s.roller.motors ∧ t.lane = s.lane) ∧
      (s.roller.phase = .result → s.roller.resultWritten = true → s.parkingTestOwed → s.entersWarn t .parking) ∧
      (s.roller.phase = .result → s.roller.resultWritten = true → ¬s.parkingTestOwed →
        s.entersExit t ∧ t.roller.motors = s.roller.motors ∧ t.lane = s.lane)) := by
  obtain ⟨r, g, sampled, run⟩ := keyTick quiet active only high first (f := keyNext) fun _ => rfl
  obtain ⟨stays, leaves, parks, ends⟩ := keyNext_cases r
  have owed : r.parkingTestOwed ↔ s.parkingTestOwed := by rw [State.parkingTestOwed, sampled.roller, sampled.lane]; rfl
  rw [sampled.roller] at stays leaves ends
  rw [owed] at parks ends
  refine ⟨_, run, fun away other => ?_, fun positioned => ?_, fun phase written owes => ?_, fun phase written free => ?_⟩
  · rw [stays away other]
    exact sampled.changes (r.onlyChanges_refl []) g
  · rw [leaves positioned]
    exact sampled.entersExit g
  · have begun := enterWarn_enters (r.setRoller { r.roller with kind := .parking })
    rw [parks (by rw [sampled.roller]; exact phase) (by rw [sampled.roller]; exact written) owes]
    exact begun.seen (by rw [← sampled.roller]; rfl) (by rw [← sampled.roller]; rfl) sampled.lane
      (congrArg Bus.peers sampled.bus) (congrArg Bus.canQueue sampled.bus) g
  · rw [ends phase written free]
    exact sampled.entersExit g

end Sys2Proof.Machine
end

section
/-! The ABORT key by phase and hold (R113, R114, R118). -/

namespace Sys2Proof.Machine

/-! ### The one-off requests (R72) -/

theorem Converter.discardOf_oneOff {v : Converter} {i : StreamId} {n : Nat} (h : v.discardOf i = .oneOff n) : v = .oneOff n := by
  unfold Converter.discardOf at h
  split at h
  · split at h <;> cases h
  · exact h
  · exact h

/-- A phase's streams neither clear an input nor begin a one-off conversion (R59, R72). -/
structure Capture.SameWork (c d : Capture) : Prop where
  faulted : d.faulted = c.faulted
  oneOff : ∀ n, d.converter = .oneOff n → c.converter = .oneOff n

theorem Capture.SameWork.refl (c : Capture) : c.SameWork c := ⟨rfl, fun _ h => h⟩

theorem Capture.SameWork.after {b c d : Capture} (k : c.SameWork d) (h : b.SameWork c) : b.SameWork d :=
  ⟨k.faulted.trans h.faulted, fun n e => h.oneOff n (k.oneOff n e)⟩

theorem writeStream_work (i : StreamId) (k : StreamConfig) (s : State) : s.capture.SameWork (writeStream i k s).capture := by
  have stopped : s.capture.SameWork (stopStream i (s.capture, s.eval)).1 := by
    unfold stopStream
    dsimp only
    split
    · have same := (handOver_same { s.capture.setStream i (s.capture.stream i).stop with
        converter := s.capture.converter.discardOf i } s.eval).1
      obtain ⟨-, faulted, -⟩ := s.capture.setStream_rest i (s.capture.stream i).stop
      exact ⟨same.faulted.trans faulted, fun n taking => Converter.discardOf_oneOff (same.converter.symm.trans taking)⟩
    · exact .refl _
  have written (x : Stream) := (stopStream i (s.capture, s.eval)).1.setStream_rest i x
  have configured (x : Stream) : (stopStream i (s.capture, s.eval)).1.SameWork ((stopStream i (s.capture, s.eval)).1.setStream i x) :=
    ⟨(written x).2.1, fun n taking => (written x).2.2.2.2.symm.trans taking⟩
  exact (configured _).after stopped

theorem writePhaseStreams_work (p : Phase) (pressure : Bool) (s : State) :
    s.capture.SameWork (writePhaseStreams p pressure s).capture := by
  unfold writePhaseStreams
  dsimp only
  split
  · rw [pacePhase_capture]
    exact (writeStream_work _ _ _).after (writeStream_work _ _ s)
  · exact .refl _

theorem enterIdle_work (k : Bool) (s : State) : s.capture.SameWork (enterIdle k s).capture := by
  have same : (enterIdle k s).capture = (writePhaseStreams .idle false s).capture := by
    unfold enterIdle
    dsimp only
    split <;> split <;> simp
  rw [same]
  exact writePhaseStreams_work _ _ s

theorem enterPositioned_work (s : State) : s.capture.SameWork (enterPositioned s).capture := by
  have same : (enterPositioned s).capture = (writePhaseStreams .positioned false s).capture := by simp [enterPositioned]
  rw [same]
  exact writePhaseStreams_work _ _ s

/-- The one-off requests with an input's added, unless the converter is taking it (R72; log entry 37). -/
def Capture.askOneOff (c : Capture) (due : List Nat) (n : Nat) : List Nat := if c.converter = .oneOff n then due else addNat n due

theorem Capture.askOneOff_keeps {c : Capture} {n : Nat} {due : List Nat} (m : Nat) (asked : n ∈ due) : n ∈ c.askOneOff due m := by
  unfold Capture.askOneOff
  split
  · exact asked
  · exact mem_addNat.mpr (Or.inr asked)

theorem foldl_askOneOff_keeps {c : Capture} {n : Nat} (l : List Nat) {due : List Nat} (asked : n ∈ due) : n ∈ l.foldl c.askOneOff due := by
  induction l generalizing due with
  | nil => exact asked
  | cons m ms ih => exact ih (Capture.askOneOff_keeps m asked)

theorem foldl_askOneOff_asks {c : Capture} {n : Nat} (free : c.converter ≠ .oneOff n) {l : List Nat} (listed : n ∈ l) (due : List Nat) :
    n ∈ l.foldl c.askOneOff due := by
  induction l generalizing due with
  | nil => exact absurd listed (by simp)
  | cons m ms ih =>
    rcases List.mem_cons.mp listed with rfl | later
    · have added : n ∈ c.askOneOff due n := by
        rw [Capture.askOneOff, if_neg free]
        exact mem_addNat.mpr (Or.inl rfl)
      exact foldl_askOneOff_keeps ms added
    · exact ih later _

/-- The ABORT key asks for a one-off conversion of each FAULTED input, but of the one that the converter is taking (R72; log entry 37). -/
theorem Capture.abortKey_requests (c : Capture) {n : Nat} (faulted : n ∈ c.faulted) : n ∈ c.abortKey.oneOffs ∨ c.converter = .oneOff n := by
  by_cases taking : c.converter = .oneOff n
  · exact Or.inr taking
  · exact Or.inl (foldl_askOneOff_asks taking faulted c.oneOffs)

/-! ### The key without a hold (R113) -/

theorem Phase.inTest_iff {p : Phase} : p.inTest = true ↔ p ∈ [Phase.warn, .spinUp, .zero, .test, .stopping] := by
  cases p <;> simp [Phase.inTest]

/-- The station whose test an ABORT gives up, before POSITIONED is entered (R113). -/
def State.testDropped (s : State) : State :=
  (evalDiscardTest (motorStop s)).setRoller
    { (evalDiscardTest (motorStop s)).roller with held := none, endReason := none, resultWritten := false }

theorem rollerAbort_running {s : State} (free : s.roller.faultHold = none) (running : s.roller.phase.inTest = true) :
    rollerAbort s = enterPositioned s.testDropped := by
  unfold rollerAbort
  rw [free]
  exact if_pos running

theorem rollerAbort_resting {s : State} (free : s.roller.faultHold = none) (resting : ¬s.roller.phase.inTest = true) : rollerAbort s = s := by
  unfold rollerAbort
  rw [free]
  exact if_neg resting

theorem testDropped_items (s : State) : s.testDropped.roller = { s.roller.stopped with held := none, endReason := none, resultWritten := false } ∧
    s.testDropped.eval = s.eval.discardTest ∧ s.testDropped.capture = s.capture ∧ s.testDropped.lane = s.lane := by
  simp [State.testDropped]

/-- An aborted test: POSITIONED with motors off and no record, the loads and the static zero kept (R113). -/
theorem rollerAbort_aborts {s : State} (free : s.roller.faultHold = none) (running : s.roller.phase.inTest = true) :
    (rollerAbort s).roller.phase = .positioned ∧ (rollerAbort s).roller.motors = false ∧ (rollerAbort s).roller.held = none ∧
    (rollerAbort s).roller.endReason = none ∧ (rollerAbort s).roller.resultWritten = false ∧ (rollerAbort s).eval.loads = s.eval.loads ∧
    (rollerAbort s).eval.zt = s.eval.zt ∧
    (s.roller.motors = true → s.queues (rollerAbort s) (.rollersStopped s.roller.axle.ticket s.roller.axle.axle)) := by
  obtain ⟨items, discarded, -, -⟩ := testDropped_items s
  obtain ⟨-, -, roller⟩ := enterPositioned_frame s.testDropped
  have context := enterPositioned_context s.testDropped
  obtain ⟨loads, zero⟩ := s.eval.discardTest_keeps
  have dropped : Within rollerBlocks (motorStop s) s.testDropped := Within.after (setRoller_within _ _) (setEval_roller _ _)
  rw [discarded] at context
  rw [items] at roller
  rw [rollerAbort_running free running, roller]
  refine ⟨rfl, ?_, rfl, rfl, rfl, context.loads.trans loads, context.zt.trans zero, fun on => ?_⟩
  · simp
  · exact motorStop_queues (r := s) rfl rfl on ((enterPositioned_within _).keepsQueue.after dropped.keepsQueue)

/-! ### The key under a hold (R114, R118) -/

/-- The station with its hold released, before a phase is entered (R114). -/
def State.unheld (s : State) : State := lower .motorFault (changeRoller (fun r => { r with faultHold := none }) s)

theorem unheld_items (s : State) : s.unheld.roller = { s.roller with faultHold := none } ∧ s.unheld.capture = s.capture ∧
    s.unheld.lane = s.lane ∧ s.unheld.filter = s.filter ∧ s.unheld.bus.latch = s.bus.latch ∧
    s.unheld.guidance.isRaised .motorFault = false := by
  simp [State.unheld, lower_isRaised]

/-- A released axle may be tested again: weighed, not sent off, both wheels there, in a lane that is not stopped (R114, R118). -/
def State.mayGoOn (s : State) : Prop :=
  s.roller.weighed = true ∧ s.roller.releaseOwed = false ∧ s.filter.accepted.wheelL = true ∧ s.filter.accepted.wheelR = true ∧
  s.bus.latch.stopped = false

theorem releaseHold_stays {cause : FaultCause} {s : State} (welded : cause = .welded ∧ s.roller.welded = true) : releaseHold cause s = s :=
  if_pos (by simp [welded])

theorem releaseHold_releases {cause : FaultCause} {s : State} (other : ¬(cause = .welded ∧ s.roller.welded = true)) :
    (s.mayGoOn → releaseHold cause s = enterPositioned s.unheld) ∧ (¬s.mayGoOn → releaseHold cause s = enterIdle false s.unheld) := by
  obtain ⟨roller, -, -, filter, latch, -⟩ := unheld_items s
  have goesOn : (s.unheld.roller.weighed && !s.unheld.roller.releaseOwed && s.unheld.filter.accepted.wheelL &&
      s.unheld.filter.accepted.wheelR && !s.unheld.bus.latch.stopped) = true ↔ s.mayGoOn := by
    rw [roller, filter, latch, State.mayGoOn]
    simp [and_assoc]
  have released : releaseHold cause s = if s.unheld.roller.weighed && !s.unheld.roller.releaseOwed && s.unheld.filter.accepted.wheelL &&
      s.unheld.filter.accepted.wheelR && !s.unheld.bus.latch.stopped then enterPositioned s.unheld else enterIdle false s.unheld :=
    if_neg (by simpa using other)
  rw [released]
  exact ⟨fun may => if_pos (goesOn.mpr may), fun may => if_neg (mt goesOn.mp may)⟩

/-- What a release of the hold leads to (R114, R118). -/
structure State.Released (s t : State) : Prop where
  free : t.roller.faultHold = none
  shown : t.guidance.isRaised .motorFault = false
  goes : s.mayGoOn → t.roller.phase = .positioned ∧ t.roller.fixed = s.roller.fixed ∧ t.roller.weighed = true
  ends : ¬s.mayGoOn → t.roller.phase = .idle ∧ t.roller.fixed = none ∧ t.roller.weighed = false ∧ t.roller.releaseOwed = false
  work : s.capture.SameWork t.capture
  lane : t.lane = s.lane

theorem releaseHold_released {cause : FaultCause} {s : State} (other : ¬(cause = .welded ∧ s.roller.welded = true)) :
    s.Released (releaseHold cause s) := by
  obtain ⟨roller, capture, lane, -, -, lowered⟩ := unheld_items s
  obtain ⟨positions, idles⟩ := releaseHold_releases other
  by_cases may : s.mayGoOn
  · obtain ⟨⟨-, -, -, sameLane, -, -⟩, -, items⟩ := enterPositioned_frame s.unheld
    have work := enterPositioned_work s.unheld
    have prompts := enterPositioned_isRaised .motorFault s.unheld
    rw [roller] at items prompts
    rw [capture] at work
    rw [positions may]
    refine ⟨by rw [items], prompts.trans ?_, fun _ => ⟨by rw [items], by rw [items], by rw [items]; exact may.1⟩, fun no => absurd may no, work,
      sameLane.trans lane⟩
    rw [lowered]
    cases s.roller.kind <;> simp [applyPrompt]
  · obtain ⟨⟨-, -, -, sameLane, -, -⟩, -, items⟩ := enterIdle_frame false s.unheld
    have work := enterIdle_work false s.unheld
    have prompts := enterIdle_isRaised (q := .motorFault) (by simp) (by simp) false s.unheld
    rw [roller] at items
    rw [capture] at work
    rw [idles may]
    refine ⟨by rw [items]; simp, prompts.trans (by rw [lowered]; rfl), fun yes => absurd yes may, fun _ => ?_, work, sameLane.trans lane⟩
    rw [items]
    simp

theorem rollerAbort_held {s : State} {cause : FaultCause} (held : s.roller.faultHold = some cause) : rollerAbort s = releaseHold cause s := by
  unfold rollerAbort
  rw [held]

/-- The key leaves the lane table, the FAULTED inputs and the conversion under way, whatever holds (R113, R114). -/
theorem rollerAbort_work (s : State) : s.capture.SameWork (rollerAbort s).capture ∧ (rollerAbort s).lane = s.lane := by
  cases held : s.roller.faultHold with
  | none =>
    by_cases running : s.roller.phase.inTest = true
    · obtain ⟨-, -, capture, lane⟩ := testDropped_items s
      obtain ⟨⟨-, -, -, sameLane, -, -⟩, -, -⟩ := enterPositioned_frame s.testDropped
      have work := enterPositioned_work s.testDropped
      rw [capture] at work
      rw [rollerAbort_running held running]
      exact ⟨work, sameLane.trans lane⟩
    · rw [rollerAbort_resting held running]
      exact ⟨.refl _, rfl⟩
  | some cause =>
    rw [rollerAbort_held held]
    by_cases welded : cause = .welded ∧ s.roller.welded = true
    · rw [releaseHold_stays welded]
      exact ⟨.refl _, rfl⟩
    · have released := releaseHold_released welded
      exact ⟨released.work, released.lane⟩

end Sys2Proof.Machine
end

section
/-! ### The keys, settled -/

namespace Sys2Proof.Machine

theorem abortKey_roller {s : State} (active : s.rollerActive = true) :
    abortKey s = (rollerAbort s).setCapture (rollerAbort s).capture.abortKey := by
  have taken : onRoller rollerAbort s = rollerAbort s := if_pos active
  have works : (onRoller rollerAbort s).rollerActive = true := by
    have within := onRoller_within rollerAbort_within s
    rw [← active]
    exact State.rollerActive_congr (within.same .power (by simp)) (within.same .startUp (by simp))
  unfold abortKey
  dsimp only
  rw [onPlate_of_roller works, taken]

theorem keyAbort_outcome {s : State} {x : Samples} {first : List Line} (quiet : s.quiet = true) (active : s.rollerActive = true)
    (only : s.onlyLine x .keyAbort) (high : x.keyAbort = true) : Completes (.tick32Hz x first) s (fun t =>
        (s.roller.faultHold = none → s.roller.phase ∈ [.warn, .spinUp, .zero, .test, .stopping] →
          t.roller.phase = .positioned ∧ t.roller.motors = false ∧ t.roller.held = none ∧ t.roller.endReason = none ∧
          t.roller.resultWritten = false ∧ t.eval.loads = s.eval.loads ∧ t.eval.zt = s.eval.zt ∧
          (s.roller.motors = true → s.queues t (.rollersStopped s.roller.axle.ticket s.roller.axle.axle))) ∧
        (s.roller.faultHold = none → s.roller.phase ∈ [.idle, .weigh, .positioned, .result, .exit] → t.roller = s.roller) ∧
        (s.roller.faultHold = some .welded → s.roller.welded = true → t.roller = s.roller) ∧
        (∀ cause, s.roller.faultHold = some cause → ¬(cause = .welded ∧ s.roller.welded = true) →
          t.roller.faultHold = none ∧ t.guidance.isRaised .motorFault = false ∧
          t.roller.phase = (if s.roller.weighed = true ∧ s.roller.releaseOwed = false ∧ s.filter.accepted.wheelL = true ∧
            s.filter.accepted.wheelR = true ∧ s.bus.latch.stopped = false then .positioned else .idle) ∧
          (t.roller.phase = .positioned → t.roller.fixed = s.roller.fixed ∧ t.roller.weighed = true) ∧
          (t.roller.phase = .idle → t.roller.fixed = none ∧ t.roller.weighed = false ∧ t.roller.releaseOwed = false)) ∧
        (∀ n ∈ s.capture.faulted, n ∈ t.capture.oneOffs ∨ s.capture.converter = .oneOff n) ∧ t.lane = s.lane) := by
  obtain ⟨r, g, sampled, accepted, run⟩ := exec_onlyLine quiet only first
  have works : r.rollerActive = true := sampled.rollerActive.trans active
  have event : lineEvent .keyAbort (lineLevel x .keyAbort) r = (rollerAbort r).setCapture (rollerAbort r).capture.abortKey := by
    have pressed : lineLevel x .keyAbort = true := high
    rw [pressed]
    exact abortKey_roller works
  rw [event] at run
  obtain ⟨work, lane⟩ := rollerAbort_work r
  refine ⟨_, run, fun free running => ?_, fun free resting => ?_, fun held welded => ?_, fun cause held other => ?_, fun n faulted => ?_,
    lane.trans sampled.lane⟩
  · obtain ⟨phase, motors, record, reason, written, loads, zero, queued⟩ := rollerAbort_aborts (s := r) (by rw [sampled.roller]; exact free)
      (by rw [sampled.roller]; exact Phase.inTest_iff.mpr running)
    rw [sampled.roller] at queued
    exact ⟨phase, motors, record, reason, written, loads.trans (congrArg Eval.loads sampled.eval), zero.trans (congrArg Eval.zt sampled.eval),
      fun on => sampled.queues (queued on) g⟩
  · have stays : rollerAbort r = r := by
      refine rollerAbort_resting (by rw [sampled.roller]; exact free) ?_
      rw [sampled.roller, Phase.inTest_iff]
      intro running
      simp only [List.mem_cons, List.not_mem_nil, or_false] at resting running
      rcases resting with h | h | h | h | h <;> simp [h] at running
    exact (congrArg State.roller stays).trans sampled.roller
  · have stays : rollerAbort r = r := by
      rw [rollerAbort_held (by rw [sampled.roller]; exact held)]
      exact releaseHold_stays ⟨rfl, by rw [sampled.roller]; exact welded⟩
    exact (congrArg State.roller stays).trans sampled.roller
  · have wheels : r.filter.accepted.wheelL = s.filter.accepted.wheelL ∧ r.filter.accepted.wheelR = s.filter.accepted.wheelR := by
      rw [accepted]
      exact ⟨rfl, rfl⟩
    have may : r.mayGoOn ↔ (s.roller.weighed = true ∧ s.roller.releaseOwed = false ∧ s.filter.accepted.wheelL = true ∧
        s.filter.accepted.wheelR = true ∧ s.bus.latch.stopped = false) := by
      rw [State.mayGoOn, sampled.roller, wheels.1, wheels.2, sampled.bus]
    have releases : rollerAbort r = releaseHold cause r := rollerAbort_held (by rw [sampled.roller]; exact held)
    have released := releaseHold_released (s := r) (cause := cause) (by rw [sampled.roller]; exact other)
    rw [← releases] at released
    obtain ⟨hold, shown, goes, ends, -, -⟩ := released
    rw [may, sampled.roller] at goes
    rw [may] at ends
    refine ⟨hold, shown, ?_⟩
    by_cases goesOn : s.roller.weighed = true ∧ s.roller.releaseOwed = false ∧ s.filter.accepted.wheelL = true ∧
        s.filter.accepted.wheelR = true ∧ s.bus.latch.stopped = false
    · obtain ⟨phase, fixed, weighed⟩ := goes goesOn
      rw [if_pos goesOn]
      exact ⟨phase, fun _ => ⟨fixed, weighed⟩, fun idle => absurd (phase.symm.trans idle) (by simp)⟩
    · obtain ⟨phase, rest⟩ := ends goesOn
      rw [if_neg goesOn]
      exact ⟨phase, fun positioned => absurd (phase.symm.trans positioned) (by simp), fun _ => rest⟩
  · have here : n ∈ (rollerAbort r).capture.faulted := by
      rw [work.faulted, sampled.capture]
      exact faulted
    rcases (rollerAbort r).capture.abortKey_requests here with asked | taking
    · exact Or.inl asked
    · have before := work.oneOff n taking
      rw [sampled.capture] at before
      exact Or.inr before

/-- Settles O48, key by key. -/
theorem keysActByPhase : Obligations.KeysActByPhase :=
  fun _ _ _ quiet active => ⟨keyStart_outcome quiet active, keyRepeat_outcome quiet active, keyNext_outcome quiet active,
    keyAbort_outcome quiet active⟩

end Sys2Proof.Machine
end

section
/-! A warning on the panel's display: raised, shown and confirmed (R132, R143, R144). -/

namespace Sys2Proof.Machine

/-! ### The confirmation of a displayed warning (R144) -/

/-- The WARNING_SHOWN that answers a warning's fields (R144). -/
def shownFrame (f : PromptFields) : LaneFrame := .warningShown (f.station.getD 0) (f.ticket.getD 0) (f.axle.getD 0)

/-- WARNING_FROM_PEER stands in the set with the fields and the life of a warning just raised; it is confirmed once it is displayed. -/
structure State.Warned (f : PromptFields) (life : Nat) (s t : State) : Prop where
  stands : ∃ e, t.guidance.find .warningFromPeer = some e ∧ e.lowering = false ∧ e.life = life ∧ e.fields = f ∧
    (t.guidance.displayed = some .warningFromPeer ↔ e.confirm = false)
  answers : t.guidance.displayed = some .warningFromPeer → s.queues t (shownFrame f)

/-- The entry of a warning just raised, to be confirmed. -/
structure PromptEntry.Fresh (f : PromptFields) (life : Nat) (e : PromptEntry) : Prop where
  prompt : e.prompt = .warningFromPeer
  standing : e.lowering = false
  life : e.life = life
  fields : e.fields = f
  pending : e.confirm = true

theorem Guidance.find_congr {g h : Guidance} (same : g.prompts = h.prompts) (p : Prompt) : g.find p = h.find p := by
  rw [Guidance.find, same]
  rfl

/-- The set as the display's composition and the horn's request leave it. -/
theorem requested_items (s : State) : ((composePanel s).guidance.requestHorn).prompts = s.guidance.prompts ∧
    ((composePanel s).guidance.requestHorn).displayed = s.guidance.displayed := by
  have horn (g : Guidance) : g.requestHorn.displayed = g.displayed := by
    unfold Guidance.requestHorn
    split <;> rfl
  exact ⟨(Guidance.prompts_requestHorn _).trans (composePanel_prompts s), (horn _).trans (composePanel_displayed s)⟩

theorem Guidance.confirmed_find {g : Guidance} {e : PromptEntry} (found : g.find .warningFromPeer = some e) :
    g.confirmed.find .warningFromPeer = some { e with confirm := false } := by
  have prompt : e.prompt = .warningFromPeer := prompt_of_find found
  have mapped : g.confirmed.find .warningFromPeer =
      (g.find .warningFromPeer).map fun e => if e.prompt = .warningFromPeer then { e with confirm := false } else e :=
    find?_map_prompt (fun e => by split <;> rfl) .warningFromPeer
  rw [mapped, found]
  simp [prompt]

/-- A displayed warning is confirmed as it is shown, another display leaves it pending (R144). -/
theorem showDisplayed_warned {s : State} {f : PromptFields} {life : Nat} {e : PromptEntry}
    (found : s.guidance.find .warningFromPeer = some e) (fresh : e.Fresh f life) : s.Warned f life (showDisplayed s) := by
  obtain ⟨r, requested⟩ : ∃ r, r = (composePanel s).setGuidance (composePanel s).guidance.requestHorn := ⟨_, rfl⟩
  obtain ⟨prompts, displayed⟩ := requested_items s
  have found' : r.guidance.find .warningFromPeer = some e := by
    rw [requested]
    exact (Guidance.find_congr prompts _).trans found
  have display' : r.guidance.displayed = s.guidance.displayed := by
    rw [requested]
    exact displayed
  have can : r.bus.canQueue = s.bus.canQueue := by rw [requested]; simp
  have shown : showDisplayed s = confirmShown r := by rw [requested]; rfl
  have after := showDisplayed_displayed s
  by_cases here : s.guidance.displayed = some .warningFromPeer
  · have confirms : r.guidance.confirmation = some (shownFrame f) := by
      unfold Guidance.confirmation
      rw [if_pos (display'.trans here), found']
      dsimp only
      rw [if_pos fresh.pending, fresh.fields]
      rfl
    have confirmed : confirmShown r = (queueFrame (shownFrame f) r).setGuidance r.guidance.confirmed := by
      unfold confirmShown
      rw [confirms]
    have stands : (showDisplayed s).guidance.find .warningFromPeer = some { e with confirm := false } := by
      rw [shown, confirmed]
      exact Guidance.confirmed_find found'
    have kept : KeepsQueue (queueFrame (shownFrame f) r) (showDisplayed s) := by
      rw [shown, confirmed]
      exact .of_eq rfl
    exact ⟨⟨_, stands, fresh.standing, fresh.life, fresh.fields, iff_of_true (after.trans here) rfl⟩, fun _ => queues_of_keeps can rfl kept⟩
  · have silent : confirmShown r = r := by
      have none : r.guidance.confirmation = none := if_neg (by rw [display']; exact here)
      unfold confirmShown
      rw [none]
    have stands : (showDisplayed s).guidance.find .warningFromPeer = some e := by rw [shown, silent, found']
    refine ⟨⟨e, stands, fresh.standing, fresh.life, fresh.fields, iff_of_false (by rw [after]; exact here) (by simp [fresh.pending])⟩,
      fun now => absurd (after.symm.trans now) here⟩

/-! ### The raise (R130, R143) -/

theorem Guidance.raised_find (g : Guidance) (p : Prompt) (f : PromptFields) (life : Nat) (confirm : Bool) :
    (g.raised p f life confirm).find p = some ⟨p, f, false, ((g.find p).map (·.showCount)).getD 0, life, confirm⟩ := by
  have none : (g.without p).find? (fun e => e.prompt == p) = none := by simp [Guidance.without]
  simp [Guidance.find, Guidance.raised, List.find?_append, none]

/-- The set and the display as a new choice leaves them (R132, R133). -/
def Guidance.chosen (g : Guidance) : Guidance :=
  { g with displayed := g.choice, showDue := false, prompts := dropHiddenLowering g.choice g.prompts }

/-- The choice with a warning just raised in the set (R132). -/
theorem rechoose_warned {s : State} {f : PromptFields} {life : Nat} {e : PromptEntry} (found : s.guidance.find .warningFromPeer = some e)
    (fresh : e.Fresh f life) :
    ((rechoose s).guidance.displayed = s.guidance.displayed ∧ (rechoose s) = s) ∨
    ((rechoose s).guidance.displayed ≠ s.guidance.displayed ∧ s.Warned f life (rechoose s)) := by
  by_cases off : s.guidance.displayed = none
  · have same : rechoose s = s := if_pos off
    exact Or.inl ⟨congrArg (·.guidance.displayed) same, same⟩
  · by_cases stays : s.guidance.choice = s.guidance.displayed
    · have same : rechoose s = s := (if_neg off).trans (if_pos stays)
      exact Or.inl ⟨congrArg (·.guidance.displayed) same, same⟩
    · obtain ⟨r, chosen⟩ : ∃ r, r = s.setGuidance s.guidance.chosen := ⟨_, rfl⟩
      have shown : rechoose s = showDisplayed r := by
        rw [chosen]
        exact (if_neg off).trans (if_neg stays)
      have kept : r.guidance.find .warningFromPeer = some e := by
        rw [chosen]
        exact find?_filter_of_kept found (by simp [fresh.standing])
      have display : r.guidance.displayed = s.guidance.choice := by rw [chosen]; rfl
      have bus : r.bus = s.bus := by rw [chosen]; rfl
      obtain ⟨stands, answers⟩ := showDisplayed_warned kept fresh
      refine Or.inr ⟨?_, ?_, fun here => ?_⟩
      · rw [shown, showDisplayed_displayed, display]
        exact stays
      · rw [shown]
        exact stands
      · rw [shown] at here ⊢
        exact fun open' => answers here (by rw [bus]; exact open')

/-- A warning raised is in the set, and confirmed where it is displayed (R143, R144). -/
theorem raiseWith_warned (f : PromptFields) (life : Nat) (s : State) : s.Warned f life (raiseWith .warningFromPeer f life true s) := by
  obtain ⟨r, raised⟩ : ∃ r, r = s.setGuidance (s.guidance.raised .warningFromPeer f life true) := ⟨_, rfl⟩
  have found := s.guidance.raised_find .warningFromPeer f life true
  have found' : r.guidance.find .warningFromPeer = some ⟨.warningFromPeer, f, false,
      ((s.guidance.find .warningFromPeer).map (·.showCount)).getD 0, life, true⟩ := by
    rw [raised]
    exact found
  have fresh : PromptEntry.Fresh f life ⟨.warningFromPeer, f, false,
      ((s.guidance.find .warningFromPeer).map (·.showCount)).getD 0, life, true⟩ := ⟨rfl, rfl, rfl, rfl, rfl⟩
  have display : r.guidance.displayed = s.guidance.displayed := by rw [raised]; rfl
  have bus : r.bus = s.bus := by rw [raised]; rfl
  have seen {t : State} (h : r.Warned f life t) : s.Warned f life t :=
    ⟨h.stands, fun here open' => h.answers here (by rw [bus]; exact open')⟩
  have whole : raiseWith .warningFromPeer f life true s = if s.guidance.displayed = some .warningFromPeer &&
      (rechoose r).guidance.displayed = some .warningFromPeer then showDisplayed (rechoose r) else rechoose r := by
    rw [raised]
    rfl
  rw [whole]
  rcases rechoose_warned found' fresh with ⟨-, same⟩ | ⟨moved, warned⟩
  · rw [same]
    by_cases here : s.guidance.displayed = some .warningFromPeer
    · rw [if_pos (by simp [display, here])]
      exact seen (showDisplayed_warned found' fresh)
    · rw [if_neg (by simp [here])]
      have away : r.guidance.displayed ≠ some .warningFromPeer := by rw [display]; exact here
      exact ⟨⟨_, found', rfl, rfl, rfl, iff_of_false away (by simp)⟩, fun now => absurd now away⟩
  · rw [if_neg]
    · exact seen warned
    · rw [display] at moved
      simp only [Bool.and_eq_true, decide_eq_true_eq]
      rintro ⟨before, after⟩
      exact moved (after.trans before.symm)

end Sys2Proof.Machine
end

section
/-! ### The warning protocol, settled -/

namespace Sys2Proof.Machine

/-! #### What a frame's passage leaves of a warning -/

theorem judgeEntry_shows {p : Prompt} {f : PromptFields} (wait : p ≠ .wait) (driveOn : p ≠ .driveOn) {s : State} (h : s.guidance.Shows p f) :
    (judgeEntry s).guidance.Shows p f := by
  have judged {q : Prompt} (other : p ≠ q) (k : PromptFields) {r : State} (shows : r.guidance.Shows p f) :
      (raiseOrUpdate q k r).guidance.Shows p f := by
    unfold raiseOrUpdate
    split
    · split
      · exact shows
      · exact updateFields_shows_other shows other k
    · exact raise_shows_other shows other k
  unfold judgeEntry
  dsimp only
  split
  · exact h
  · split
    · exact lowerIfRaised_shows (judged wait _ h) driveOn
    · split
      · exact lowerIfRaised_shows (lowerIfRaised_shows h wait) driveOn
      · exact judged driveOn _ (lowerIfRaised_shows h wait)

/-- A frame of another station that is no PRESENCE leaves what WARNING_FROM_PEER shows, and whether it is raised (R37). -/
theorem passage_warning {f : WireFrame} (silent : f.announces = false) {s : State} (other : f.source ≠ s.startUp.ownNumber) :
    (∀ k, s.guidance.Shows .warningFromPeer k → (passage f s).guidance.Shows .warningFromPeer k) ∧
    (passage f s).guidance.isRaised .warningFromPeer = s.guidance.isRaised .warningFromPeer := by
  have reported : (peerHeard f.source false (listed f s)).guidance = (judgeEntry (onRoller judgeRoleClash (listed f s))).guidance :=
    (recheck_within _).1 .guidance (by simp)
  have clash (k : PromptFields) (shows : s.guidance.Shows .warningFromPeer k) :
      (onRoller judgeRoleClash (listed f s)).guidance.Shows .warningFromPeer k := by
    unfold onRoller
    split
    · exact judgeRoleClash_shows (s := listed f s) (by decide) (by decide) shows
    · exact shows
  have clashRaised : (onRoller judgeRoleClash (listed f s)).guidance.isRaised .warningFromPeer = s.guidance.isRaised .warningFromPeer := by
    unfold onRoller
    split
    · exact judgeRoleClash_isRaised (by decide) (by decide) _
    · rfl
  rw [passage, if_neg other, enterPeer, silent]
  split
  · rw [reported]
    exact ⟨fun k shows => judgeEntry_shows (by decide) (by decide) (clash k shows),
      (judgeEntry_isRaised (by decide) (by decide) _).trans clashRaised⟩
  · exact ⟨fun k shows => shows, rfl⟩

theorem passage_isPanel (f : WireFrame) (s : State) : (passage f s).isPanel = s.isPanel := by
  have changes := passage_changes f s
  have power : (passage f s).power = s.power := changes .power (by simp)
  have startUp : (passage f s).startUp = s.startUp := changes .startUp (by simp)
  rw [State.isPanel, State.isRunning, power, startUp]
  rfl

theorem passage_canQueue {f : WireFrame} {s : State} (other : f.source ≠ s.startUp.ownNumber) :
    (passage f s).bus.canQueue = s.bus.canQueue := by
  have mode := (passage_other other).2.1
  unfold Bus.canQueue
  rw [mode]

/-! #### The three frames -/

theorem motorWarning_raises {s : State} {src : BitVec 4} {p : List Byte} (listens : s.listens src = true)
    (other : src.toNat ≠ s.startUp.ownNumber) (length : p.length = 4) {k : TestKind} (code : byteAt p 3 = k.code) (panel : s.isPanel = true) :
    Completes (.motorWarning src p) s (fun t => t.lane = s.lane ∧ t.archive = s.archive ∧ t.counters = s.counters ∧
      ∃ e, t.guidance.find .warningFromPeer = some e ∧ e.lowering = false ∧ e.life = 240 ∧ e.fields =
        { station := some src.toNat, ticket := some (wordAt p 0), axle := some (byteAt p 2), kind := some k } ∧
        (t.guidance.displayed = some .warningFromPeer ↔ e.confirm = false) ∧
        (t.guidance.displayed = some .warningFromPeer → s.queues t (.warningShown src.toNat (wordAt p 0) (byteAt p 2)))) := by
  let f : WireFrame := ⟨1, 1, src.toNat, p⟩
  obtain ⟨r, passed⟩ : ∃ r, r = passage f s := ⟨_, rfl⟩
  have changes : s.onlyChanges passageBlocks r := by
    rw [passed]
    exact passage_changes f s
  have can : r.bus.canQueue = s.bus.canQueue := by rw [passed]; exact passage_canQueue other
  have raised : onMotorWarning src.toNat p r = raiseWith .warningFromPeer
      { station := some src.toNat, ticket := some (wordAt p 0), axle := some (byteAt p 2), kind := some k } 240 true r := by
    rw [onMotorWarning, readTestKind_eq_some_iff.mpr code]
    exact if_pos (by rw [passed, passage_isPanel, panel])
  have within := raiseWith_within .warningFromPeer
    { station := some src.toNat, ticket := some (wordAt p 0), axle := some (byteAt p 2), kind := some k } 240 true r
  obtain ⟨⟨e, found, standing, life, fields, confirmed⟩, answers⟩ := raiseWith_warned
    { station := some src.toNat, ticket := some (wordAt p 0), axle := some (byteAt p 2), kind := some k } 240 r
  refine ⟨_, heard_passage (cls := 1) (kind := 1) listens (by simp [kindLength, length]) _, ?_⟩
  change (onMotorWarning src.toNat p (passage f s)).lane = s.lane ∧ _
  rw [← passed, raised]
  exact ⟨(within.1 .lane (by simp)).trans (changes .lane (by simp)), (within.1 .archive (by simp)).trans (changes .archive (by simp)),
    (within.1 .counters (by simp)).trans (changes .counters (by simp)), e, found, standing, life, fields, confirmed,
    fun here open' => answers here (can.trans open')⟩

theorem motorWarning_ignored {s : State} {src : BitVec 4} {p : List Byte} (listens : s.listens src = true)
    (other : src.toNat ≠ s.startUp.ownNumber) (length : p.length = 4) (ignored : 2 ≤ byteAt p 3 ∨ s.isPanel = false) :
    Completes (.motorWarning src p) s (fun t => t.guidance.isRaised .warningFromPeer = s.guidance.isRaised .warningFromPeer) := by
  let f : WireFrame := ⟨1, 1, src.toNat, p⟩
  have stays : onMotorWarning src.toNat p (passage f s) = passage f s := by
    unfold onMotorWarning
    split
    · rename_i k read
      refine if_neg ?_
      have code := readTestKind_eq_some_iff.mp read
      rw [passage_isPanel]
      rcases ignored with high | off
      · cases k <;> simp [TestKind.code] at code <;> omega
      · simp [off]
    · rfl
  refine ⟨_, heard_passage (cls := 1) (kind := 1) listens (by simp [kindLength, length]) _, ?_⟩
  change (onMotorWarning src.toNat p (passage f s)).guidance.isRaised .warningFromPeer = _
  rw [stays]
  exact (passage_warning (by simp [f, WireFrame.announces]) other).2

/-- A ROLLERS_STOPPED at the warning of its sender, and at another's (R145). -/
theorem lowerWarningOf_outcome {n : Nat} {r : State} {f : PromptFields} (shows : r.guidance.Shows .warningFromPeer f) :
    (f.station = some n → (lowerWarningOf n r).guidance.isRaised .warningFromPeer = false) ∧
    (f.station ≠ some n → (lowerWarningOf n r).guidance = r.guidance) := by
  refine ⟨fun mine => lowerWarningOf_lowers shows mine, fun another => ?_⟩
  obtain ⟨e, found, -, fields⟩ := shows
  rw [lowerWarningOf, found]
  dsimp only
  rw [fields, if_neg another]

theorem rollersStopped_outcome {s : State} {src : BitVec 4} {p : List Byte} (listens : s.listens src = true)
    (other : src.toNat ≠ s.startUp.ownNumber) (length : p.length = 3) :
    Completes (.rollersStopped src p) s (fun t => t.lane = s.lane ∧ t.archive = s.archive ∧
      (s.promptLaw = true →
        ((s.guidance.find .warningFromPeer).any (fun e => e.fields.station = some src.toNat) = true →
          t.guidance.isRaised .warningFromPeer = false) ∧
        ((s.guidance.find .warningFromPeer).any (fun e => e.fields.station = some src.toNat) = false →
          t.guidance.isRaised .warningFromPeer = s.guidance.isRaised .warningFromPeer))) := by
  let f : WireFrame := ⟨1, 3, src.toNat, p⟩
  obtain ⟨keeps, raised⟩ := passage_warning (f := f) (by simp [f, WireFrame.announces]) other
  have changes := passage_changes f s
  have within := lowerWarningOf_within src.toNat (passage f s)
  refine ⟨_, heard_passage (cls := 1) (kind := 3) listens (by simp [kindLength, length]) _,
    (within.1 .lane (by simp)).trans (changes .lane (by simp)), (within.1 .archive (by simp)).trans (changes .archive (by simp)), fun law => ?_⟩
  change (_ → (lowerWarningOf src.toNat (passage f s)).guidance.isRaised .warningFromPeer = false) ∧
    (_ → (lowerWarningOf src.toNat (passage f s)).guidance.isRaised .warningFromPeer = _)
  have once : (s.guidance.prompts.map (·.prompt)).Nodup := of_decide_eq_true (Bool.and_eq_true _ _ ▸ law).1
  cases standing : s.guidance.isRaised .warningFromPeer with
  | false =>
    have none := lowerWarningOf_isRaised_of_not (n := src.toNat) (raised.trans standing)
    exact ⟨fun _ => none, fun _ => none⟩
  | true =>
    obtain ⟨e, found⟩ : ∃ e, s.guidance.find .warningFromPeer = some e := by
      obtain ⟨x, mem, here⟩ := List.any_eq_true.mp standing
      exact Option.isSome_iff_exists.mp (List.find?_isSome.mpr ⟨x, mem, (Bool.and_eq_true _ _ ▸ here).1⟩)
    obtain ⟨lowers, leaves⟩ := lowerWarningOf_outcome (n := src.toNat) (keeps _ (Guidance.shows_of_raised once found standing))
    rw [found]
    refine ⟨fun mine => lowers (by simpa using mine), fun another => ?_⟩
    rw [leaves (by simpa using another), raised, standing]

/-- The removal of a station from the awaited set of WARN (R106). -/
theorem removeAwaited_cases {n : Nat} {s : State} (warn : s.roller.phase = .warn) (awaits : n ∈ s.roller.awaited) :
    (removeAwaited n s).roller.phase = .warn ∧ (removeAwaited n s).roller.motors = s.roller.motors ∧ (removeAwaited n s).lane = s.lane ∧
    ((removeAwaited n s).roller.awaited = [] → s.roller.warnWait = some .confirming →
      (removeAwaited n s).roller.warnWait = some .runOut ∧ (removeAwaited n s).timers.seqTimer = ⟨true, 8, false⟩) ∧
    ((removeAwaited n s).roller.awaited ≠ [] →
      (removeAwaited n s).roller.warnWait = s.roller.warnWait ∧ (removeAwaited n s).timers.seqTimer = s.timers.seqTimer) := by
  have awaited := removeAwaited_awaited (n := n) warn
  have removed : removeAwaited n s =
      if (s.roller.awaited.filter fun m => m ≠ n).isEmpty && s.roller.warnWait = some .confirming then
        startSeqTimer Config.runOutWindows
          (s.setRoller { s.roller with awaited := s.roller.awaited.filter fun m => m ≠ n, warnWait := some .runOut })
      else s.setRoller { s.roller with awaited := s.roller.awaited.filter fun m => m ≠ n } := if_pos (by simp [warn, awaits])
  rw [awaited]
  rw [removed]
  by_cases last : (s.roller.awaited.filter fun m => m ≠ n).isEmpty = true ∧ s.roller.warnWait = some .confirming
  · rw [if_pos (by rw [last.1, last.2]; rfl)]
    exact ⟨warn, rfl, rfl, fun _ _ => ⟨rfl, rfl⟩, fun more => absurd (List.isEmpty_iff.mp last.1) more⟩
  · rw [if_neg (by rw [Bool.and_eq_true, decide_eq_true_iff]; exact last)]
    exact ⟨warn, rfl, rfl, fun empty confirming => absurd ⟨List.isEmpty_iff.mpr empty, confirming⟩ last, fun _ => ⟨rfl, rfl⟩⟩

theorem warningShown_outcome {s : State} {src : BitVec 4} {p : List Byte} (listens : s.listens src = true)
    (length : p.length = 4) (active : s.rollerActive = true) (warn : s.roller.phase = .warn) (mine : byteAt p 0 = s.startUp.ownNumber)
    (fixed : s.roller.fixed = some ⟨wordAt p 1, byteAt p 3⟩) (awaits : src.toNat ∈ s.roller.awaited) :
    Completes (.warningShown src p) s (fun t => t.roller.awaited = (s.roller.awaited.filter fun n => n ≠ src.toNat) ∧
        t.roller.phase = .warn ∧ t.roller.motors = s.roller.motors ∧ t.lane = s.lane ∧
        (t.roller.awaited = [] → s.roller.warnWait = some .confirming →
          t.roller.warnWait = some .runOut ∧ t.timers.seqTimer = ⟨true, 8, false⟩) ∧
        (t.roller.awaited ≠ [] → t.roller.warnWait = s.roller.warnWait ∧ t.timers.seqTimer = s.timers.seqTimer)) := by
  let f : WireFrame := ⟨1, 2, src.toNat, p⟩
  obtain ⟨r, passed⟩ : ∃ r, r = passage f s := ⟨_, rfl⟩
  obtain ⟨items, timers⟩ := passage_items (f := f) (by simp [f, WireFrame.announces]) s
  obtain ⟨phase, fixed', motors, -, -, -, -, awaited, wait⟩ := items.fields
  have changes := passage_changes f s
  have lane := (passage_lane f s).1
  have startUp : r.startUp = s.startUp := by rw [passed]; exact changes .startUp (by simp)
  have works : r.rollerActive = true := by
    rw [passed, ← active]
    exact State.rollerActive_congr (changes .power (by simp)) (changes .startUp (by simp))
  rw [← passed] at phase fixed' motors awaited wait lane timers
  have taken : onWarningShown src.toNat p r = removeAwaited src.toNat r := by
    have heard : warningShownHeard src.toNat ⟨wordAt p 1, byteAt p 3⟩ r = removeAwaited src.toNat r := if_pos (fixed'.trans fixed)
    rw [onWarningShown, if_pos (by rw [startUp]; exact mine), onRoller, if_pos works, heard]
  obtain ⟨phase2, motors2, lane2, last, more⟩ := removeAwaited_cases (n := src.toNat) (phase.trans warn) (by rw [awaited]; exact awaits)
  refine ⟨_, heard_passage (cls := 1) (kind := 2) listens (by simp [kindLength, length]) _, ?_⟩
  change (onWarningShown src.toNat p (passage f s)).roller.awaited = _ ∧ _
  rw [← passed, taken]
  rw [wait] at last more
  rw [timers] at more
  exact ⟨(removeAwaited_awaited (phase.trans warn)).trans (by rw [awaited]), phase2, motors2.trans motors, lane2.trans lane, last, more⟩

/-- Settles O50, frame by frame. -/
theorem warningsAreShownAndConfirmed : Obligations.WarningsAreShownAndConfirmed :=
  fun _ _ _ listens other => ⟨fun length _ code panel => motorWarning_raises listens other length code panel,
    fun length ignored => motorWarning_ignored listens other length ignored, fun length => rollersStopped_outcome listens other length,
    fun length active warn mine fixed awaits => warningShown_outcome listens length active warn mine fixed awaits⟩

end Sys2Proof.Machine
end

section
/-! The guidance unit's own events: the show time met, the life counts, the single horn, the panel frame sent (R132, R133, R136, R139, R141). -/

namespace Sys2Proof.Machine

/-! ### The choice (R132) -/

/-- The newest entry of highest priority so far. -/
def newerBest (acc : Option PromptEntry) (e : PromptEntry) : Option PromptEntry :=
  match acc with
  | none => some e
  | some x => if x.prompt.priority ≤ e.prompt.priority then some e else some x

theorem bestPrompt_eq (ps : List PromptEntry) : bestPrompt ps = (ps.foldl newerBest none).map (·.prompt) := rfl

theorem newerBest_tops (acc : Option PromptEntry) (e : PromptEntry) : ∃ y, newerBest acc e = some y ∧
    e.prompt.priority ≤ y.prompt.priority ∧ ∀ x, acc = some x → x.prompt.priority ≤ y.prompt.priority := by
  cases acc with
  | none => exact ⟨e, rfl, le_refl _, fun x none => absurd none (by simp)⟩
  | some x =>
    by_cases newer : x.prompt.priority ≤ e.prompt.priority
    · exact ⟨e, if_pos newer, le_refl _, fun y same => by cases same; exact newer⟩
    · exact ⟨x, if_neg newer, (not_le.mp newer).le, fun y same => by cases same; exact le_refl _⟩

/-- The best entry tops every entry of the list and the one it began with. -/
theorem foldl_newerBest_tops {l : List PromptEntry} {acc : Option PromptEntry} {y : PromptEntry} (best : l.foldl newerBest acc = some y) :
    (∀ e ∈ l, e.prompt.priority ≤ y.prompt.priority) ∧ ∀ x, acc = some x → x.prompt.priority ≤ y.prompt.priority := by
  induction l generalizing acc with
  | nil =>
    refine ⟨fun e mem => absurd mem (by simp), fun x same => ?_⟩
    have here : some x = some y := same.symm.trans best
    cases here
    exact le_refl _
  | cons e es ih =>
    obtain ⟨z, next, tops, carried⟩ := newerBest_tops acc e
    obtain ⟨rest, first⟩ := ih best
    have top : z.prompt.priority ≤ y.prompt.priority := first z next
    refine ⟨fun x mem => ?_, fun x same => (carried x same).trans top⟩
    rcases List.mem_cons.mp mem with rfl | later
    · exact tops.trans top
    · exact rest x later

theorem bestPrompt_tops {ps : List PromptEntry} {d : Prompt} (best : bestPrompt ps = some d) : ∀ e ∈ ps, e.prompt.priority ≤ d.priority := by
  rw [bestPrompt_eq] at best
  obtain ⟨y, found, rfl⟩ := Option.map_eq_some_iff.mp best
  exact (foldl_newerBest_tops found).1

theorem Guidance.stays_tops {g : Guidance} {p : Prompt} (stays : g.stays p = true) : ∀ e ∈ g.prompts, e.prompt.priority ≤ p.priority := by
  unfold Guidance.stays at stays
  split at stays
  · have all := (Bool.and_eq_true _ _ ▸ stays).2
    exact fun e mem => of_decide_eq_true (List.all_eq_true.mp all e mem)
  · cases stays

/-- Nothing in the set has a higher priority than the choice (R132). -/
theorem Guidance.choice_tops {g : Guidance} {d : Prompt} (chosen : g.choice = some d) : ∀ e ∈ g.prompts, e.prompt.priority ≤ d.priority := by
  unfold Guidance.choice at chosen
  split at chosen
  · split at chosen
    · rename_i stays
      cases chosen
      exact Guidance.stays_tops stays
    · exact bestPrompt_tops chosen
  · exact bestPrompt_tops chosen

/-! ### What the choice made again does to the set -/

/-- From one set to another entries are lost at most, and confirmation pending ended. -/
structure Guidance.Thins (g h : Guidance) : Prop where
  showDue : h.showDue = true → g.showDue = true
  entries : ∀ e ∈ h.prompts, ∃ x ∈ g.prompts, e.prompt = x.prompt ∧ e.lowering = x.lowering ∧ e.showCount = x.showCount

theorem Guidance.Thins.of_same {g h : Guidance} (due : h.showDue = g.showDue) (prompts : h.prompts = g.prompts) : g.Thins h :=
  ⟨fun d => due.symm.trans d, fun e mem => ⟨e, prompts ▸ mem, rfl, rfl, rfl⟩⟩

theorem Guidance.Thins.after {f g h : Guidance} (k : g.Thins h) (j : f.Thins g) : f.Thins h where
  showDue := fun d => j.showDue (k.showDue d)
  entries := fun e mem => by
    obtain ⟨x, mem', prompt, lowering, count⟩ := k.entries e mem
    obtain ⟨y, mem'', prompt', lowering', count'⟩ := j.entries x mem'
    exact ⟨y, mem'', prompt.trans prompt', lowering.trans lowering', count.trans count'⟩

theorem Guidance.confirmed_thins (g : Guidance) : g.Thins g.confirmed where
  showDue := id
  entries := fun e mem => by
    obtain ⟨x, mem', rfl⟩ := List.mem_map.mp mem
    refine ⟨x, mem', ?_⟩
    split <;> exact ⟨rfl, rfl, rfl⟩

theorem showDisplayed_thins (s : State) : s.guidance.Thins (showDisplayed s).guidance := by
  have due : ((composePanel s).guidance.requestHorn).showDue = s.guidance.showDue := by
    have horn (g : Guidance) : g.requestHorn.showDue = g.showDue := by
      unfold Guidance.requestHorn
      split <;> rfl
    have framed (f : List Byte) : (s.guidance.due f).showDue = s.guidance.showDue := by
      unfold Guidance.due
      split <;> rfl
    rw [horn]
    unfold composePanel
    split
    · split
      · rfl
      · exact framed _
    · rfl
  have requested : s.guidance.Thins (composePanel s).guidance.requestHorn := .of_same due (requested_items s).1
  unfold showDisplayed confirmShown
  dsimp only
  split
  · exact (Guidance.confirmed_thins _).after requested
  · exact requested

/-- The choice made again: the set thinned, and nothing above the prompt displayed (R132, R133). -/
theorem rechoose_chooses (s : State) : s.guidance.Thins (rechoose s).guidance ∧
    ∀ d, (rechoose s).guidance.displayed = some d → ∀ e ∈ (rechoose s).guidance.prompts, e.prompt.priority ≤ d.priority := by
  by_cases off : s.guidance.displayed = none
  · have same : rechoose s = s := if_pos off
    rw [same]
    exact ⟨.of_same rfl rfl, fun d shown => absurd (shown.symm.trans off) (by simp)⟩
  · by_cases stays : s.guidance.choice = s.guidance.displayed
    · have same : rechoose s = s := (if_neg off).trans (if_pos stays)
      rw [same]
      exact ⟨.of_same rfl rfl, fun d shown => Guidance.choice_tops (stays.trans shown)⟩
    · obtain ⟨r, chosen⟩ : ∃ r, r = s.setGuidance s.guidance.chosen := ⟨_, rfl⟩
      have shown : rechoose s = showDisplayed r := by
        rw [chosen]
        exact (if_neg off).trans (if_neg stays)
      have fewer : s.guidance.Thins r.guidance := by
        rw [chosen]
        exact ⟨fun due => absurd due (by simp [Guidance.chosen]), fun e mem => ⟨e, List.mem_of_mem_filter mem, rfl, rfl, rfl⟩⟩
      have display : r.guidance.displayed = s.guidance.choice := by rw [chosen]; rfl
      have thins := (showDisplayed_thins r).after fewer
      rw [shown]
      refine ⟨thins, fun d here e mem => ?_⟩
      rw [showDisplayed_displayed, display] at here
      obtain ⟨x, old, prompt, -, -⟩ := thins.entries e mem
      rw [prompt]
      exact Guidance.choice_tops here x old

theorem Guidance.find_eq_none_iff {g : Guidance} {p : Prompt} : g.find p = none ↔ ∀ e ∈ g.prompts, e.prompt ≠ p := by
  simp [Guidance.find]

/-! ### The events -/

theorem minimumShow_outcome {s : State} (ready : s.ready .minimumShow = true) : Completes .minimumShowTimeMet s (fun t =>
    s.onlyChanges [.bus, .guidance] t ∧ t.guidance.showDue = false ∧
      (∀ e ∈ t.guidance.prompts, ¬(e.lowering = true ∧ 16 ≤ e.showCount)) ∧
      ∀ d, t.guidance.displayed = some d → ∀ e ∈ t.guidance.prompts, e.prompt.priority ≤ d.priority) := by
  obtain ⟨r, met⟩ : ∃ r, r = s.setGuidance { s.guidance with
    showDue := false, prompts := s.guidance.prompts.filter fun e => !(e.lowering && e.met) } := ⟨_, rfl⟩
  have taken : showTimeMet s = rechoose r := by rw [met]; rfl
  obtain ⟨thins, tops⟩ := rechoose_chooses r
  have run : exec .minimumShowTimeMet s = .next (showTimeMet s) :=
    (exec_named (.minimumShowTimeMet, .minimumShow) (by decide) s).trans (congrArg _ (named_ready ready))
  refine ⟨_, run, (showTimeMet_within s).1, ?_⟩
  rw [taken]
  refine ⟨?_, fun e mem => ?_, tops⟩
  · have before : r.guidance.showDue = false := by rw [met]; rfl
    by_contra due
    exact absurd (thins.showDue (by simpa using due)) (by simp [before])
  · obtain ⟨x, old, -, lowering, count⟩ := thins.entries e mem
    have kept : (!(x.lowering && x.met)) = true := by
      rw [met] at old
      exact (List.mem_filter.mp old).2
    rintro ⟨low, long⟩
    have gone : (x.lowering && x.met) = true := by
      rw [← lowering, low, PromptEntry.met, ← count]
      exact decide_eq_true (p := 16 ≤ e.showCount) long
    rw [gone] at kept
    cases kept

/-- A prompt lowered while it is not displayed leaves the set (R133). -/
theorem lower_find_none {p : Prompt} {s : State} (lowers : p ≠ .laneReady) (hidden : s.guidance.displayed ≠ some p) :
    (lower p s).guidance.find p = none := by
  unfold lower
  rw [if_neg lowers]
  split
  · assumption
  · rw [if_neg (by simp [hidden])]
    have thins := (rechoose_chooses (s.setGuidance { s.guidance with prompts := s.guidance.without p })).1
    refine Guidance.find_eq_none_iff.mpr fun e mem => ?_
    obtain ⟨x, old, prompt, -, -⟩ := thins.entries e mem
    rw [prompt]
    exact of_decide_eq_true (List.mem_filter.mp old).2

theorem lifeEnd_outcome {s : State} {c : Instr} {d : Due} {p : Prompt}
    (event : (c, d, p) ∈ [(Instr.entryRejectedLifeEnd, Due.rejectedLife, Prompt.entryRejected),
      (Instr.warningLifeEnd, Due.warningLife, Prompt.warningFromPeer)]) (ready : s.ready d = true) :
    Completes c s (fun t => s.onlyChanges [.bus, .guidance] t ∧ t.guidance.isRaised p = false ∧
      (s.guidance.displayed ≠ some p → t.guidance.find p = none)) := by
  obtain ⟨named, taken, lowers⟩ : (c, d) ∈ namedEvents ∧ takeDue s d = lower p s ∧ p ≠ .laneReady := by
    simp only [List.mem_cons, List.not_mem_nil, or_false, Prod.mk.injEq] at event
    rcases event with ⟨rfl, rfl, rfl⟩ | ⟨rfl, rfl, rfl⟩
    · exact ⟨by decide, rfl, by simp⟩
    · exact ⟨by decide, rfl, by simp⟩
  refine ⟨_, (exec_named (c, d) named s).trans (congrArg _ ((named_ready ready).trans taken)), (lower_within p s).1, ?_, lower_find_none lowers⟩
  rw [lower_isRaised]
  simp [lowers]

theorem panelFrameSent_outcome {s : State} (quiet : s.quiet = true) : Completes .panelFrameSent s (fun t =>
    s.onlyChanges [.guidance] t ∧
      (s.guidance.sending = true → s.guidance.waiting = false → t.guidance = { s.guidance with sending := false }) ∧
      (s.guidance.sending = true → s.guidance.waiting = true →
        t.guidance = { s.guidance with waiting := false, lastFrame := composition s }) ∧
      (s.guidance.sending = false → t = s)) := by
  refine ⟨_, exec_outside_quiet quiet panelSent, ?_⟩
  unfold panelSent
  by_cases sending : s.guidance.sending = true
  · rw [if_neg (by simp [sending])]
    by_cases waiting : s.guidance.waiting = true
    · rw [if_pos waiting]
      exact ⟨(Within.setGuidance s _).1, fun _ idle => absurd waiting (by simp [idle]), fun _ _ => rfl, fun off => absurd sending (by simp [off])⟩
    · rw [if_neg waiting]
      exact ⟨(Within.setGuidance s _).1, fun _ _ => rfl, fun _ due => absurd due waiting, fun off => absurd sending (by simp [off])⟩
  · rw [if_pos (by simpa using sending)]
    exact ⟨s.onlyChanges_refl _, fun on => absurd on sending, fun on => absurd on sending, fun _ => rfl⟩

end Sys2Proof.Machine
end

section
/-! The guidance unit's part of an 8 Hz tick (R46, R50, R133, R136, R141). -/

namespace Sys2Proof.Machine

/-! ### One window at the display -/

/-- An entry after a window of the display of a prompt (R133, R136). -/
def PromptEntry.windowed (shown : Prompt) (e : PromptEntry) : PromptEntry :=
  let e := if e.prompt = shown then { e with showCount := min Config.showWindows (e.showCount + 1) } else e
  if (e.prompt = .entryRejected || e.prompt = .warningFromPeer) && !e.lowering then { e with life := e.life - 1 } else e

theorem PromptEntry.windowed_prompt (shown : Prompt) (e : PromptEntry) : (e.windowed shown).prompt = e.prompt :=
  (Guidance.countWindow_entry shown e).1

theorem PromptEntry.windowed_count {shown : Prompt} {e : PromptEntry} (here : e.prompt = shown) :
    (e.windowed shown).showCount = min 16 (e.showCount + 1) := by
  unfold PromptEntry.windowed
  dsimp only
  rw [if_pos here]
  split <;> rfl

/-- The horn and PT2-low after a window (R50, R141). -/
def Horn.ticked (h : Horn) (shown : Prompt) (t : ToneTimer) : Horn × ToneTimer :=
  if h.isNew then
    ({ h with inForce := h.requested, isNew := false, tone := shown.tone,
              singleCount := if h.requested = .single then Config.singleWindows else h.singleCount },
      t.follow h.inForce h.requested shown.tone)
  else if h.inForce = .single then ({ h with singleCount := h.singleCount - 1 }, t) else (h, t)

theorem hornTick_items (p : Prompt) (s : State) : (hornTick p s).guidance.displayed = s.guidance.displayed ∧
    ((hornTick p s).guidance.horn, (hornTick p s).timers.tone) = s.guidance.horn.ticked p s.timers.tone := by
  unfold hornTick Horn.ticked
  dsimp only
  split_ifs <;> exact ⟨rfl, rfl⟩

theorem composePanel_horn (s : State) : (composePanel s).guidance.horn = s.guidance.horn := by
  have due (f : List Byte) : (s.guidance.due f).horn = s.guidance.horn := by
    unfold Guidance.due
    split <;> rfl
  unfold composePanel
  split
  · split
    · rfl
    · exact due _
  · rfl

/-! ### The tick -/

/-- What a tick moves of the guidance unit, with PT2-low. -/
structure Display where
  prompts : List PromptEntry
  displayed : Option Prompt
  horn : Horn
  tone : ToneTimer

/-- The display of a station. -/
def State.display (s : State) : Display := ⟨s.guidance.prompts, s.guidance.displayed, s.guidance.horn, s.timers.tone⟩

/-- A display after a window of a prompt. -/
def Display.windowed (p : Prompt) (d : Display) : Display :=
  ⟨d.prompts.map (·.windowed p), d.displayed, (d.horn.ticked p d.tone).1, (d.horn.ticked p d.tone).2⟩

theorem guidanceTick8_display {s : State} {p : Prompt} (shown : s.guidance.displayed = some p) :
    (guidanceTick8 s).display = s.display.windowed p := by
  obtain ⟨r, counted⟩ : ∃ r, r = s.setGuidance (s.guidance.countWindow p) := ⟨_, rfl⟩
  have taken : guidanceTick8 s = composePanel (hornTick p r) := by
    rw [counted, guidanceTick8, shown]
  have before : r.display = ⟨s.guidance.prompts.map (·.windowed p), s.guidance.displayed, s.guidance.horn, s.timers.tone⟩ := by
    rw [counted]
    rfl
  obtain ⟨displayed, horn⟩ := hornTick_items p r
  have timers : (composePanel (hornTick p r)).timers = (hornTick p r).timers := (composePanel_frame _).2.2.2.2.1
  rw [taken]
  unfold State.display
  rw [composePanel_prompts, hornTick_prompts, composePanel_displayed, displayed, composePanel_horn, timers, (Prod.mk.inj horn).1,
    (Prod.mk.inj horn).2]
  rw [counted]
  rfl

/-- A station whose display a tick finds, with no window that can end SPIN_UP. -/
structure State.Showing (p : Prompt) (s : State) : Prop where
  noSpinUp : s.noSpinUp
  shown : s.guidance.displayed = some p

theorem takeTick8_display {s : State} {p : Prompt} (h : s.Showing p) {k : TickTaker} (other : k ≠ .guidance) :
    (takeTick8 s k).display = s.display := by
  cases k with
  | pulseCounters =>
    obtain ⟨n, a, eq⟩ := closeWindow_eq h.noSpinUp
    rw [takeTick8, eq]
    rfl
  | phaseTimers => rfl
  | sequence => obtain ⟨w, f, n, eq⟩ := takeTick8_sequence_eq s; rw [eq]; rfl
  | guidance => exact absurd rfl other

theorem takeTick8_showing {s : State} {p : Prompt} (h : s.Showing p) (k : TickTaker) : (takeTick8 s k).Showing p := by
  refine ⟨takeTick8_noSpinUp k h.noSpinUp, ?_⟩
  by_cases guidance : k = .guidance
  · subst guidance
    exact (congrArg Display.displayed (guidanceTick8_display h.shown)).trans h.shown
  · exact (congrArg Display.displayed (takeTick8_display h guidance)).trans h.shown

theorem tick8_display {s : State} {p : Prompt} (first : List TickTaker) (h : s.Showing p) : (tick8 first s).display = s.display.windowed p :=
  tick8_item (inv := State.Showing p) (item := State.display) (act := Display.windowed p) (own := .guidance)
    (fun _ k i => takeTick8_showing i k) (fun _ _ i other => takeTick8_display i other) (fun _ i => guidanceTick8_display i.shown) first
    (s := s) ⟨h.noSpinUp, h.shown⟩

theorem windowed_find {ps : List PromptEntry} {p : Prompt} {e : PromptEntry} (found : ps.find? (fun e => e.prompt == p) = some e) :
    ((ps.map (·.windowed p)).find? fun e => e.prompt == p).map (·.showCount) = some (min 16 (e.showCount + 1)) := by
  rw [find?_map_prompt (PromptEntry.windowed_prompt p), found]
  have prompt : e.prompt = p := by simpa using List.find?_some found
  exact congrArg some (PromptEntry.windowed_count prompt)

/-- A new request in force with its tone (R50, R141). -/
theorem Horn.ticked_new {h : Horn} (new : h.isNew = true) (p : Prompt) (t : ToneTimer) : (h.ticked p t).1 =
    ⟨h.requested, false, h.requested, if h.requested = .single then 4 else h.singleCount, if 6 ≤ p.priority then .high else .low⟩ ∧
    (h.ticked p t).2 = t.follow h.inForce h.requested p.tone := by
  rw [Horn.ticked, if_pos new]
  exact ⟨rfl, rfl⟩

theorem Horn.ticked_old {h : Horn} (old : h.isNew = false) (p : Prompt) (t : ToneTimer) : (h.ticked p t).2 = t ∧
    (h.ticked p t).1 = { h with singleCount := h.singleCount - (if h.inForce = .single then 1 else 0) } := by
  rw [Horn.ticked, if_neg (by simp [old])]
  by_cases single : h.inForce = .single
  · rw [if_pos single, if_pos single]
    exact ⟨rfl, rfl⟩
  · rw [if_neg single, if_neg single]
    exact ⟨rfl, rfl⟩

theorem Prompt.tone_reload (p : Prompt) : p.tone.reload = if 6 ≤ p.priority then 24 else 61 := by
  unfold Prompt.tone
  split <;> rfl

theorem guidanceTick_outcome {s : State} (quiet : s.quiet = true) (other : s.rollerActive = false ∨ s.roller.phase ≠ .spinUp) {p : Prompt}
    (shown : s.guidance.displayed = some p) (first : List TickTaker) {h : HornPattern} (request : h = s.guidance.horn.requested) {reload : Nat}
    (value : reload = (if 6 ≤ p.priority then 24 else 61)) : Completes (.tick8Hz first) s (fun t => t.guidance.displayed = some p ∧
        (∀ e, s.guidance.find p = some e → (t.guidance.find p).map (·.showCount) = some (min 16 (e.showCount + 1))) ∧
        (s.guidance.horn.isNew = true →
          t.guidance.horn = ⟨h, false, h, if h = .single then 4 else s.guidance.horn.singleCount, if 6 ≤ p.priority then .high else .low⟩ ∧
          (h = .off → t.timers.tone = { s.timers.tone with reload := reload, running := false, output := false }) ∧
          (h ≠ .off → s.guidance.horn.inForce = .off → t.timers.tone = ⟨reload, reload, true, false⟩) ∧
          (h ≠ .off → s.guidance.horn.inForce ≠ .off → t.timers.tone = { s.timers.tone with reload := reload })) ∧
        (s.guidance.horn.isNew = false → t.timers.tone = s.timers.tone ∧ t.guidance.horn = { s.guidance.horn with
          singleCount := s.guidance.horn.singleCount - (if s.guidance.horn.inForce = .single then 1 else 0) })) := by
  have display := tick8_display first ⟨other, shown⟩
  have prompts : (tick8 first s).guidance.prompts = s.guidance.prompts.map (·.windowed p) := congrArg Display.prompts display
  have horn : (tick8 first s).guidance.horn = (s.guidance.horn.ticked p s.timers.tone).1 := congrArg Display.horn display
  have tone : (tick8 first s).timers.tone = (s.guidance.horn.ticked p s.timers.tone).2 := congrArg Display.tone display
  refine ⟨_, exec_outside_quiet quiet (tick8 first), (congrArg Display.displayed display).trans shown, fun e found => ?_, fun new => ?_,
    fun old => ?_⟩
  · have looked : (tick8 first s).guidance.find p = (s.guidance.prompts.map (·.windowed p)).find? fun e => e.prompt == p := by
      rw [Guidance.find, prompts]
    rw [looked]
    exact windowed_find found
  · obtain ⟨inForce, follows⟩ := Horn.ticked_new new p s.timers.tone
    rw [← request] at inForce follows
    rw [horn, tone, inForce, follows]
    unfold ToneTimer.follow
    rw [Prompt.tone_reload, ← value]
    refine ⟨rfl, fun off => if_pos off, fun on before => ?_, fun on before => ?_⟩
    · rw [if_neg on, if_pos before]
    · rw [if_neg on, if_neg before]
  · obtain ⟨same, falls⟩ := Horn.ticked_old old p s.timers.tone
    rw [horn, tone]
    exact ⟨same, falls⟩

end Sys2Proof.Machine
end

section
/-! The lane entry judged at a 1 Hz tick, and the guidance unit's events settled (R46, R139, R146). -/

namespace Sys2Proof.Machine

/-! ### The guidance unit as the judgement finds it -/

/-- The station as the lane-entry judgement of a 1 Hz tick finds it (R46). -/
def State.refreshed (s : State) : State := refreshPanel s.aged

theorem tick1_guidance (s : State) : (tick1 s).guidance = (judgeEntry s.refreshed).guidance := rfl

theorem refreshed_items (s : State) : s.refreshed.guidance.prompts = s.guidance.prompts ∧ s.refreshed.guidance.horn = s.guidance.horn ∧
    s.refreshed.lane = s.lane ∧ s.refreshed.isPanel = s.isPanel ∧ s.refreshed.bus.peers = s.bus.aged.peers := by
  have aged : s.aged.guidance = s.guidance := aged_changes s .guidance (by simp)
  have refresh (r : State) : (refreshPanel r).guidance.prompts = r.guidance.prompts ∧ (refreshPanel r).guidance.horn = r.guidance.horn := by
    have due (f : List Byte) : (r.guidance.due f).horn = r.guidance.horn := by
      unfold Guidance.due
      split <;> rfl
    unfold refreshPanel
    split
    · exact ⟨r.guidance.prompts_due _, due _⟩
    · exact ⟨rfl, rfl⟩
  obtain ⟨prompts, horn⟩ := refresh s.aged
  have frame := refreshPanel_within s.aged
  have power : s.refreshed.power = s.power := (frame.1 .power (by simp)).trans (aged_changes s .power (by simp))
  have startUp : s.refreshed.startUp = s.startUp := (frame.1 .startUp (by simp)).trans (aged_changes s .startUp (by simp))
  have peers : s.aged.bus.peers = s.bus.aged.peers := by simp [State.aged]
  refine ⟨prompts.trans (by rw [aged]), horn.trans (by rw [aged]), (frame.1 .lane (by simp)).trans (aged_changes s .lane (by simp)), ?_,
    frame.sameBus.2.2.2.1.trans peers⟩
  rw [State.isPanel, State.isRunning, power, startUp]
  rfl

theorem find?_map_peer {l : List Peer} {F : Peer → Peer} {P : Peer → Bool} (same : ∀ q, P (F q) = P q) :
    (l.map F).find? P = (l.find? P).map F := by
  rw [List.find?_map]
  congr 2
  funext q
  exact same q

/-- A peer at a 1 Hz tick (R35). -/
def Peer.aged (q : Peer) : Peer := { q with age := q.age + 1 }

/-- The busy roller of the judgement, in the peer list as it stood before the tick: a peer's age decides nothing (R146). -/
theorem refreshed_busyRoller (s : State) (entering : Nat) : s.refreshed.busyRoller entering =
    (s.bus.peers.find? fun q => q.role = some .roller ∧ q.activity = some .testing ∧ q.ticket ≠ some entering).map (·.station) := by
  have peers := (refreshed_items s).2.2.2.2
  have judged : s.bus.aged.peers = s.bus.peers.map Peer.aged := rfl
  have asked (q : Peer) : (q.role == some .roller && q.activity == some .testing && decide (q.ticket ≠ some entering)) =
      decide (q.role = some .roller ∧ q.activity = some .testing ∧ q.ticket ≠ some entering) :=
    Bool.eq_iff_iff.mpr (by simp [and_assoc])
  unfold State.busyRoller
  rw [peers, judged, find?_map_peer (F := Peer.aged) fun q => rfl]
  simp only [asked]
  rw [Option.map_map]
  rfl

/-! ### The judgement (R146) -/

theorem raiseOrUpdate_shows {p : Prompt} {f : PromptFields} {s : State} (standing : s.guidance.isRaised p = true → ∃ k, s.guidance.Shows p k) :
    (raiseOrUpdate p f s).guidance.Shows p f := by
  unfold raiseOrUpdate
  split
  · rename_i raised
    obtain ⟨k, shows⟩ := standing raised
    split
    · rename_i same
      have fields : k = f := Option.some.inj (shows.find_fields.symm.trans same)
      rw [← fields]
      exact shows
    · exact updateFields_shows shows f
  · exact raise_shows p f s

theorem raiseOrUpdate_stands {p : Prompt} {f : PromptFields} {s : State} (raised : s.guidance.isRaised p = true)
    (fields : (s.guidance.find p).map (·.fields) = some f) : raiseOrUpdate p f s = s := (if_pos raised).trans (if_pos fields)

theorem lowerIfRaised_stands {p : Prompt} {s : State} (low : s.guidance.isRaised p = false) : lowerIfRaised p s = s := if_neg (by simp [low])

/-- Where no prompt stands twice, each raised prompt shows its fields. -/
def Guidance.ShowsAll (g : Guidance) : Prop := ∀ p, g.isRaised p = true → ∃ k, g.Shows p k

theorem Guidance.showsAll_of_once {g : Guidance} (once : (g.prompts.map (·.prompt)).Nodup) : g.ShowsAll := fun p raised => by
  obtain ⟨x, mem, here⟩ := List.any_eq_true.mp raised
  obtain ⟨e, found⟩ : ∃ e, g.find p = some e :=
    Option.isSome_iff_exists.mp (List.find?_isSome.mpr ⟨x, mem, (Bool.and_eq_true _ _ ▸ here).1⟩)
  exact ⟨e.fields, Guidance.shows_of_raised once found raised⟩

/-- The judgement with a busy roller: WAIT for it, DRIVE_ON lowered (R146). -/
theorem judgeEntry_waits {s : State} (panel : s.isPanel = true) (all : s.guidance.ShowsAll) {n : Nat}
    (busy : s.busyRoller (s.lane.expected .roller).ticket = some n) :
    (judgeEntry s).guidance.isRaised .wait = true ∧ (judgeEntry s).guidance.isRaised .driveOn = false ∧
    ((judgeEntry s).guidance.find .wait).map (·.fields) = some { station := some n } ∧
    (s.guidance.isRaised .wait = true → (s.guidance.find .wait).map (·.fields) = some { station := some n } →
      s.guidance.isRaised .driveOn = false → judgeEntry s = s) := by
  have judged : judgeEntry s = lowerIfRaised .driveOn (raiseOrUpdate .wait { station := some n } s) := by
    unfold judgeEntry
    rw [if_neg (by simp [panel])]
    dsimp only
    rw [busy]
  rw [judged]
  refine ⟨?_, ?_, ?_, fun wait fields driveOn => ?_⟩
  · rw [lowerIfRaised_isRaised, raiseOrUpdate_isRaised]
    rfl
  · rw [lowerIfRaised_isRaised]
    simp
  · exact (lowerIfRaised_shows (raiseOrUpdate_shows (all .wait)) (by simp)).find_fields
  · rw [raiseOrUpdate_stands wait fields]
    exact lowerIfRaised_stands driveOn

/-- The judgement for an entering ticket with the rollers free: DRIVE_ON for it, WAIT lowered (R146). -/
theorem judgeEntry_calls {s : State} (panel : s.isPanel = true) (all : s.guidance.ShowsAll)
    (free : s.busyRoller (s.lane.expected .roller).ticket = none) (entering : (s.lane.expected .roller).ticket ≠ 0) :
    (judgeEntry s).guidance.isRaised .wait = false ∧ (judgeEntry s).guidance.isRaised .driveOn = true ∧
    ((judgeEntry s).guidance.find .driveOn).map (·.fields) = some { ticket := some (s.lane.expected .roller).ticket } ∧
    (s.guidance.isRaised .driveOn = true →
      (s.guidance.find .driveOn).map (·.fields) = some { ticket := some (s.lane.expected .roller).ticket } →
      s.guidance.isRaised .wait = false → judgeEntry s = s) := by
  have judged : judgeEntry s =
      raiseOrUpdate .driveOn { ticket := some (s.lane.expected .roller).ticket } (lowerIfRaised .wait s) := by
    unfold judgeEntry
    rw [if_neg (by simp [panel])]
    dsimp only
    rw [free]
    exact if_neg entering
  rw [judged]
  refine ⟨?_, ?_, ?_, fun driveOn fields wait => ?_⟩
  · rw [raiseOrUpdate_isRaised, lowerIfRaised_isRaised]
    simp
  · rw [raiseOrUpdate_isRaised]
    rfl
  · refine (raiseOrUpdate_shows fun raised => ?_).find_fields
    rw [lowerIfRaised_isRaised, Bool.and_eq_true] at raised
    obtain ⟨k, shows⟩ := all .driveOn raised.1
    exact ⟨k, lowerIfRaised_shows shows (by simp)⟩
  · rw [lowerIfRaised_stands wait]
    exact raiseOrUpdate_stands driveOn fields

/-- The judgement with nobody entering: both prompts lowered (R146). -/
theorem judgeEntry_rests {s : State} (panel : s.isPanel = true) (free : s.busyRoller (s.lane.expected .roller).ticket = none)
    (nobody : (s.lane.expected .roller).ticket = 0) :
    (judgeEntry s).guidance.isRaised .wait = false ∧ (judgeEntry s).guidance.isRaised .driveOn = false := by
  have judged : judgeEntry s = lowerIfRaised .driveOn (lowerIfRaised .wait s) := by
    unfold judgeEntry
    rw [if_neg (by simp [panel])]
    dsimp only
    rw [free]
    exact if_pos nobody
  rw [judged, lowerIfRaised_isRaised, lowerIfRaised_isRaised, lowerIfRaised_isRaised]
  simp

theorem laneEntry_outcome {s : State} (quiet : s.quiet = true) (panel : s.isPanel = true) (law : s.promptLaw = true) {entering : Nat}
    (ticket : entering = (s.lane.expected .roller).ticket) {busy : Option Peer}
    (roller : busy = s.bus.peers.find? (fun q => q.role = some .roller ∧ q.activity = some .testing ∧ q.ticket ≠ some entering)) :
    Completes .tick1Hz s (fun t =>
        (∀ q, busy = some q → t.guidance.isRaised .wait = true ∧ t.guidance.isRaised .driveOn = false ∧
          (t.guidance.find .wait).map (·.fields) = some { station := some q.station } ∧
          (s.guidance.isRaised .wait = true → (s.guidance.find .wait).map (·.fields) = some { station := some q.station } →
            s.guidance.isRaised .driveOn = false → t.guidance.prompts = s.guidance.prompts ∧ t.guidance.horn = s.guidance.horn)) ∧
        (busy = none → entering ≠ 0 → t.guidance.isRaised .wait = false ∧ t.guidance.isRaised .driveOn = true ∧
          (t.guidance.find .driveOn).map (·.fields) = some { ticket := some entering } ∧
          (s.guidance.isRaised .driveOn = true → (s.guidance.find .driveOn).map (·.fields) = some { ticket := some entering } →
            s.guidance.isRaised .wait = false → t.guidance.prompts = s.guidance.prompts ∧ t.guidance.horn = s.guidance.horn)) ∧
        (busy = none → entering = 0 → t.guidance.isRaised .wait = false ∧ t.guidance.isRaised .driveOn = false)) := by
  obtain ⟨prompts, horn, lane, samePanel, -⟩ := refreshed_items s
  have once : (s.guidance.prompts.map (·.prompt)).Nodup := of_decide_eq_true (Bool.and_eq_true _ _ ▸ law).1
  have all : s.refreshed.guidance.ShowsAll := Guidance.showsAll_of_once (by rw [prompts]; exact once)
  have panel' : s.refreshed.isPanel = true := samePanel.trans panel
  have enters : (s.refreshed.lane.expected .roller).ticket = entering := by rw [lane, ticket]
  have found : s.refreshed.busyRoller (s.refreshed.lane.expected .roller).ticket = busy.map (·.station) := by
    rw [enters, refreshed_busyRoller, roller]
  have raised (p : Prompt) : s.refreshed.guidance.isRaised p = s.guidance.isRaised p := by
    rw [Guidance.isRaised, prompts]
    rfl
  have look (p : Prompt) : s.refreshed.guidance.find p = s.guidance.find p := Guidance.find_congr prompts p
  have stands (same : judgeEntry s.refreshed = s.refreshed) :
      (tick1 s).guidance.prompts = s.guidance.prompts ∧ (tick1 s).guidance.horn = s.guidance.horn := by
    rw [tick1_guidance, same]
    exact ⟨prompts, horn⟩
  refine ⟨_, exec_outside_quiet quiet tick1, fun q is => ?_, fun idle other => ?_, fun idle nobody => ?_⟩
  · obtain ⟨wait, driveOn, fields, same⟩ := judgeEntry_waits panel' all (n := q.station) (by rw [found, is]; rfl)
    rw [raised, raised, look] at same
    exact ⟨wait, driveOn, fields, fun w f d => stands (same w f d)⟩
  · obtain ⟨wait, driveOn, fields, same⟩ := judgeEntry_calls panel' all (by rw [found, idle]; rfl) (by rw [enters]; exact other)
    rw [raised, raised, look, enters] at same
    rw [enters] at fields
    exact ⟨wait, driveOn, fields, fun d f w => stands (same d f w)⟩
  · have rests := judgeEntry_rests panel' (by rw [found, idle]; rfl) (by rw [enters]; exact nobody)
    exact rests

/-- Settles O51, event by event. -/
theorem guidanceEventsActOnThePanel : Obligations.GuidanceEventsActOnThePanel := fun s =>
  ⟨minimumShow_outcome, fun _ _ _ event ready => lifeEnd_outcome event ready,
    fun ready => (exec_named (.singleCountEnd, .singleEnd) (by decide) s).trans (congrArg _ (named_ready ready)), panelFrameSent_outcome,
    fun quiet other _ shown first _ request _ value => guidanceTick_outcome quiet other shown first request value,
    fun quiet panel law _ ticket _ roller => laneEntry_outcome quiet panel law ticket roller⟩

end Sys2Proof.Machine
end

section
/-! CERT_REQUEST and REPRINT_REQUEST of a listed station, by their first case (R150, R151, R169). -/

namespace Sys2Proof.Machine

/-! ### The lookup (R169) -/

theorem Archive.erasesBlock_eq_false {a : Archive} {b : Nat} :
    a.erasesBlock b = false ↔ ∀ block c entered, a.op = .erasing block c entered → b ≠ block := by
  unfold Archive.erasesBlock
  split
  · rename_i block c entered erases
    rw [beq_eq_false_iff_ne]
    exact ⟨fun apart x _ _ same => by cases erases.symm.trans same; exact fun h => apart h.symm,
      fun apart => (apart block c entered erases).symm⟩
  · rename_i other
    exact iff_of_true rfl fun block c entered erases => absurd erases (other block c entered)

/-- The slots that answer a lookup are those that offer the number. -/
theorem Archive.offers_iff {a : Archive} {n : CertNo} {i : Nat} : a.offers n i ↔
    i < 32 ∧ ((a.row i).state == .record && (a.row i).number == some n && !a.erasesBlock (blockOf i)) = true := by
  unfold Archive.offers
  rw [Bool.and_eq_true, Bool.and_eq_true, Bool.not_eq_true', Archive.erasesBlock_eq_false, beq_iff_eq, beq_iff_eq, and_assoc]
  exact Iff.rfl

theorem Archive.lookup_eq_some_iff {a : Archive} {n : CertNo} {i : Nat} : a.lookup n = some i ↔ a.offers n i ∧ ∀ k, k < i → ¬a.offers n k := by
  unfold Archive.lookup
  rw [List.find?_range_eq_some, Archive.offers_iff]
  constructor
  · rintro ⟨here, low, lower⟩
    have bound : i < 32 := List.mem_range.mp low
    refine ⟨⟨bound, here⟩, fun k below offers => ?_⟩
    have not := lower k below
    rw [(Archive.offers_iff.mp offers).2] at not
    cases not
  · rintro ⟨⟨bound, here⟩, lower⟩
    refine ⟨here, List.mem_range.mpr bound, fun k below => ?_⟩
    rw [Bool.not_eq_true']
    by_contra offers
    exact lower k below (Archive.offers_iff.mpr ⟨below.trans bound, (Bool.not_eq_false _).mp offers⟩)

theorem Archive.lookup_eq_none {a : Archive} {n : CertNo} (nowhere : ∀ i, i < 32 → ¬a.offers n i) : a.lookup n = none := by
  cases found : a.lookup n with
  | none => rfl
  | some i =>
    have offers := (Archive.lookup_eq_some_iff.mp found).1
    exact absurd offers (nowhere i offers.1)

/-! ### The passage of a listed station's frame -/

/-- A frame of a listed station that is no PRESENCE refreshes its entry, and nothing is reported (R34, R37). -/
theorem passage_listed {f : WireFrame} {s : State} (silent : f.announces = false) (other : f.source ≠ s.startUp.ownNumber)
    (known : (s.bus.peer f.source).isSome = true) : passage f s = listed f s := by
  have before : (frameEnds f s).bus.hasPeer f.source = true := by
    rw [Bus.hasPeer_eq]
    exact known
  rw [passage, if_neg other, enterPeer, silent]
  exact if_neg (by simp [before])

/-- The state in which the blocks find a request. -/
structure State.Requested (s r : State) : Prop where
  startUp : r.startUp = s.startUp
  power : r.power = s.power
  lane : r.lane = s.lane
  cert : r.cert = s.cert
  archive : r.archive = s.archive
  guidance : r.guidance = s.guidance
  queue : r.bus.queue = s.bus.queue
  can : r.bus.canQueue = s.bus.canQueue

theorem listed_requested (f : WireFrame) (s : State) : s.Requested (listed f s) := by
  obtain ⟨mode, -, -, queue, -, -⟩ := (frameEnds f s).bus.hearPeer_fields f.source f.fields
  refine ⟨rfl, rfl, rfl, rfl, rfl, rfl, queue, ?_⟩
  change ((frameEnds f s).bus.hearPeer f.source f.fields).canQueue = s.bus.canQueue
  unfold Bus.canQueue
  rw [mode]
  rfl

theorem State.Requested.takes {s r : State} (h : s.Requested r) : r.takesRequests = (s.started && s.bus.canQueue) := by
  rw [State.takesRequests, State.started, State.isRunning, h.startUp, h.power, h.can]
  rfl

/-- What a request leaves, whatever it is answered. -/
structure State.Judged (s t : State) : Prop where
  lane : t.lane = s.lane
  archive : t.archive = s.archive
  guidance : t.guidance = s.guidance

theorem State.Requested.refuses {s r : State} (h : s.Requested r) {n : Nat} (someone : n ≠ 0) (subject : Subject) (o : AnswerOutcome) :
    (answer n subject o r).cert = s.cert ∧ s.queues (answer n subject o r) (.printAnswer n subject o) := by
  have queued : answer n subject o r = queueFrame (.printAnswer n subject o) r := if_neg someone
  rw [queued]
  exact ⟨by simp [h.cert], queues_of_keeps h.can rfl (.refl _)⟩

theorem certRequest_judged (n ticket : Nat) (s : State) : s.Judged (certRequest n ticket s) := by
  have frame := certRequest_within n ticket s
  exact ⟨frame.1 .lane (by simp), frame.1 .archive (by simp), frame.1 .guidance (by simp)⟩

theorem reprintRequest_judged (requester : Nat) (n : CertNo) (s : State) : s.Judged (reprintRequest requester n s) := by
  have frame := reprintRequest_within requester n s
  exact ⟨frame.1 .lane (by simp), frame.1 .archive (by simp), frame.1 .guidance (by simp)⟩

theorem Cert.names_iff {u : Cert} {n : Nat} : u.names n = true ↔ ∃ j ∈ u.jobs, j.subject = .ticket n := by
  simp [Cert.names]

/-! ### CERT_REQUEST (R150) -/

/-- The cases of R150 at a station that takes requests, in their order. -/
theorem certRequest_cases {s : State} (takes : s.takesRequests = true) (n ticket : Nat) :
    (s.startUp.printer = false → certRequest n ticket s = answer n (.ticket ticket) .refusedNoPrinter s) ∧
    (s.startUp.printer = true → (s.lane.find ticket).all (fun e => e.state = .abandoned) = true →
      certRequest n ticket s = answer n (.ticket ticket) .refusedUnknown s) ∧
    (s.startUp.printer = true → (s.lane.find ticket).any (fun e => e.state ≠ .abandoned) = true →
      ((∃ j ∈ s.cert.jobs, j.subject = .ticket ticket) → certRequest n ticket s = s.setCert (s.cert.setRequester ticket n)) ∧
      ((∀ j ∈ s.cert.jobs, j.subject ≠ .ticket ticket) → 4 ≤ s.cert.jobs.length →
        certRequest n ticket s = answer n (.ticket ticket) .refusedQueueFull s) ∧
      ((∀ j ∈ s.cert.jobs, j.subject ≠ .ticket ticket) → s.cert.jobs.length < 4 → certRequest n ticket s = addJob (.ticket ticket) n s)) := by
  have judged : certRequest n ticket s =
      if !s.startUp.printer then answer n (.ticket ticket) .refusedNoPrinter s
      else if (s.lane.find ticket).all (fun e => e.state == .abandoned) then answer n (.ticket ticket) .refusedUnknown s
      else if s.cert.names ticket then s.setCert (s.cert.setRequester ticket n)
      else if Config.jobQueueSize ≤ s.cert.jobs.length then answer n (.ticket ticket) .refusedQueueFull s
      else addJob (.ticket ticket) n s := if_neg (by simp [takes])
  have known (listed : (s.lane.find ticket).any (fun e => e.state ≠ .abandoned) = true) :
      ¬(s.lane.find ticket).all (fun e => e.state == .abandoned) = true := by
    cases found : s.lane.find ticket with
    | none => rw [found] at listed; cases listed
    | some e =>
      rw [found] at listed
      simpa using listed
  rw [judged]
  refine ⟨fun off => if_pos (by simp [off]), fun on gone => ?_, fun on listed => ⟨fun named => ?_, fun unnamed full => ?_, fun unnamed room => ?_⟩⟩
  · rw [if_neg (by simp [on])]
    exact if_pos gone
  · rw [if_neg (by simp [on]), if_neg (known listed)]
    exact if_pos (Cert.names_iff.mpr named)
  · rw [if_neg (by simp [on]), if_neg (known listed), if_neg (by rw [Cert.names_iff]; rintro ⟨j, mem, same⟩; exact unnamed j mem same)]
    exact if_pos full
  · rw [if_neg (by simp [on]), if_neg (known listed), if_neg (by rw [Cert.names_iff]; rintro ⟨j, mem, same⟩; exact unnamed j mem same)]
    exact if_neg (not_le.mpr room)

theorem certRequest_outcome {s : State} {src : BitVec 4} {p : List Byte} (listens : s.listens src = true)
    (other : src.toNat ≠ s.startUp.ownNumber) (known : (s.bus.peer src.toNat).isSome = true) (length : p.length = 3) :
    Completes (.certRequest src p) s (fun t => t.lane = s.lane ∧ t.archive = s.archive ∧ t.guidance = s.guidance ∧
      (byteAt p 0 ≠ s.startUp.ownNumber ∨ s.started = false ∨ s.bus.canQueue = false →
        t.cert = s.cert ∧ t.bus.queue = s.bus.queue) ∧
      (byteAt p 0 = s.startUp.ownNumber → s.started = true → s.bus.canQueue = true →
        (s.startUp.printer = false →
          t.cert = s.cert ∧ s.queues t (.printAnswer src.toNat (.ticket (wordAt p 1)) .refusedNoPrinter)) ∧
        (s.startUp.printer = true → (s.lane.find (wordAt p 1)).all (fun e => e.state = .abandoned) = true →
          t.cert = s.cert ∧ s.queues t (.printAnswer src.toNat (.ticket (wordAt p 1)) .refusedUnknown)) ∧
        (s.startUp.printer = true → (s.lane.find (wordAt p 1)).any (fun e => e.state ≠ .abandoned) = true →
          ((∃ j ∈ s.cert.jobs, j.subject = .ticket (wordAt p 1)) → t.bus.queue = s.bus.queue ∧ t.cert = { s.cert with
            jobs := s.cert.jobs.map fun j => if j.subject = .ticket (wordAt p 1) then { j with requester := src.toNat } else j }) ∧
          ((∀ j ∈ s.cert.jobs, j.subject ≠ .ticket (wordAt p 1)) → 4 ≤ s.cert.jobs.length →
            t.cert = s.cert ∧ s.queues t (.printAnswer src.toNat (.ticket (wordAt p 1)) .refusedQueueFull)) ∧
          ((∀ j ∈ s.cert.jobs, j.subject ≠ .ticket (wordAt p 1)) → s.cert.jobs.length < 4 → t.bus.queue = s.bus.queue ∧
            t.cert = { s.cert with jobs := s.cert.jobs ++ [⟨.ticket (wordAt p 1), src.toNat, .queued⟩] })))) := by
  let f : WireFrame := ⟨2, 8, src.toNat, p⟩
  have station := (State.listens_iff.mp listens).2.2
  obtain ⟨r, passed⟩ : ∃ r, r = passage f s := ⟨_, rfl⟩
  have asked : s.Requested r := by
    rw [passed, passage_listed (f := f) (by simp [f, WireFrame.announces]) other known]
    exact listed_requested f s
  have judged : r.Judged (onCertRequest src.toNat p r) := by
    unfold onCertRequest
    split
    · exact certRequest_judged _ _ r
    · exact ⟨rfl, rfl, rfl⟩
  refine ⟨_, heard_passage (cls := 2) (kind := 8) listens (by simp [kindLength, length]) _, ?_⟩
  change (onCertRequest src.toNat p (passage f s)).lane = s.lane ∧ _
  rw [← passed]
  refine ⟨judged.lane.trans asked.lane, judged.archive.trans asked.archive, judged.guidance.trans asked.guidance, fun deaf => ?_,
    fun mine started open' => ?_⟩
  · have stays : onCertRequest src.toNat p r = r := by
      unfold onCertRequest
      by_cases mine : byteAt p 0 = s.startUp.ownNumber
      · have closed : r.takesRequests = false := by
          rw [asked.takes]
          rcases deaf with away | off | shut
          · exact absurd mine away
          · simp [off]
          · simp [shut]
        rw [if_pos (by rw [asked.startUp]; exact mine)]
        exact if_pos (by simp [closed])
      · exact if_neg (by rw [asked.startUp]; exact mine)
    rw [stays]
    exact ⟨asked.cert, asked.queue⟩
  · have takes : r.takesRequests = true := by rw [asked.takes, started, open']; rfl
    have taken : onCertRequest src.toNat p r = certRequest src.toNat (wordAt p 1) r := if_pos (by rw [asked.startUp]; exact mine)
    obtain ⟨noPrinter, unknown, rest⟩ := certRequest_cases takes src.toNat (wordAt p 1)
    rw [asked.startUp] at noPrinter unknown rest
    rw [asked.lane] at unknown rest
    rw [asked.cert] at rest
    rw [taken]
    refine ⟨fun off => ?_, fun on gone => ?_, fun on listed => ?_⟩
    · rw [noPrinter off]
      exact asked.refuses station _ _
    · rw [unknown on gone]
      exact asked.refuses station _ _
    · obtain ⟨replaces, full, adds⟩ := rest on listed
      refine ⟨fun named => ?_, fun unnamed many => ?_, fun unnamed room => ?_⟩
      · rw [replaces named]
        exact ⟨asked.queue, rfl⟩
      · rw [full unnamed many]
        exact asked.refuses station _ _
      · rw [adds unnamed room, addJob, asked.cert]
        exact ⟨asked.queue, rfl⟩

end Sys2Proof.Machine
end

section
/-! ### Requests, settled -/

namespace Sys2Proof.Machine

/-! #### What the archive answers (R151, R169) -/

theorem Archive.ask_found {a : Archive} {n : CertNo} {i : Nat} (found : a.lookup n = some i) {c : CertContent}
    (read : (a.store i).content = some c) : a.ask n = .found (a.row i).marks c := by
  unfold Archive.ask
  rw [found]
  dsimp only
  rw [read]

theorem Archive.ask_damaged {a : Archive} {n : CertNo} {i : Nat} (found : a.lookup n = some i) (damaged : (a.store i).content = none) :
    a.ask n = .damaged := by
  unfold Archive.ask
  rw [found]
  dsimp only
  rw [damaged]

/-- The first three cases of R151. -/
theorem Archive.judge_cases (a : Archive) (n : CertNo) :
    (a.lookup n = none → a.judge n = .inl .refusedUnknown) ∧
    ∀ i, a.lookup n = some i →
      ((a.store i).content = none → a.judge n = .inl .refusedDamaged) ∧
      ∀ c, (a.store i).content = some c →
        (3 ≤ (a.row i).marks → a.judge n = .inl .refusedLimit) ∧ ((a.row i).marks < 3 → a.judge n = .inr ((a.row i).marks, c)) := by
  refine ⟨fun unlisted => ?_, fun i found => ⟨fun damaged => ?_, fun c read => ⟨fun many => ?_, fun few => ?_⟩⟩⟩
  · have asked : a.ask n = .notFound := by rw [Archive.ask, unlisted]
    rw [Archive.judge, asked]
  · rw [Archive.judge, Archive.ask_damaged found damaged]
  · rw [Archive.judge, Archive.ask_found found read]
    exact if_pos many
  · rw [Archive.judge, Archive.ask_found found read]
    exact if_neg (not_le.mpr few)

/-! #### REPRINT_REQUEST (R151) -/

theorem reprintRequest_refuses {s : State} (takes : s.takesRequests = true) {n : CertNo} {o : AnswerOutcome} (judged : s.archive.judge n = .inl o)
    (requester : Nat) : reprintRequest requester n s = answer requester (.certificate n) o s := by
  unfold reprintRequest
  rw [if_neg (by simp [takes]), judged]

theorem reprintRequest_found {s : State} (takes : s.takesRequests = true) {n : CertNo} {found : Nat × CertContent}
    (judged : s.archive.judge n = .inr found) (requester : Nat) :
    (s.startUp.printer = false → reprintRequest requester n s = answer requester (.certificate n) .refusedNoPrinter s) ∧
    (s.startUp.printer = true → 4 ≤ s.cert.jobs.length →
      reprintRequest requester n s = answer requester (.certificate n) .refusedQueueFull s) ∧
    (s.startUp.printer = true → s.cert.jobs.length < 4 → reprintRequest requester n s = addJob (.certificate n) requester s) := by
  have rest : reprintRequest requester n s = if !s.startUp.printer then answer requester (.certificate n) .refusedNoPrinter s
      else if Config.jobQueueSize ≤ s.cert.jobs.length then answer requester (.certificate n) .refusedQueueFull s
      else addJob (.certificate n) requester s := by
    unfold reprintRequest
    rw [if_neg (by simp [takes]), judged]
  rw [rest]
  refine ⟨fun off => if_pos (by simp [off]), fun on full => ?_, fun on room => ?_⟩
  · rw [if_neg (by simp [on])]
    exact if_pos full
  · rw [if_neg (by simp [on])]
    exact if_neg (not_le.mpr room)

theorem reprintRequest_outcome {s : State} {src : BitVec 4} {p : List Byte} (listens : s.listens src = true)
    (other : src.toNat ≠ s.startUp.ownNumber) (known : (s.bus.peer src.toNat).isSome = true) (length : p.length = 4)
    (mine : byteAt p 0 = s.startUp.ownNumber) (started : s.started = true) (open' : s.bus.canQueue = true) :
    Completes (.reprintRequest src p) s (fun t => t.lane = s.lane ∧ t.archive = s.archive ∧ t.guidance = s.guidance ∧
      ((∀ i, i < 32 → ¬s.archive.offers ⟨byteAt p 1, wordAt p 2⟩ i) →
        t.cert = s.cert ∧ s.queues t (.printAnswer src.toNat (.certificate ⟨byteAt p 1, wordAt p 2⟩) .refusedUnknown)) ∧
      ∀ i, s.archive.lookup ⟨byteAt p 1, wordAt p 2⟩ = some i →
        ((s.archive.store i).content = none →
          t.cert = s.cert ∧ s.queues t (.printAnswer src.toNat (.certificate ⟨byteAt p 1, wordAt p 2⟩) .refusedDamaged)) ∧
        (∀ c, (s.archive.store i).content = some c →
          (3 ≤ (s.archive.row i).marks →
            t.cert = s.cert ∧ s.queues t (.printAnswer src.toNat (.certificate ⟨byteAt p 1, wordAt p 2⟩) .refusedLimit)) ∧
          ((s.archive.row i).marks < 3 →
            (s.startUp.printer = false →
              t.cert = s.cert ∧ s.queues t (.printAnswer src.toNat (.certificate ⟨byteAt p 1, wordAt p 2⟩) .refusedNoPrinter)) ∧
            (s.startUp.printer = true → 4 ≤ s.cert.jobs.length →
              t.cert = s.cert ∧ s.queues t (.printAnswer src.toNat (.certificate ⟨byteAt p 1, wordAt p 2⟩) .refusedQueueFull)) ∧
            (s.startUp.printer = true → s.cert.jobs.length < 4 → t.cert = { s.cert with
              jobs := s.cert.jobs ++ [⟨.certificate ⟨byteAt p 1, wordAt p 2⟩, src.toNat, .queued⟩] })))) := by
  let f : WireFrame := ⟨2, 9, src.toNat, p⟩
  have station := (State.listens_iff.mp listens).2.2
  obtain ⟨r, passed⟩ : ∃ r, r = passage f s := ⟨_, rfl⟩
  have asked : s.Requested r := by
    rw [passed, passage_listed (f := f) (by simp [f, WireFrame.announces]) other known]
    exact listed_requested f s
  have takes : r.takesRequests = true := by rw [asked.takes, started, open']; rfl
  have taken : onReprintRequest src.toNat p r = reprintRequest src.toNat ⟨byteAt p 1, wordAt p 2⟩ r :=
    if_pos (by rw [asked.startUp]; exact mine)
  have left := reprintRequest_judged src.toNat ⟨byteAt p 1, wordAt p 2⟩ r
  obtain ⟨unlisted, listed⟩ := s.archive.judge_cases ⟨byteAt p 1, wordAt p 2⟩
  have refuses {o : AnswerOutcome} (judged : s.archive.judge ⟨byteAt p 1, wordAt p 2⟩ = .inl o) :=
    reprintRequest_refuses takes (by rw [asked.archive]; exact judged) src.toNat
  have found {c : Nat × CertContent} (judged : s.archive.judge ⟨byteAt p 1, wordAt p 2⟩ = .inr c) :=
    reprintRequest_found takes (by rw [asked.archive]; exact judged) src.toNat
  rw [asked.startUp, asked.cert] at found
  refine ⟨_, heard_passage (cls := 2) (kind := 9) listens (by simp [kindLength, length]) _, ?_⟩
  change (onReprintRequest src.toNat p (passage f s)).lane = s.lane ∧ _
  rw [← passed, taken]
  refine ⟨left.lane.trans asked.lane, left.archive.trans asked.archive, left.guidance.trans asked.guidance, fun nowhere => ?_,
    fun i slot => ⟨fun damaged => ?_, fun c read => ⟨fun many => ?_, fun few => ⟨fun off => ?_, fun on full => ?_, fun on room => ?_⟩⟩⟩⟩
  · rw [refuses (unlisted (Archive.lookup_eq_none nowhere))]
    exact asked.refuses station _ _
  · rw [refuses ((listed i slot).1 damaged)]
    exact asked.refuses station _ _
  · rw [refuses (((listed i slot).2 c read).1 many)]
    exact asked.refuses station _ _
  · rw [(found (((listed i slot).2 c read).2 few)).1 off]
    exact asked.refuses station _ _
  · rw [(found (((listed i slot).2 c read).2 few)).2.1 on full]
    exact asked.refuses station _ _
  · rw [(found (((listed i slot).2 c read).2 few)).2.2 on room, addJob, asked.cert]
    rfl

/-- Settles O52: the lookup, and the two requests case by case. -/
theorem requestsAreJudgedByTheirFirstCase : Obligations.RequestsAreJudgedByTheirFirstCase :=
  ⟨fun _ _ _ => Archive.lookup_eq_some_iff, fun _ _ _ listens other known => ⟨certRequest_outcome listens other known,
    fun length mine started open' => reprintRequest_outcome listens other known length mine started open'⟩⟩

end Sys2Proof.Machine
end

section
/-! What a recheck of the completed list and a change of printer state make of the certificate unit (R148, R149). -/

namespace Sys2Proof.Machine

/-- The certificate unit with automatic jobs joined at the end of its queue at most, and tickets gone from the completed list (R149). -/
structure State.Rechecked (s t : State) : Prop where
  cert : t.cert = { s.cert with jobs := t.cert.jobs, completed := t.cert.completed }
  jobs : ∃ more, t.cert.jobs = s.cert.jobs ++ more ∧ ∀ x ∈ more, x.requester = 0 ∧ x.state = .queued
  completed : ∀ n ∈ t.cert.completed, n ∈ s.cert.completed
  within : Within jobBlocks s t

theorem State.Rechecked.of_same {s t : State} (cert : t.cert = s.cert) (within : Within jobBlocks s t) : s.Rechecked t :=
  ⟨by rw [cert], ⟨[], by rw [cert]; simp⟩, fun n mem => by rw [cert] at mem; exact mem, within⟩

theorem State.Rechecked.refl (s : State) : s.Rechecked s := .of_same rfl (Within.refl _ s)

theorem State.Rechecked.after {r s t : State} (k : s.Rechecked t) (h : r.Rechecked s) : r.Rechecked t := by
  obtain ⟨more, jobs, automatic⟩ := h.jobs
  obtain ⟨more', jobs', automatic'⟩ := k.jobs
  refine ⟨?_, ⟨more ++ more', by rw [jobs', jobs, List.append_assoc], fun x mem => ?_⟩, fun n mem => h.completed n (k.completed n mem),
    h.within.trans k.within⟩
  · have first := k.cert
    rw [h.cert] at first
    exact first
  · rcases List.mem_append.mp mem with old | new
    · exact automatic x old
    · exact automatic' x new

/-- What stands at the unit but for its queue and its completed list. -/
theorem State.Rechecked.items {s t : State} (h : s.Rechecked t) : t.cert.source = s.cert.source ∧ t.cert.output = s.cert.output ∧
    t.cert.compose = s.cert.compose ∧ t.cert.lead = s.cert.lead ∧ t.cert.current = s.cert.current ∧ t.cert.previous = s.cert.previous ∧
    t.cert.archiveOutcome = s.cert.archiveOutcome ∧ t.cert.sending = s.cert.sending ∧ t.cert.paperOut = s.cert.paperOut ∧
    t.cert.composed = s.cert.composed ∧ t.cert.footerFail = s.cert.footerFail := by
  rw [h.cert]
  exact ⟨rfl, rfl, rfl, rfl, rfl, rfl, rfl, rfl, rfl, rfl, rfl⟩

theorem State.Rechecked.head {s t : State} (h : s.Rechecked t) {j : Job} (head : s.cert.jobs.head? = some j) : t.cert.jobs.head? = some j := by
  obtain ⟨more, jobs, -⟩ := h.jobs
  rw [jobs, List.head?_append, head]
  rfl

theorem State.Rechecked.lane {s t : State} (h : s.Rechecked t) : t.lane = s.lane := h.within.1 .lane (by simp)

theorem State.Rechecked.archive {s t : State} (h : s.Rechecked t) : t.archive = s.archive := h.within.1 .archive (by simp)

theorem State.Rechecked.guidance {s t : State} (h : s.Rechecked t) : t.guidance = s.guidance := h.within.1 .guidance (by simp)

theorem State.Rechecked.timers {s t : State} (h : s.Rechecked t) : t.timers = s.timers := h.within.1 .timers (by simp)

theorem State.Rechecked.pins {s t : State} (h : s.Rechecked t) : t.pins = s.pins := h.within.1 .pins (by simp)

/-! ### The recheck (R149) -/

theorem recheckTicket_rechecks (n : Nat) (s : State) : s.Rechecked (recheckTicket n s) := by
  have within := recheckTicket_within n s
  have dropped : s.Rechecked (s.setCert { s.cert with completed := s.cert.completed.filter fun t => t ≠ n }) :=
    ⟨rfl, ⟨[], by simp⟩, fun m mem => List.mem_of_mem_filter mem, (Within.setCert s _).mono (by simp)⟩
  have added : s.Rechecked (addJob (.ticket n) 0 s) :=
    ⟨rfl, ⟨[⟨.ticket n, 0, .queued⟩], rfl, fun x mem => by rw [List.mem_singleton.mp mem]; exact ⟨rfl, rfl⟩⟩, fun m mem => mem,
      (Within.setCert s _).mono (by simp)⟩
  unfold recheckTicket
  split
  · split
    · split
      · exact added
      · exact .refl s
    · exact dropped
  · exact dropped

theorem recheck_rechecks (s : State) : s.Rechecked (recheck s) := by
  have fold (l : List Nat) : ∀ r : State, r.Rechecked (l.foldl (fun s t => recheckTicket t s) r) := by
    induction l with
    | nil => exact fun r => .refl r
    | cons n l ih => exact fun r => (ih _).after (recheckTicket_rechecks n r)
  unfold recheck
  split
  · exact fold _ s
  · exact .refl s

theorem requestPresence_rechecks (s : State) : s.Rechecked (requestPresence s) :=
  .of_same (by simp) ((requestPresence_within s).mono (by simp))

/-- A change of the unit, with the PRESENCE and the recheck that a change of printer state brings (R148, R149). -/
theorem certChange_rechecks (f : State → State) (s : State) : (f s).Rechecked (certChange f s) := by
  unfold certChange
  dsimp only
  split
  · exact .refl _
  · exact (recheck_rechecks _).after (requestPresence_rechecks _)

/-! ### The head job taken out of the queue (R149) -/

/-- The unit with the head job taken out of its queue. -/
def State.headDropped (s : State) : State := s.setCert { s.cert with jobs := s.cert.jobs.tail }

theorem dropHead_rechecks (s : State) : s.headDropped.Rechecked (dropHead s) :=
  (recheck_rechecks _).after (certChange_rechecks State.headDropped s)

/-- After the end of a job automatic jobs alone stand behind those that waited. -/
theorem dropHead_jobs (s : State) : ∃ more, (dropHead s).cert.jobs = s.cert.jobs.tail ++ more ∧ ∀ x ∈ more, x.requester = 0 ∧ x.state = .queued :=
  (dropHead_rechecks s).jobs

theorem dropHead_items (s : State) : (dropHead s).cert.source = s.cert.source ∧ (dropHead s).cert.output = s.cert.output ∧
    (dropHead s).cert.compose = s.cert.compose ∧ (dropHead s).lane = s.lane ∧ (dropHead s).archive = s.archive ∧
    (dropHead s).guidance = s.guidance ∧ (dropHead s).timers = s.timers := by
  have ends := dropHead_rechecks s
  obtain ⟨source, output, compose, -⟩ := ends.items
  exact ⟨source, output, compose, ends.lane, ends.archive, ends.guidance, ends.timers⟩

theorem dropHead_keepsQueue (s : State) : KeepsQueue s (dropHead s) := (dropHead_within s).keepsQueue

theorem answer_items (n : Nat) (subject : Subject) (o : AnswerOutcome) (s : State) : (answer n subject o s).cert = s.cert ∧
    (answer n subject o s).lane = s.lane ∧ (answer n subject o s).archive = s.archive ∧ (answer n subject o s).guidance = s.guidance ∧
    (answer n subject o s).timers = s.timers := by simp

/-- An answer asked for on the way stands in the queue at the end (R150 to R162). -/
theorem answer_queues {s r t : State} (can : r.bus.canQueue = s.bus.canQueue) {n : Nat} (someone : n ≠ 0) (subject : Subject) (o : AnswerOutcome)
    (k : KeepsQueue (answer n subject o r) t) : s.queues t (.printAnswer n subject o) := by
  have queued : answer n subject o r = queueFrame (.printAnswer n subject o) r := if_neg someone
  rw [queued] at k
  exact queues_of_keeps can rfl k

end Sys2Proof.Machine
end

section
/-! Page 1 of a job: composed, moved into OUTPUT, and its sending begun (R152, R155 to R158). -/

namespace Sys2Proof.Machine

/-! ### The first page -/

/-- The first 16 lines of a certificate, its footer as fixed (R154, R155). -/
def CertContent.firstPage (c : CertContent) (fail : Option Bool) : List (List Byte) := (c.lines (fail.getD false)).take 16

theorem CertContent.firstPage_length (c : CertContent) (fail : Option Bool) : 2 ≤ (c.firstPage fail).length := by
  have header : 7 ≤ (c.lines (fail.getD false)).length := by
    have seven : (headerLines c).length = 7 := rfl
    simp only [CertContent.lines, CertContent.bodyLines, List.length_map, List.length_append, seven]
    omega
  rw [CertContent.firstPage, List.length_take]
  omega

/-- Whether the first page carries the footer, and then its NOT ARCHIVED line (R155, R161). -/
def CertContent.firstFooter (c : CertContent) (o : ArchiveOutcome) : Option Bool := if c.footerBy 0 then some (o == .fail) else none

/-- The unit with page 1 of its source composed. -/
theorem composeNext_first {u : Cert} {c : CertContent} (source : u.source = some c) (fresh : u.composed = 0) (unfixed : u.footerFail = none) :
    u.composeNext = { u with compose := c.firstPage (c.firstFooter u.archiveOutcome), composed := 1,
                             footerFail := c.firstFooter u.archiveOutcome } := by
  have long := c.firstPage_length (c.firstFooter u.archiveOutcome)
  have some' : (((c.lines ((c.firstFooter u.archiveOutcome).getD false)).drop (Config.pageLines * 0)).take Config.pageLines).isEmpty = false := by
    have page : ((c.lines ((c.firstFooter u.archiveOutcome).getD false)).drop (Config.pageLines * 0)).take Config.pageLines =
        c.firstPage (c.firstFooter u.archiveOutcome) := rfl
    rw [page]
    cases lines : c.firstPage (c.firstFooter u.archiveOutcome) with
    | nil => rw [lines] at long; simp at long
    | cons l ls => rfl
  unfold Cert.composeNext
  rw [source]
  dsimp only
  rw [unfixed, fresh]
  dsimp only
  refine (if_neg ?_).trans rfl
  exact fun empty => absurd (some'.symm.trans empty) (by simp)

/-! ### The sending begun (R157, R158) -/

/-- A page in OUTPUT, each line unsent. -/
def unsent (page : List (List Byte)) : List PrintLine := page.map fun l => ⟨l, false⟩

theorem findIdx?_unsent {page : List (List Byte)} (long : 2 ≤ page.length) : (unsent page).findIdx? (fun l => !l.sent) = some 0 := by
  cases page with
  | nil => simp at long
  | cons l ls => rfl

/-- A page of several unsent lines is begun with its first line, which is not its last (R156). -/
theorem tryHand_begins {s : State} {page : List (List Byte)} (output : s.cert.output = unsent page) (long : 2 ≤ page.length)
    (lead : s.cert.lead ≠ some false) : (tryHand s).cert = { s.cert with sending := (tryHand s).cert.sending } := by
  have next : s.cert.nextItem = some (.line 0, printBytes (s.cert.output.getD 0 ⟨[], true⟩).text) := by
    unfold Cert.nextItem
    rw [if_neg lead, output, findIdx?_unsent long]
  have notLast (bytes : PrintItem) (first : bytes = .line 0) : s.cert.isLast bytes = false := by
    rw [first, Cert.isLast, output, unsent, List.length_map, beq_eq_false_iff_ne]
    omega
  unfold tryHand
  dsimp only
  split
  · rfl
  · rw [next]
    dsimp only
    rw [if_neg (by simp [notLast])]
    rfl

/-- The head job of a unit that prints, its state as its paper has it (R158). -/
def Job.begun (j : Job) (paperOut : Bool) : Job := { j with state := if paperOut then .paperWait else .printing }

/-- The unit with a page's sending begun: what it prints, and its head job (R152, R157). -/
structure Cert.Prints (j : Job) (c : CertContent) (page : List (List Byte)) (u v : Cert) : Prop where
  head : v.jobs.head? = some (j.begun u.paperOut)
  source : v.source = some c
  output : v.output = unsent page
  footer : v.footerFail = u.footerFail
  outcome : v.archiveOutcome = u.archiveOutcome

theorem Cert.Prints.rechecked {j : Job} {c : CertContent} {page : List (List Byte)} {u : Cert} {s t : State} (h : u.Prints j c page s.cert)
    (k : s.Rechecked t) : u.Prints j c page t.cert := by
  obtain ⟨source, output, -, -, -, -, outcome, -, -, -, footer⟩ := k.items
  exact ⟨k.head h.head, source.trans h.source, output.trans h.output, footer.trans h.footer, outcome.trans h.outcome⟩

theorem beginPage_prints {s : State} {j : Job} {js : List Job} {c : CertContent} {page : List (List Byte)}
    (jobs : s.cert.jobs = { j with state := .printing } :: js) (source : s.cert.source = some c) (fresh : s.cert.current = .noOutcome)
    (long : 2 ≤ page.length) : s.cert.Prints j c page (beginPage page s).cert := by
  obtain ⟨r, moved⟩ : ∃ r, r = s.setCert { s.cert with
    output := page.map fun l => ⟨l, false⟩, lead := if s.cert.current = .fail then some false else none, previous := s.cert.current
    current := .noOutcome, sending := staleItem s.cert.sending } := ⟨_, rfl⟩
  have begun : beginPage page s = if s.cert.paperOut then failPage r else tryHand r := by rw [moved]; rfl
  have output : r.cert.output = unsent page := by rw [moved]; rfl
  have lead : r.cert.lead = none := by
    rw [moved]
    exact if_neg (by simp [fresh])
  have jobs' : r.cert.jobs = { j with state := .printing } :: js := by rw [moved]; exact jobs
  have source' : r.cert.source = some c := by rw [moved]; exact source
  have footer : r.cert.footerFail = s.cert.footerFail := by rw [moved]; rfl
  have outcome : r.cert.archiveOutcome = s.cert.archiveOutcome := by rw [moved]; rfl
  rw [begun]
  cases paper : s.cert.paperOut with
  | true =>
    have held : (failPage r).cert =
        { r.cert with current := .fail, jobs := { ({ j with state := .printing } : Job) with state := .paperWait } :: js } := by
      change ({ r.cert with current := .fail } : Cert).setHeadState .paperWait = _
      unfold Cert.setHeadState
      rw [jobs']
    rw [if_pos rfl, held]
    exact ⟨by rw [paper]; rfl, source', output, footer, outcome⟩
  | false =>
    have handed := tryHand_begins output long (by rw [lead]; simp)
    rw [if_neg (by simp), handed]
    exact ⟨by rw [paper]; exact congrArg List.head? jobs', source', output, footer, outcome⟩

/-! ### The start of printing (R152) -/

theorem raise_cert (p : Prompt) (f : PromptFields) (s : State) : (raise p f s).cert = s.cert := by simp

/-- The station while page 1 is being composed (R152). -/
def State.composing (subject : Subject) (s : State) : State :=
  raise .printing { subject := some subject } (certChange (fun s => s.setCert (s.cert.setHeadState .composing))
    (s.setCert { s.cert with previous := .noOutcome, current := .noOutcome }))

/-- The station with page 1 composed (R152, R155). -/
def State.composed (subject : Subject) (s : State) : State :=
  (s.composing subject).setCert ({ (s.composing subject).cert with composed := 0, footerFail := none } : Cert).composeNext

/-- The station with the head job PRINTING, before its page begins (R152). -/
def State.pageMoved (s : State) : State := s.setCert (({ s.cert with compose := [] } : Cert).setHeadState .printing)

theorem startPrinting_eq (subject : Subject) (s : State) : startPrinting subject s =
    certChange (fun r => beginPage (s.composed subject).cert.compose r.pageMoved) (s.composed subject) := rfl

/-- What stands at the unit while page 1 is being composed. -/
theorem composing_cert {s : State} {j : Job} {js : List Job} (jobs : s.cert.jobs = j :: js) (subject : Subject) :
    (∃ more, (s.composing subject).cert.jobs = { j with state := .composing } :: more) ∧
    (s.composing subject).cert.source = s.cert.source ∧ (s.composing subject).cert.current = .noOutcome ∧
    (s.composing subject).cert.archiveOutcome = s.cert.archiveOutcome ∧ (s.composing subject).cert.paperOut = s.cert.paperOut := by
  obtain ⟨r, cleared⟩ : ∃ r, r = s.setCert { s.cert with previous := .noOutcome, current := .noOutcome } := ⟨_, rfl⟩
  have changed := certChange_rechecks (fun s => s.setCert (s.cert.setHeadState .composing)) r
  have headed : r.cert.setHeadState .composing = { r.cert with jobs := { j with state := .composing } :: js } := by
    have jobs' : r.cert.jobs = j :: js := by rw [cleared]; exact jobs
    unfold Cert.setHeadState
    rw [jobs']
  have composing : (s.composing subject).cert = (certChange (fun s => s.setCert (s.cert.setHeadState .composing)) r).cert := by
    rw [State.composing, raise_cert, cleared]
  obtain ⟨more, joined, -⟩ := changed.jobs
  obtain ⟨source, -, -, -, current, -, outcome, -, paper, -, -⟩ := changed.items
  rw [headed] at joined source current outcome paper
  rw [composing]
  refine ⟨⟨js ++ more, joined⟩, ?_, ?_, ?_, ?_⟩
  · rw [source, cleared]; rfl
  · rw [current, cleared]; rfl
  · rw [outcome, cleared]; rfl
  · rw [paper, cleared]; rfl

/-- Page 1 of a job begun: what the unit prints (R152). -/
theorem startPrinting_prints {s : State} {j : Job} {js : List Job} {c : CertContent} (jobs : s.cert.jobs = j :: js)
    (source : s.cert.source = some c) (subject : Subject) : (startPrinting subject s).cert.source = some c ∧
    (startPrinting subject s).cert.output =
      ((c.lines ((startPrinting subject s).cert.footerFail.getD false)).take 16).map (fun l => ⟨l, false⟩) ∧
    (startPrinting subject s).cert.jobs.head? = some { j with state := if s.cert.paperOut then .paperWait else .printing } ∧
    (startPrinting subject s).cert.archiveOutcome = s.cert.archiveOutcome := by
  obtain ⟨⟨more, listed⟩, source1, current, outcome, paper⟩ := composing_cert jobs subject
  obtain ⟨x, composing⟩ : ∃ x, x = s.composing subject := ⟨_, rfl⟩
  rw [← composing] at listed source1 current outcome paper
  have first := composeNext_first (u := { x.cert with composed := 0, footerFail := none }) (source1.trans source) rfl rfl
  obtain ⟨fail, fixed⟩ : ∃ fail, fail = c.firstFooter x.cert.archiveOutcome := ⟨_, rfl⟩
  have composed : (s.composed subject).cert = { x.cert with compose := c.firstPage fail, composed := 1, footerFail := fail } := by
    rw [fixed, State.composed, ← composing]
    exact first
  obtain ⟨y, ready⟩ : ∃ y, y = s.composed subject := ⟨_, rfl⟩
  rw [← ready] at composed
  have moved : y.pageMoved.cert =
      { x.cert with compose := [], composed := 1, footerFail := fail, jobs := { ({ j with state := .composing } : Job) with state := .printing } :: more } := by
    change ({ y.cert with compose := [] } : Cert).setHeadState .printing = _
    unfold Cert.setHeadState
    rw [composed]
    dsimp only
    rw [listed]
  have begun := beginPage_prints (s := y.pageMoved) (j := j) (js := more) (c := c) (page := c.firstPage fail) (by rw [moved])
    (by rw [moved]; exact source1.trans source) (by rw [moved]; exact current) (c.firstPage_length fail)
  have started : startPrinting subject s = certChange (fun r => beginPage (c.firstPage fail) r.pageMoved) y := by
    rw [startPrinting_eq, ← ready, composed]
  have prints := begun.rechecked (certChange_rechecks (fun r => beginPage (c.firstPage fail) r.pageMoved) y)
  rw [← started, moved] at prints
  obtain ⟨head, source', output, footer, outcome'⟩ := prints
  refine ⟨source', ?_, ?_, outcome'.trans outcome⟩
  · rw [output, footer]
    rfl
  · rw [head, Job.begun]
    dsimp only
    rw [paper]

theorem startPrinting_rest (subject : Subject) (s : State) : (startPrinting subject s).lane = s.lane ∧
    (startPrinting subject s).archive = s.archive ∧ (startPrinting subject s).guidance.isRaised .printing = true := by
  have begun := certChange_rechecks (fun r => beginPage (s.composed subject).cert.compose r.pageMoved) (s.composed subject)
  have page := beginPage_within (s.composed subject).cert.compose (s.composed subject).pageMoved
  have before : (startPrinting subject s).guidance = (s.composing subject).guidance := begun.guidance.trans (page.1 .guidance (by simp))
  have raised : (s.composing subject).guidance.isRaised .printing = true := by
    rw [State.composing, raise_isRaised]
    simp
  have within := certChange_rechecks (fun s => s.setCert (s.cert.setHeadState .composing))
    (s.setCert { s.cert with previous := .noOutcome, current := .noOutcome })
  have lane : (s.composing subject).lane = s.lane := ((raise_within _ _ _).1 .lane (by simp)).trans within.lane
  have archive : (s.composing subject).archive = s.archive := ((raise_within _ _ _).1 .archive (by simp)).trans within.archive
  refine ⟨?_, ?_, ?_⟩
  · exact (begun.lane.trans (page.1 .lane (by simp))).trans lane
  · exact (begun.archive.trans (page.1 .archive (by simp))).trans archive
  · rw [before]
    exact raised

end Sys2Proof.Machine
end

section
/-! A record write's search, and the archive's requests (R164, R166, R167). -/

namespace Sys2Proof.Machine

/-! ### The search from the write position (R166) -/

/-- A slot that the search passes over: it enters no block and is not ERASED. -/
def Archive.passes (a : Archive) (slot : Nat) : Prop := slot % 8 ≠ 0 ∧ (a.row slot).state ≠ .erased

/-- One step of the search (R166). -/
theorem search_succ (a : Archive) (fuel slot : Nat) (entered : List Nat) (fresh : Bool) : a.search (fuel + 1) slot entered fresh =
    if ((fresh && slot % Config.blockSlots == 0) && entered.contains (blockOf slot)) = true then .stop slot
    else if ((fresh && slot % Config.blockSlots == 0) && (blockSlotsOf (blockOf slot)).any fun i => (a.row i).state ≠ .erased) = true then
      .erase slot (blockOf slot) (if (fresh && slot % Config.blockSlots == 0) = true then blockOf slot :: entered else entered)
    else if (a.row slot).state = .erased then .write slot
    else a.search fuel (nextSlot slot) (if (fresh && slot % Config.blockSlots == 0) = true then blockOf slot :: entered else entered) true := rfl

theorem search_pass {a : Archive} {slot : Nat} (passes : a.passes slot) (fuel : Nat) (entered : List Nat) :
    a.search (fuel + 1) slot entered true = a.search fuel (nextSlot slot) entered true := by
  obtain ⟨inside, used⟩ := passes
  have start : (true && slot % Config.blockSlots == 0) = false := by simpa [Config.blockSlots] using inside
  rw [search_succ, start]
  exact if_neg used

/-- The search past `k` slots that it passes over. -/
theorem search_passes {a : Archive} {w : Nat} : ∀ (k fuel : Nat), (∀ m, m < k → a.passes ((w + m) % 32)) →
    a.search (fuel + k) (w % 32) [] true = a.search fuel ((w + k) % 32) [] true
  | 0, _, _ => rfl
  | k + 1, fuel, passes => by
    have before := search_passes k (fuel + 1) fun m low => passes m (low.trans (Nat.lt_succ_self k))
    have next : nextSlot ((w + k) % 32) = (w + (k + 1)) % 32 := by
      simp only [nextSlot, Config.slotCount]
      omega
    have here := search_pass (passes k (Nat.lt_succ_self k)) fuel []
    rw [next] at here
    rw [show fuel + (k + 1) = fuel + 1 + k by omega, before, here]

theorem blockSlots_any {slot : Nat} (start : slot % 8 = 0) (P : Nat → Bool) :
    (blockSlotsOf (blockOf slot)).any P = true ↔ ∃ m, m < 8 ∧ P (slot + m) = true := by
  have base : Config.blockSlots * blockOf slot = slot := by
    simp only [Config.blockSlots, blockOf]
    omega
  simp only [blockSlotsOf, base, List.any_map, List.any_eq_true, List.mem_range, Function.comp]
  refine exists_congr fun m => and_congr Iff.rfl ?_
  rw [Nat.add_comm]

/-- What the search comes to at a slot that it does not pass over, with no block entered before. -/
theorem search_ends {a : Archive} {slot : Nat} (fuel : Nat) :
    (slot % 8 ≠ 0 → (a.row slot).state = .erased → a.search (fuel + 1) slot [] true = .write slot) ∧
    (slot % 8 = 0 → (∀ m, m < 8 → (a.row (slot + m)).state = .erased) → a.search (fuel + 1) slot [] true = .write slot) ∧
    (slot % 8 = 0 → (∃ m, m < 8 ∧ (a.row (slot + m)).state ≠ .erased) →
      a.search (fuel + 1) slot [] true = .erase slot (slot / 8) [slot / 8]) := by
  have used : (blockSlotsOf (blockOf slot)).any (fun i => (a.row i).state ≠ .erased) = true → slot % 8 = 0 →
      ∃ m, m < 8 ∧ (a.row (slot + m)).state ≠ .erased := fun any start => by
    obtain ⟨m, low, state⟩ := (blockSlots_any start _).mp any
    exact ⟨m, low, of_decide_eq_true state⟩
  have entering (start : slot % 8 = 0) : (true && slot % Config.blockSlots == 0) = true := by simpa [Config.blockSlots] using start
  refine ⟨fun inside erased => ?_, fun start erased => ?_, fun start dirty => ?_⟩
  · have outside : (true && slot % Config.blockSlots == 0) = false := by simpa [Config.blockSlots] using inside
    rw [search_succ, outside]
    exact if_pos erased
  · have clean : (blockSlotsOf (blockOf slot)).any (fun i => (a.row i).state ≠ .erased) = false := by
      rw [← Bool.not_eq_true]
      intro any
      obtain ⟨m, low, state⟩ := used any start
      exact state (erased m low)
    rw [search_succ, entering start, clean]
    exact if_pos (erased 0 (by omega))
  · have any : (blockSlotsOf (blockOf slot)).any (fun i => (a.row i).state ≠ .erased) = true := by
      obtain ⟨m, low, state⟩ := dirty
      exact (blockSlots_any start _).mpr ⟨m, low, decide_eq_true state⟩
    rw [search_succ, entering start, any]
    rfl

/-- The search from a write position, by the first slot that it does not pass over. -/
theorem search_from {a : Archive} (low : a.writePos < 32) {k : Nat} (bound : k < 32) (passes : ∀ m, m < k → a.passes ((a.writePos + m) % 32)) :
    ∃ fuel, a.search 40 a.writePos [] true = a.search (fuel + 1) ((a.writePos + k) % 32) [] true := by
  obtain ⟨fuel, rest⟩ : ∃ fuel, 40 = fuel + 1 + k := ⟨39 - k, by omega⟩
  refine ⟨fuel, ?_⟩
  have passed := search_passes (w := a.writePos) k (fuel + 1) passes
  rw [Nat.mod_eq_of_lt low] at passed
  rw [rest]
  exact passed

/-- From a write position a slot that the search does not pass over is at most 7 slots away. -/
theorem exists_first (a : Archive) : ∃ k, k < 32 ∧ (∀ m, m < k → a.passes ((a.writePos + m) % 32)) ∧ ¬a.passes ((a.writePos + k) % 32) := by
  have near : ∃ k, k < 8 ∧ ¬a.passes ((a.writePos + k) % 32) := by
    refine ⟨(8 - a.writePos % 8) % 8, by omega, fun passes => passes.1 ?_⟩
    omega
  classical
  obtain ⟨low, ends⟩ := Nat.find_spec near
  refine ⟨Nat.find near, by omega, fun m below => ?_, ends⟩
  by_contra stops
  exact Nat.find_min near below ⟨below.trans low, stops⟩

/-! ### A record write begun (R166, R167) -/

/-- What a record write leaves of the archive as it is carried on. -/
theorem carryRecord_keeps (a : Archive) (c : CertContent) (entered : List Nat) (fresh : Bool) :
    (a.carryRecord c entered fresh).1.storage = a.storage ∧ (a.carryRecord c entered fresh).1.table = a.table ∧
    (a.carryRecord c entered fresh).1.nextSeq = a.nextSeq ∧ (a.carryRecord c entered fresh).1.requests = a.requests := by
  unfold Archive.carryRecord
  split <;> exact ⟨rfl, rfl, rfl, rfl⟩

/-- A record write carried on from what its search comes to. -/
theorem carryRecord_writes {a : Archive} {c : CertContent} {entered : List Nat} {fresh : Bool} {slot : Nat}
    (search : a.search 40 a.writePos entered fresh = .write slot) :
    a.carryRecord c entered fresh = ({ a with op := .programRecord slot c, writePos := nextSlot slot }, none) := by
  unfold Archive.carryRecord
  rw [search]

theorem carryRecord_erases {a : Archive} {c : CertContent} {entered entered' : List Nat} {fresh : Bool} {slot block : Nat}
    (search : a.search 40 a.writePos entered fresh = .erase slot block entered') :
    a.carryRecord c entered fresh = ({ a with op := .erasing block c entered', writePos := slot }, none) := by
  unfold Archive.carryRecord
  rw [search]

/-- The record write of a new request, by the first slot that its search does not pass over. -/
theorem carryRecord_cases {a : Archive} (low : a.writePos < 32) (c : CertContent) {k : Nat} (bound : k < 32)
    (passes : ∀ m, m < k → a.passes ((a.writePos + m) % 32)) {slot : Nat} (first : slot = (a.writePos + k) % 32) :
    (slot % 8 ≠ 0 → (a.row slot).state = .erased →
      a.carryRecord c [] true = ({ a with op := .programRecord slot c, writePos := nextSlot slot }, none)) ∧
    (slot % 8 = 0 → (∀ m, m < 8 → (a.row (slot + m)).state = .erased) →
      a.carryRecord c [] true = ({ a with op := .programRecord slot c, writePos := nextSlot slot }, none)) ∧
    (slot % 8 = 0 → (∃ m, m < 8 ∧ (a.row (slot + m)).state ≠ .erased) →
      a.carryRecord c [] true = ({ a with op := .erasing (slot / 8) c [slot / 8], writePos := slot }, none)) := by
  obtain ⟨fuel, reached⟩ := search_from low bound passes
  rw [← first] at reached
  obtain ⟨inside, clean, dirty⟩ := search_ends (a := a) (slot := slot) fuel
  exact ⟨fun away erased => carryRecord_writes (reached.trans (inside away erased)),
    fun start erased => carryRecord_writes (reached.trans (clean start erased)),
    fun start used => carryRecord_erases (reached.trans (dirty start used))⟩

/-- A new record write finds a slot to write or a block to erase: it does not fail at its start. -/
theorem carryRecord_goes {a : Archive} (low : a.writePos < 32) (c : CertContent) : (a.carryRecord c [] true).2 = none := by
  obtain ⟨k, bound, passes, ends⟩ := exists_first a
  obtain ⟨inside, clean, dirty⟩ := carryRecord_cases low c bound passes rfl
  by_cases start : (a.writePos + k) % 32 % 8 = 0
  · by_cases used : ∃ m, m < 8 ∧ (a.row ((a.writePos + k) % 32 + m)).state ≠ .erased
    · rw [dirty start used]
    · rw [clean start fun m small => by
        by_contra state
        exact used ⟨m, small, state⟩]
  · have erased : (a.row ((a.writePos + k) % 32)).state = .erased := by
      by_contra state
      exact ends ⟨start, state⟩
    rw [inside start erased]

theorem carryRecord_report (a : Archive) (c : CertContent) (entered : List Nat) (fresh : Bool) :
    (a.carryRecord c entered fresh).2 = none ∨ (a.carryRecord c entered fresh).2 = some (.recordDone c.number false) := by
  unfold Archive.carryRecord
  split
  · exact Or.inl rfl
  · exact Or.inl rfl
  · exact Or.inr rfl

/-! ### A request of the certificate unit (R164) -/

theorem Archive.isIdle_iff {a : Archive} : a.isIdle = true ↔ a.op = .idle := by simp [Archive.isIdle]

theorem submit_idle {a : Archive} (idle : a.op = .idle) (r : ArchiveRequest) : a.submit r = ((a.begin r).1, (a.begin r).2.toList) :=
  if_pos (Archive.isIdle_iff.mpr idle)

theorem submit_joins {a : Archive} (busy : a.op ≠ .idle) (room : a.requests.length < 4) (r : ArchiveRequest) :
    a.submit r = ({ a with requests := a.requests ++ [r] }, []) := by
  refine (if_neg (mt Archive.isIdle_iff.mp busy)).trans (if_pos room)

theorem submit_full {a : Archive} (busy : a.op ≠ .idle) (full : 4 ≤ a.requests.length) :
    (∀ c, a.submit (.record c) = (a, [.recordDone c.number false])) ∧ ∀ n q, a.submit (.mark n q) = (a, [.markDone false]) :=
  ⟨fun _ => (if_neg (mt Archive.isIdle_iff.mp busy)).trans (if_neg (not_lt.mpr full)),
    fun _ _ => (if_neg (mt Archive.isIdle_iff.mp busy)).trans (if_neg (not_lt.mpr full))⟩

/-- What a record's request leaves of the archive, and what it reports at once. -/
theorem submitRecord_keeps (a : Archive) (c : CertContent) : (a.submit (.record c)).1.storage = a.storage ∧
    (a.submit (.record c)).1.table = a.table ∧ (a.submit (.record c)).1.nextSeq = a.nextSeq ∧
    ((a.submit (.record c)).2 = [] ∨ (a.submit (.record c)).2 = [.recordDone c.number false]) := by
  by_cases idle : a.op = .idle
  · obtain ⟨storage, table, seq, -⟩ := carryRecord_keeps a c [] true
    rw [submit_idle idle]
    refine ⟨storage, table, seq, ?_⟩
    have report : (a.begin (.record c)).2 = (a.carryRecord c [] true).2 := rfl
    rw [report]
    rcases carryRecord_report a c [] true with silent | fails
    · rw [silent]
      exact Or.inl rfl
    · rw [fails]
      exact Or.inr rfl
  · by_cases room : a.requests.length < 4
    · rw [submit_joins idle room]
      exact ⟨rfl, rfl, rfl, Or.inl rfl⟩
    · rw [(submit_full idle (not_lt.mp room)).1]
      exact ⟨rfl, rfl, rfl, Or.inr rfl⟩

end Sys2Proof.Machine
end

section
/-! The content of a CERTIFICATE job formed from its entry, and a job answered at its start (R94, R152, R153, R165). -/

namespace Sys2Proof.Machine

/-! ### The remarks (R94) -/

theorem BrakeResult.oval_iff {b : BrakeResult} : b.oval = true ↔ 20 < b.figures.ovalL.getD 0 ∨ 20 < b.figures.ovalR.getD 0 := by
  unfold BrakeResult.oval
  cases b.figures.ovalL <;> cases b.figures.ovalR <;> simp

theorem BrakeResult.drags_iff {b : BrakeResult} {w : Pair} : b.drags w = true ↔ w.l / 20 < b.figures.rr.l ∨ w.r / 20 < b.figures.rr.r := by
  simp [BrakeResult.drags]

/-- The remarks formed from an entry (R94). -/
theorem formRemarks_iff (e : Entry) :
    (e.formRemarks.ovality = true ↔ ∃ a ∈ e.axles, ∃ b ∈ a.service.toList ++ a.parking.toList,
      20 < b.figures.ovalL.getD 0 ∨ 20 < b.figures.ovalR.getD 0) ∧
    (e.formRemarks.brakeDrag = true ↔ ∃ a ∈ e.axles, ∃ w ∈ a.load.toList, ∃ b ∈ a.service.toList ++ a.parking.toList,
      w.l / 20 < b.figures.rr.l ∨ w.r / 20 < b.figures.rr.r) ∧
    (e.formRemarks.notReferenced = true ↔ e.brake = .air ∧ ∃ a ∈ e.axles, ∃ b ∈ a.service.toList, b.figures.fref = none) := by
  refine ⟨?_, ?_, ?_⟩
  · refine List.any_eq_true.trans (exists_congr fun a => and_congr Iff.rfl (List.any_eq_true.trans ?_))
    exact exists_congr fun b => and_congr Iff.rfl BrakeResult.oval_iff
  · refine List.any_eq_true.trans (exists_congr fun a => and_congr Iff.rfl ?_)
    cases load : a.load with
    | none => simp
    | some w => simp [AxleRecord.results, BrakeResult.drags_iff, or_and_right, exists_or]
  · refine (Bool.and_eq_true _ _).to_iff.trans (and_congr decide_eq_true_iff (List.any_eq_true.trans ?_))
    refine exists_congr fun a => and_congr Iff.rfl ?_
    cases service : a.service with
    | none => simp
    | some b => simp

/-! ### The required parts (R153) -/

theorem requiredParts_eq (e : Entry) (slip : Bool) : (requiredParts e slip).length = e.axleCount ∧
    ∀ k, k < e.axleCount → (requiredParts e slip)[k]? = some ⟨true, true, decide (k + 1 ∈ e.parkingSet), slip⟩ := by
  refine ⟨by simp [requiredParts], fun k low => ?_⟩
  simp [requiredParts, low, List.contains_eq_mem]

/-! ### A job answered at its start (R152) -/

/-- What a job that is answered at its start leaves: the queue without it, and its answer. -/
structure State.Refuses (subject : Subject) (n : Nat) (o : AnswerOutcome) (s t : State) : Prop where
  lane : t.lane = s.lane
  archive : t.archive = s.archive
  source : t.cert.source = s.cert.source
  jobs : ∃ more, t.cert.jobs = s.cert.jobs.tail ++ more ∧ ∀ x ∈ more, x.requester = 0 ∧ x.state = .queued
  answered : n ≠ 0 → s.queues t (.printAnswer n subject o)

theorem refuseHead_refuses (n : Nat) (subject : Subject) (o : AnswerOutcome) (s : State) : s.Refuses subject n o (refuseHead n subject o s) := by
  obtain ⟨cert, lane, archive, -, -⟩ := answer_items n subject o s
  obtain ⟨source, -, -, lane', archive', -, -⟩ := dropHead_items (answer n subject o s)
  have left := dropHead_jobs (answer n subject o s)
  rw [cert] at source left
  exact ⟨lane'.trans lane, archive'.trans archive, source, left, fun someone =>
    answer_queues rfl someone subject o (dropHead_keepsQueue _)⟩

/-! ### The record write of a CERTIFICATE job (R164, R166, R167) -/

/-- The station with a CERTIFICATE job's sequence taken and its content formed (R153, R165). -/
def State.formed (s : State) (e : Entry) : State :=
  (s.setArchive s.archive.takeSequence).setCert { s.cert with source := some (s.content e), archiveOutcome := .awaiting }

/-- The station with a CERTIFICATE job's record write asked for (R153, R164). -/
def State.recorded (s : State) (e : Entry) : State :=
  archiveStep (s.archive.takeSequence.submit (.record (s.content e))) (s.formed e)

/-- The reports of the head job's record write as it is asked for (R161). -/
theorem archiveStep_record {s : State} {t requester : Nat} {st : JobState} {js : List Job} {c : CertContent}
    (jobs : s.cert.jobs = ⟨.ticket t, requester, st⟩ :: js) (source : s.cert.source = some c) (a : Archive) :
    archiveStep (a, []) s = s.setArchive a ∧
    archiveStep (a, [.recordDone c.number false]) s = (s.setArchive a).setCert { s.cert with archiveOutcome := .fail } := by
  have owns : (s.setArchive a).cert.ownsRecord c.number = true := by
    change s.cert.ownsRecord c.number = true
    unfold Cert.ownsRecord
    rw [jobs, source]
    exact beq_self_eq_true _
  exact ⟨rfl, if_pos owns⟩

theorem recorded_cases {s : State} {t requester : Nat} {st : JobState} {js : List Job} (jobs : s.cert.jobs = ⟨.ticket t, requester, st⟩ :: js)
    (e : Entry) {a : Archive} :
    (s.archive.takeSequence.submit (.record (s.content e)) = (a, []) → s.recorded e = (s.formed e).setArchive a) ∧
    (s.archive.takeSequence.submit (.record (s.content e)) = (a, [.recordDone (s.content e).number false]) →
      s.recorded e = ((s.formed e).setArchive a).setCert { (s.formed e).cert with archiveOutcome := .fail }) := by
  obtain ⟨silent, fails⟩ := archiveStep_record (s := s.formed e) (c := s.content e) jobs rfl a
  exact ⟨fun asked => by rw [State.recorded, asked, silent], fun asked => by rw [State.recorded, asked, fails]⟩

/-- What stands at the station as a CERTIFICATE job begins to print. -/
theorem recorded_items {s : State} {t requester : Nat} {st : JobState} {js : List Job} (jobs : s.cert.jobs = ⟨.ticket t, requester, st⟩ :: js)
    (e : Entry) : (s.recorded e).lane = s.lane ∧ (s.recorded e).cert.jobs = s.cert.jobs ∧
    (s.recorded e).cert.source = some (s.content e) ∧ (s.recorded e).cert.paperOut = s.cert.paperOut ∧
    (s.recorded e).archive = (s.archive.takeSequence.submit (.record (s.content e))).1 := by
  obtain ⟨-, -, -, reports⟩ := submitRecord_keeps s.archive.takeSequence (s.content e)
  obtain ⟨a, first⟩ : ∃ a, a = (s.archive.takeSequence.submit (.record (s.content e))).1 := ⟨_, rfl⟩
  obtain ⟨silent, fails⟩ := recorded_cases jobs e (a := a)
  rcases reports with none' | done
  · rw [silent (by rw [first, ← none'])]
    exact ⟨rfl, rfl, rfl, rfl, first⟩
  · rw [fails (by rw [first, ← done])]
    exact ⟨rfl, rfl, rfl, rfl, first⟩

/-- The archive and the archive outcome of a job whose record write begins at once (R166). -/
theorem recorded_idle {s : State} {t requester : Nat} {st : JobState} {js : List Job} (jobs : s.cert.jobs = ⟨.ticket t, requester, st⟩ :: js)
    (e : Entry) (low : s.archive.writePos < 32) (idle : s.archive.op = .idle) :
    (s.recorded e).archive = (s.archive.takeSequence.carryRecord (s.content e) [] true).1 ∧ (s.recorded e).cert.archiveOutcome = .awaiting := by
  have goes := carryRecord_goes (a := s.archive.takeSequence) low (s.content e)
  have asked : s.archive.takeSequence.submit (.record (s.content e)) = ((s.archive.takeSequence.carryRecord (s.content e) [] true).1, []) := by
    rw [submit_idle (a := s.archive.takeSequence) idle]
    refine Prod.ext rfl ?_
    change (s.archive.takeSequence.carryRecord (s.content e) [] true).2.toList = []
    rw [goes]
    rfl
  rw [(recorded_cases jobs e).1 asked]
  exact ⟨rfl, rfl⟩

/-- The record write of a job that starts while the archive is busy (R164). -/
theorem recorded_busy {s : State} {t requester : Nat} {st : JobState} {js : List Job} (jobs : s.cert.jobs = ⟨.ticket t, requester, st⟩ :: js)
    (e : Entry) (busy : s.archive.op ≠ .idle) :
    (s.archive.requests.length < 4 → (s.recorded e).archive =
      { s.archive.takeSequence with requests := s.archive.requests ++ [.record (s.content e)] } ∧ (s.recorded e).cert.archiveOutcome = .awaiting) ∧
    (4 ≤ s.archive.requests.length → (s.recorded e).archive = s.archive.takeSequence ∧ (s.recorded e).cert.archiveOutcome = .fail) := by
  constructor
  · intro room
    rw [(recorded_cases jobs e).1 (submit_joins (a := s.archive.takeSequence) busy room _)]
    exact ⟨rfl, rfl⟩
  · intro full
    rw [(recorded_cases jobs e).2 ((submit_full (a := s.archive.takeSequence) busy full).1 _)]
    exact ⟨rfl, rfl⟩

end Sys2Proof.Machine
end

section
/-! ### The starts of jobs, settled -/

namespace Sys2Proof.Machine

theorem certificateDue_iff {s : State} (ready : s.ready .certificateStart = true) :
    ∃ t requester js, s.cert.jobs = ⟨.ticket t, requester, .queued⟩ :: js := by
  have due : s.certificateDue = true := ((Bool.and_eq_true _ _).mp ready).2
  have head := ((Bool.and_eq_true _ _).mp due).2
  split at head
  · rename_i t requester js jobs
    exact ⟨t, requester, js, jobs⟩
  · cases head

theorem reprintDue_iff {s : State} (ready : s.ready .reprintStart = true) :
    ∃ n requester js, s.cert.jobs = ⟨.certificate n, requester, .queued⟩ :: js := by
  have due : s.reprintDue = true := ((Bool.and_eq_true _ _).mp ready).2
  have head := ((Bool.and_eq_true _ _).mp due).2
  split at head
  · rename_i n requester js jobs
    exact ⟨n, requester, js, jobs⟩
  · cases head

/-- A CERTIFICATE job's start (R153). -/
theorem startCertificate_cases (s : State) (n requester : Nat) :
    ((s.lane.find n).all (fun e => e.state = .abandoned) = true →
      startCertificate n requester s = refuseHead requester (.ticket n) .refusedUnknown s) ∧
    ∀ e, s.lane.find n = some e → e.state ≠ .abandoned → startCertificate n requester s = startPrinting (.ticket n) (s.recorded e) := by
  unfold startCertificate
  refine ⟨fun gone => ?_, fun e found live => ?_⟩
  · cases found : s.lane.find n with
    | none => rfl
    | some e =>
      rw [found] at gone
      exact if_pos (by simpa using gone)
  · rw [found]
    exact if_neg live

/-- The search of the record write of a job that starts while the archive is IDLE, at the archive after the start (R166). -/
theorem recorded_search {s : State} {t requester : Nat} {st : JobState} {js : List Job} (jobs : s.cert.jobs = ⟨.ticket t, requester, st⟩ :: js)
    (e : Entry) (low : s.archive.writePos < 32) (idle : s.archive.op = .idle) : (s.recorded e).archive.requests = s.archive.requests ∧
    ∀ k, k < 32 →
      (∀ m, m < k → (s.archive.writePos + m) % 8 ≠ 0 ∧ (s.archive.row ((s.archive.writePos + m) % 32)).state ≠ .erased) →
      ∀ slot, slot = (s.archive.writePos + k) % 32 →
      (slot % 8 ≠ 0 → (s.archive.row slot).state = .erased →
        (s.recorded e).archive.op = .programRecord slot (s.content e) ∧ (s.recorded e).archive.writePos = (slot + 1) % 32) ∧
      (slot % 8 = 0 → (∀ m, m < 8 → (s.archive.row (slot + m)).state = .erased) →
        (s.recorded e).archive.op = .programRecord slot (s.content e) ∧ (s.recorded e).archive.writePos = (slot + 1) % 32) ∧
      (slot % 8 = 0 → (∃ m, m < 8 ∧ (s.archive.row (slot + m)).state ≠ .erased) →
        (s.recorded e).archive.op = .erasing (slot / 8) (s.content e) [slot / 8] ∧ (s.recorded e).archive.writePos = slot) := by
  obtain ⟨archive, -⟩ := recorded_idle jobs e low idle
  rw [archive]
  refine ⟨(carryRecord_keeps s.archive.takeSequence (s.content e) [] true).2.2.2, fun k bound passes slot first => ?_⟩
  have passes' : ∀ m, m < k → s.archive.takeSequence.passes ((s.archive.takeSequence.writePos + m) % 32) := fun m below => by
    obtain ⟨inside, used⟩ := passes m below
    exact ⟨by change (s.archive.writePos + m) % 32 % 8 ≠ 0; omega, used⟩
  obtain ⟨inside, clean, dirty⟩ := carryRecord_cases (a := s.archive.takeSequence) low (s.content e) bound passes' first
  refine ⟨fun away erased => ?_, fun start erased => ?_, fun start used => ?_⟩
  · rw [inside away erased]
    exact ⟨rfl, rfl⟩
  · rw [clean start erased]
    exact ⟨rfl, rfl⟩
  · rw [dirty start used]
    exact ⟨rfl, rfl⟩

theorem certificateStart_outcome {s : State} (ready : s.ready .certificateStart = true) {j : Job} (first : s.cert.jobs.head? = some j)
    {n : Nat} (subject : j.subject = .ticket n) :
    Completes .certificateJobStart s (fun t => t.lane = s.lane ∧
      ((s.lane.find n).all (fun e => e.state = .abandoned) = true → t.archive = s.archive ∧ t.cert.source = s.cert.source ∧
        (∃ more, t.cert.jobs = s.cert.jobs.tail ++ more ∧ ∀ x ∈ more, x.requester = 0 ∧ x.state = .queued) ∧
        (j.requester ≠ 0 → s.queues t (.printAnswer j.requester (.ticket n) .refusedUnknown))) ∧
      (∀ e, s.lane.find n = some e → e.state ≠ .abandoned → t = startPrinting (.ticket n) (s.recorded e))) := by
  obtain ⟨n', requester, js, jobs⟩ := certificateDue_iff ready
  rw [jobs] at first
  cases first
  cases subject
  have started : named .certificateStart s = startCertificate n requester s := by
    rw [named_ready ready]
    change startHead s = _
    unfold startHead
    rw [jobs]
  obtain ⟨gone, live⟩ := startCertificate_cases s n requester
  refine ⟨_, (exec_named (.certificateJobStart, .certificateStart) (by decide) s).trans (congrArg _ started), ?_, fun absent => ?_,
    fun e found state => live e found state⟩
  · cases found : s.lane.find n with
    | none =>
      rw [gone (by rw [found]; rfl)]
      exact (refuseHead_refuses _ _ _ s).lane
    | some e =>
      by_cases state : e.state = .abandoned
      · rw [gone (by rw [found]; simpa using state)]
        exact (refuseHead_refuses _ _ _ s).lane
      · rw [live e found state]
        exact (startPrinting_rest _ _).1.trans (recorded_items jobs e).1
  · rw [gone absent]
    obtain ⟨-, archive, source, left, answered⟩ := refuseHead_refuses requester (.ticket n) .refusedUnknown s
    exact ⟨archive, source, left, answered⟩

/-- What a CERTIFICATE job begins to print (R153, R155, R165). -/
theorem recorded_prints {s : State} {j : Job} {js : List Job} (jobs : s.cert.jobs = j :: js) {n : Nat} (subject : j.subject = .ticket n)
    {e : Entry} (found : s.lane.find n = some e) {t : State} (started : t = startPrinting (.ticket n) (s.recorded e)) :
    t.archive.nextSeq = (if 65535 ≤ s.archive.nextSeq then 1 else s.archive.nextSeq + 1) ∧
    t.cert.jobs.head? = some { j with state := if s.cert.paperOut then .paperWait else .printing } ∧
    t.guidance.isRaised .printing = true ∧ t.cert.source = some (s.content e) ∧
    t.cert.output = (((s.content e).lines (t.cert.footerFail.getD false)).take 16).map (fun l => ⟨l, false⟩) ∧
    (s.content e).ticket = n := by
  obtain ⟨sub, requester, st⟩ := j
  cases subject
  obtain ⟨-, jobs', source, paper, archive⟩ := recorded_items jobs e
  obtain ⟨-, -, seq, -⟩ := submitRecord_keeps s.archive.takeSequence (s.content e)
  obtain ⟨source', output, head, -⟩ := startPrinting_prints (jobs'.trans jobs) source (.ticket n)
  obtain ⟨-, archive', raised⟩ := startPrinting_rest (.ticket n) (s.recorded e)
  rw [paper] at head
  rw [started]
  refine ⟨?_, head, raised, source', output, ?_⟩
  · rw [archive', archive, seq]
    rfl
  · exact LaneView.find_ticket found

end Sys2Proof.Machine
end

section
/-! #### The start of a REPRINT job, and both settled -/

namespace Sys2Proof.Machine

theorem startReprint_refuses {s : State} {n : CertNo} {o : AnswerOutcome} (judged : s.archive.judge n = .inl o) (requester : Nat) :
    startReprint n requester s = refuseHead requester (.certificate n) o s := by
  unfold startReprint
  rw [judged]

/-- A certificate read from its record, to be printed as a duplicate (R152). -/
def CertContent.duplicated (c : CertContent) (marks : Nat) : CertContent := { c with duplicate := some (marks + 1) }

theorem startReprint_prints {s : State} {n : CertNo} {marks : Nat} {c : CertContent} (judged : s.archive.judge n = .inr (marks, c))
    (requester : Nat) : startReprint n requester s = startPrinting (.certificate n)
      (s.setCert { s.cert with source := some (c.duplicated marks), archiveOutcome := .noOutcome }) := by
  unfold startReprint
  rw [judged]
  rfl

theorem reprintStart_outcome {s : State} (ready : s.ready .reprintStart = true) {j : Job} (first : s.cert.jobs.head? = some j)
    {n : CertNo} (subject : j.subject = .certificate n) :
    Completes .reprintJobStart s (fun t => t.lane = s.lane ∧ t.archive = s.archive ∧
      ((∀ i, s.archive.lookup n = some i → ∀ c, (s.archive.store i).content = some c → 3 ≤ (s.archive.row i).marks) →
        ∃ more, t.cert.jobs = s.cert.jobs.tail ++ more ∧ ∀ x ∈ more, x.requester = 0 ∧ x.state = .queued) ∧
      (s.archive.lookup n = none → j.requester ≠ 0 → s.queues t (.printAnswer j.requester (.certificate n) .refusedUnknown)) ∧
      (∀ i, s.archive.lookup n = some i → (s.archive.store i).content = none → j.requester ≠ 0 →
        s.queues t (.printAnswer j.requester (.certificate n) .refusedDamaged)) ∧
      (∀ i, s.archive.lookup n = some i → ∀ c, (s.archive.store i).content = some c →
        (3 ≤ (s.archive.row i).marks → j.requester ≠ 0 →
          s.queues t (.printAnswer j.requester (.certificate n) .refusedLimit)) ∧
        ((s.archive.row i).marks < 3 → t.cert.source = some { c with duplicate := some ((s.archive.row i).marks + 1) } ∧
          t.cert.output = ((({ c with duplicate := some ((s.archive.row i).marks + 1) } : CertContent).lines
            (t.cert.footerFail.getD false)).take 16).map (fun l => ⟨l, false⟩) ∧
          t.cert.jobs.head? = some { j with state := if s.cert.paperOut then .paperWait else .printing } ∧
          t.cert.archiveOutcome = .noOutcome ∧ t.guidance.isRaised .printing = true))) := by
  obtain ⟨n', requester, js, jobs⟩ := reprintDue_iff ready
  rw [jobs] at first
  cases first
  cases subject
  have started : named .reprintStart s = startReprint n requester s := by
    rw [named_ready ready]
    change startHead s = _
    unfold startHead
    rw [jobs]
  obtain ⟨absent, listed⟩ := s.archive.judge_cases n
  have refuses {o : AnswerOutcome} (judged : s.archive.judge n = .inl o) : s.Refuses (.certificate n) requester o (startReprint n requester s) := by
    rw [startReprint_refuses judged]
    exact refuseHead_refuses _ _ _ s
  have kept : (startReprint n requester s).lane = s.lane ∧ (startReprint n requester s).archive = s.archive := by
    cases judged : s.archive.judge n with
    | inl o => exact ⟨(refuses judged).lane, (refuses judged).archive⟩
    | inr found =>
      obtain ⟨marks, c⟩ := found
      rw [startReprint_prints judged]
      obtain ⟨lane, archive, -⟩ := startPrinting_rest (.certificate n)
        (s.setCert { s.cert with source := some (c.duplicated marks), archiveOutcome := .noOutcome })
      exact ⟨lane, archive⟩
  refine ⟨_, (exec_named (.reprintJobStart, .reprintStart) (by decide) s).trans (congrArg _ started), kept.1, kept.2, fun ends => ?_,
    fun unlisted => (refuses (absent unlisted)).answered, fun i found damaged => (refuses ((listed i found).1 damaged)).answered,
    fun i found c read => ⟨fun many => (refuses (((listed i found).2 c read).1 many)).answered, fun few => ?_⟩⟩
  · obtain ⟨o, judged⟩ : ∃ o, s.archive.judge n = .inl o := by
      cases found : s.archive.lookup n with
      | none => exact ⟨_, absent found⟩
      | some i =>
        cases read : (s.archive.store i).content with
        | none => exact ⟨_, (listed i found).1 read⟩
        | some c => exact ⟨_, ((listed i found).2 c read).1 (ends i found c read)⟩
    exact (refuses judged).jobs
  · have judged := ((listed i found).2 c read).2 few
    rw [startReprint_prints judged]
    obtain ⟨r, filled⟩ : ∃ r, r = s.setCert { s.cert with source := some (c.duplicated (s.archive.row i).marks), archiveOutcome := .noOutcome } :=
      ⟨_, rfl⟩
    rw [← filled]
    obtain ⟨source, output, head, outcome⟩ := startPrinting_prints (s := r) (c := c.duplicated (s.archive.row i).marks)
      (jobs := by rw [filled]; exact jobs) (source := by rw [filled]; rfl) (.certificate n)
    obtain ⟨-, -, raised⟩ := startPrinting_rest (.certificate n) r
    refine ⟨source, output, ?_, outcome.trans (by rw [filled]; rfl), raised⟩
    rw [head, filled]
    rfl

/-- Settles O53, by the state with the record write asked for: page 1 is begun from it, and its search is walked to the first slot that it
does not pass over. -/
theorem jobsStartWithTheirContent : Obligations.JobsStartWithTheirContent := by
  intro s
  refine ⟨fun ready j first n subject => ?_, fun ready j first n subject => reprintStart_outcome ready first subject⟩
  obtain ⟨t, run, lane, gone, live⟩ := certificateStart_outcome ready first subject
  refine ⟨t, run, lane, gone, fun e found state => ?_⟩
  have started := live e found state
  obtain ⟨js, jobs⟩ : ∃ js, s.cert.jobs = j :: js := List.head?_eq_some_iff.mp first
  obtain ⟨seq, head, raised, source, output, ticket⟩ := recorded_prints jobs subject found started
  obtain ⟨-, archive', -⟩ := startPrinting_rest (.ticket n) (s.recorded e)
  obtain ⟨sub, requester, st⟩ := j
  cases subject
  obtain ⟨-, jobs', source', -, archive⟩ := recorded_items jobs e
  have outcome := (startPrinting_prints (jobs'.trans jobs) source' (.ticket n)).2.2.2
  obtain ⟨storage, table, -, -⟩ := submitRecord_keeps s.archive.takeSequence (s.content e)
  obtain ⟨ovality, drag, referenced⟩ := formRemarks_iff e
  obtain ⟨length, required⟩ := requiredParts_eq e s.slipRequired
  have low (law : s.archiveLaw = true) : s.archive.writePos < 32 := (State.archiveLaw_iff.mp law).pos
  rw [← started] at archive' outcome
  have stored := archive'.trans archive
  refine ⟨seq, head, raised, s.content e, source, output, rfl, ticket, rfl, rfl, rfl, rfl, rfl, rfl, rfl, rfl, rfl, rfl, rfl, rfl, rfl, rfl,
    ovality, drag, referenced, length, required, ?_, ?_, fun law room => ?_, fun law idle => ?_, fun busy => ?_⟩
  · rw [stored, storage]
    rfl
  · rw [stored, table]
    rfl
  · rw [outcome]
    by_cases idle : s.archive.op = .idle
    · exact (recorded_idle jobs e (low law) idle).2
    · exact ((recorded_busy jobs e idle).1 (room.resolve_left idle)).2
  · rw [archive']
    exact recorded_search jobs e (low law) idle
  · obtain ⟨joins, full⟩ := recorded_busy jobs e busy
    rw [archive', outcome]
    by_cases room : s.archive.requests.length < 4
    · rw [(joins room).1]
      exact ⟨rfl, rfl, fun _ => rfl, fun many => absurd room (not_lt.mpr many)⟩
    · rw [(full (not_lt.mp room)).1]
      exact ⟨rfl, rfl, fun few => absurd few room, fun many => ⟨rfl, (full many).2⟩⟩

end Sys2Proof.Machine
end

section
/-! The paper-out line and the paper wait (R148, R157, R158). -/

namespace Sys2Proof.Machine

/-! ### Lines handed (R156) -/

/-- Composing a page changes what is composed, and the footer it fixes (R155). -/
theorem composeNext_composes (u : Cert) : ∃ page count fail, u.composeNext = { u with compose := page, composed := count, footerFail := fail } := by
  unfold Cert.composeNext
  split
  · exact ⟨_, _, _, rfl⟩
  · dsimp only
    exact iteInduction (motive := fun v : Cert => ∃ page count fail, v = { u with compose := page, composed := count, footerFail := fail })
      (fun _ => ⟨u.compose, u.composed, u.footerFail, rfl⟩) (fun _ => by exact ⟨_, _, _, rfl⟩)

/-- Handing a line composes the next page at most: what else stands at the unit is as it was, but for what is being sent. -/
theorem tryHand_cert (s : State) : (tryHand s).cert = { s.cert with
    sending := (tryHand s).cert.sending, compose := (tryHand s).cert.compose, composed := (tryHand s).cert.composed,
    footerFail := (tryHand s).cert.footerFail } := by
  unfold tryHand
  dsimp only
  split
  · rfl
  · cases s.cert.nextItem with
    | none => rfl
    | some it =>
      dsimp only
      split
      · change ({ s.cert.composeNext with sending := some it } : Cert) = _
        obtain ⟨page, count, fail, composed⟩ := composeNext_composes s.cert
        rw [composed]
        rfl
      · rfl

theorem tryHand_pins (s : State) : (tryHand s).pins.paperOut = s.pins.paperOut := by
  unfold tryHand
  dsimp only
  split
  · rfl
  · cases s.cert.nextItem <;> rfl

/-! ### A page that begins while paper is present (R157) -/

/-- The unit with a page in OUTPUT, before its first line is handed (R157). -/
def Cert.outputting (u : Cert) (page : List (List Byte)) : Cert :=
  { u with output := unsent page, lead := if u.current = .fail then some false else none, previous := u.current
           current := .noOutcome, sending := staleItem u.sending }

theorem beginPage_eq (page : List (List Byte)) (s : State) : beginPage page s =
    if s.cert.paperOut then failPage (s.setCert (s.cert.outputting page)) else tryHand (s.setCert (s.cert.outputting page)) := rfl

/-- What stands at the unit as a page begins while paper is present. -/
theorem beginPage_items {s : State} (page : List (List Byte)) (paper : s.cert.paperOut = false) :
    (beginPage page s).cert.jobs = s.cert.jobs ∧ (beginPage page s).cert.output = unsent page ∧
    (beginPage page s).cert.previous = s.cert.current ∧
    (beginPage page s).cert.lead = (if s.cert.current = .fail then some false else none) ∧
    (beginPage page s).cert.paperOut = false ∧ (beginPage page s).timers = s.timers ∧
    (beginPage page s).pins.paperOut = s.pins.paperOut := by
  have begun : beginPage page s = tryHand (s.setCert (s.cert.outputting page)) := by
    rw [beginPage_eq, paper]
    rfl
  have frame := tryHand_within (s.setCert (s.cert.outputting page))
  rw [begun, tryHand_cert]
  exact ⟨rfl, rfl, rfl, rfl, paper, frame.1 .timers (by simp), tryHand_pins _⟩

/-! ### Paper that runs out (R148, R158) -/

/-- The station with paper OUT and its prompt, before the page in hand fails (R158). -/
def State.outOfPaper (s : State) : State := raise .paperOut {} (s.setCert { s.cert with paperOut := true })

theorem outOfPaper_items (s : State) : s.outOfPaper.cert = { s.cert with paperOut := true } ∧ s.outOfPaper.pins = s.pins ∧
    s.outOfPaper.timers = s.timers ∧ s.outOfPaper.lane = s.lane ∧ s.outOfPaper.archive = s.archive ∧
    s.outOfPaper.guidance.isRaised .paperOut = true := by
  have frame := raise_within .paperOut {} (s.setCert { s.cert with paperOut := true })
  refine ⟨raise_cert _ _ _, frame.1 .pins (by simp), frame.1 .timers (by simp), frame.1 .lane (by simp), frame.1 .archive (by simp), ?_⟩
  rw [State.outOfPaper, raise_isRaised]
  simp

/-- The station with the page in hand failed where one is being sent (R158). -/
def State.pageHeld (s : State) : State := if s.outOfPaper.cert.sendsPage then failPage s.outOfPaper else s.outOfPaper

theorem paperGone_eq (s : State) : paperGone s = certChange State.pageHeld s := rfl

theorem sendsPage_iff {u : Cert} : u.sendsPage = true ↔ u.headIs .printing = true ∧ u.output ≠ [] := by
  simp [Cert.sendsPage]

theorem headIs_iff {u : Cert} {st : JobState} : u.headIs st = true ↔ ∃ j, u.jobs.head? = some j ∧ j.state = st := by
  unfold Cert.headIs
  cases u.jobs with
  | nil => simp
  | cons j js => simp

theorem State.Rechecked.headIs {s t : State} (h : s.Rechecked t) {st : JobState} (head : s.cert.headIs st = true) :
    t.cert.headIs st = true := by
  obtain ⟨j, first, state⟩ := headIs_iff.mp head
  exact headIs_iff.mpr ⟨j, h.head first, state⟩

theorem setHeadState_headIs {u : Cert} {st st' : JobState} (head : u.headIs st = true) : (u.setHeadState st').headIs st' = true := by
  obtain ⟨j, first, -⟩ := headIs_iff.mp head
  obtain ⟨js, jobs⟩ := List.head?_eq_some_iff.mp first
  unfold Cert.setHeadState
  rw [jobs]
  exact beq_self_eq_true _

theorem setHeadState_items (u : Cert) (st : JobState) : u.setHeadState st = { u with jobs := (u.setHeadState st).jobs } := by
  unfold Cert.setHeadState
  split <;> rfl

theorem failPage_items (s : State) : (failPage s).cert = { s.cert with current := .fail }.setHeadState .paperWait ∧
    (failPage s).timers.certTimer = ⟨true, 960, false⟩ ∧ (failPage s).pins = s.pins ∧ (failPage s).guidance = s.guidance ∧
    (failPage s).lane = s.lane ∧ (failPage s).archive = s.archive := ⟨rfl, rfl, rfl, rfl, rfl, rfl⟩

/-- What stands at the station with paper OUT, whether a page fails or not. -/
theorem pageHeld_items (s : State) : s.pageHeld.pins = s.pins ∧ s.pageHeld.cert.paperOut = true ∧
    s.pageHeld.guidance.isRaised .paperOut = true ∧ s.pageHeld.lane = s.lane ∧ s.pageHeld.archive = s.archive ∧
    s.pageHeld.cert.output = s.cert.output ∧ s.pageHeld.cert.sending = s.cert.sending := by
  obtain ⟨cert, pins, -, lane, archive, raised⟩ := outOfPaper_items s
  unfold State.pageHeld
  split
  · obtain ⟨cert', -, pins', guidance, lane', archive'⟩ := failPage_items s.outOfPaper
    rw [cert', setHeadState_items, pins', guidance, lane', archive', cert]
    exact ⟨pins, rfl, raised, lane, archive, rfl, rfl⟩
  · rw [cert]
    exact ⟨pins, rfl, raised, lane, archive, rfl, rfl⟩

/-- The page in hand fails and its job waits for paper, where a page is being sent (R158). -/
theorem pageHeld_page (s : State) :
    (s.cert.headIs .printing = true → s.cert.output ≠ [] → s.pageHeld.cert.headIs .paperWait = true ∧ s.pageHeld.cert.current = .fail ∧
      s.pageHeld.timers.certTimer = ⟨true, 960, false⟩) ∧
    (s.cert.headIs .printing = false ∨ s.cert.output = [] → s.pageHeld.cert.current = s.cert.current ∧
      s.pageHeld.timers.certTimer = s.timers.certTimer) := by
  obtain ⟨cert, -, timers, -⟩ := outOfPaper_items s
  have same : s.outOfPaper.cert.sendsPage = s.cert.sendsPage := by rw [cert]; rfl
  have printing : s.outOfPaper.cert.headIs .printing = s.cert.headIs .printing := by rw [cert]; rfl
  unfold State.pageHeld
  rw [same]
  refine ⟨fun head output => ?_, fun idle => ?_⟩
  · rw [if_pos (sendsPage_iff.mpr ⟨head, output⟩)]
    obtain ⟨cert', timer, -⟩ := failPage_items s.outOfPaper
    rw [cert']
    refine ⟨setHeadState_headIs (u := { s.outOfPaper.cert with current := .fail }) (st := .printing) (printing.trans head), ?_, timer⟩
    rw [setHeadState_items]
  · rw [if_neg ?_, cert, timers]
    · exact ⟨rfl, rfl⟩
    · rw [sendsPage_iff]
      rintro ⟨head, output⟩
      rcases idle with away | empty
      · exact absurd (head.symm.trans away) (by simp)
      · exact output empty

/-! ### Paper that returns (R148, R158) -/

/-- The station with paper PRESENT and its prompt lowered (R158). -/
def State.paperLoaded (s : State) : State := lower .paperOut (s.setCert { s.cert with paperOut := false })

theorem paperLoaded_items (s : State) : s.paperLoaded.cert = { s.cert with paperOut := false } ∧ s.paperLoaded.pins = s.pins ∧
    s.paperLoaded.timers = s.timers ∧ s.paperLoaded.lane = s.lane ∧ s.paperLoaded.archive = s.archive ∧
    s.paperLoaded.guidance.isRaised .paperOut = false := by
  have frame := lower_within .paperOut (s.setCert { s.cert with paperOut := false })
  refine ⟨by simp [State.paperLoaded], frame.1 .pins (by simp), frame.1 .timers (by simp), frame.1 .lane (by simp),
    frame.1 .archive (by simp), ?_⟩
  rw [State.paperLoaded, lower_isRaised]
  simp

/-- The station with a waiting page's job PRINTING again and its wait cancelled (R158). -/
def State.resumed (s : State) : State := cancelCertTimer (s.paperLoaded.setCert (s.paperLoaded.cert.setHeadState .printing))

/-- The station with the page that waited for paper begun again (R158). -/
def State.pageResent (s : State) : State :=
  if s.paperLoaded.cert.headIs .paperWait then beginPage (s.paperLoaded.cert.output.map (·.text)) s.resumed else s.paperLoaded

theorem paperBack_eq (s : State) : paperBack s = certChange State.pageResent s := rfl

theorem resumed_items (s : State) : s.resumed.cert = ({ s.cert with paperOut := false } : Cert).setHeadState .printing ∧
    s.resumed.timers.certTimer = ⟨false, 0, false⟩ ∧ s.resumed.pins = s.pins ∧ s.resumed.lane = s.lane ∧ s.resumed.archive = s.archive ∧
    s.resumed.guidance = s.paperLoaded.guidance := by
  obtain ⟨cert, pins, -, lane, archive, -⟩ := paperLoaded_items s
  exact ⟨congrArg (·.setHeadState .printing) cert, rfl, pins, lane, archive, rfl⟩

theorem pageResent_items (s : State) : s.pageResent.pins.paperOut = s.pins.paperOut ∧ s.pageResent.cert.paperOut = false ∧
    s.pageResent.guidance.isRaised .paperOut = false ∧ s.pageResent.lane = s.lane ∧ s.pageResent.archive = s.archive := by
  obtain ⟨cert, pins, -, lane, archive, lowered⟩ := paperLoaded_items s
  unfold State.pageResent
  split
  · obtain ⟨cert', -, pins', lane', archive', guidance⟩ := resumed_items s
    have paper : s.resumed.cert.paperOut = false := by rw [cert', setHeadState_items]
    obtain ⟨-, -, -, -, paper', -, pin⟩ := beginPage_items (s := s.resumed) (s.paperLoaded.cert.output.map (·.text)) paper
    have frame := beginPage_within (s.paperLoaded.cert.output.map (·.text)) s.resumed
    have same : (beginPage (s.paperLoaded.cert.output.map (·.text)) s.resumed).guidance = s.paperLoaded.guidance :=
      (frame.1 .guidance (by simp)).trans guidance
    refine ⟨pin.trans (by rw [pins']), paper', ?_, (frame.1 .lane (by simp)).trans lane', (frame.1 .archive (by simp)).trans archive'⟩
    rw [same]
    exact lowered
  · rw [cert, pins]
    exact ⟨rfl, rfl, lowered, lane, archive⟩

theorem pageResent_page {s : State} (waits : s.cert.headIs .paperWait = true) : s.pageResent.cert.headIs .printing = true ∧
    s.pageResent.timers.certTimer = ⟨false, 0, false⟩ ∧ s.pageResent.cert.output = (s.cert.output.map fun l => ⟨l.text, false⟩) ∧
    s.pageResent.cert.previous = s.cert.current ∧ s.pageResent.cert.lead = (if s.cert.current = .fail then some false else none) := by
  obtain ⟨cert, -⟩ := paperLoaded_items s
  have waits' : s.paperLoaded.cert.headIs .paperWait = true := by rw [cert]; exact waits
  have resent : s.pageResent = beginPage (s.paperLoaded.cert.output.map (·.text)) s.resumed := if_pos waits'
  obtain ⟨cert', timer, -⟩ := resumed_items s
  have paper : s.resumed.cert.paperOut = false := by rw [cert', setHeadState_items]
  have current : s.resumed.cert.current = s.cert.current := by rw [cert', setHeadState_items]
  obtain ⟨jobs, output, previous, lead, -, timers, -⟩ := beginPage_items (s := s.resumed) (s.paperLoaded.cert.output.map (·.text)) paper
  rw [resent]
  refine ⟨?_, by rw [timers]; exact timer, ?_, previous.trans current, by rw [lead, current]⟩
  · obtain ⟨j, first, state⟩ := headIs_iff.mp (setHeadState_headIs (u := { s.cert with paperOut := false }) (st' := .printing) waits)
    exact headIs_iff.mpr ⟨j, by rw [jobs, cert']; exact first, state⟩
  · rw [output, cert, unsent, List.map_map]
    rfl

/-! ### The expiry of the wait (R158) -/

theorem failJob_fails {s : State} {j : Job} (first : s.cert.jobs.head? = some j) : (failJob s).cert.source = none ∧
    (failJob s).cert.output = [] ∧ (failJob s).cert.compose = [] ∧ (failJob s).lane = s.lane ∧
    (∃ more, (failJob s).cert.jobs = s.cert.jobs.tail ++ more ∧ ∀ x ∈ more, x.requester = 0 ∧ x.state = .queued) ∧
    (failJob s).archive = s.archive ∧ (failJob s).timers = s.timers ∧
    (j.requester ≠ 0 → s.queues (failJob s) (.printAnswer j.requester j.subject .failedPaper)) := by
  obtain ⟨js, jobs⟩ := List.head?_eq_some_iff.mp first
  have fails : failJob s = dropHead (answer j.requester j.subject .failedPaper (s.setCert s.cert.emptied)) := by
    unfold failJob
    rw [jobs]
  obtain ⟨cert, lane, archive, -, timers⟩ := answer_items j.requester j.subject .failedPaper (s.setCert s.cert.emptied)
  obtain ⟨r, answered⟩ : ∃ r, r = answer j.requester j.subject .failedPaper (s.setCert s.cert.emptied) := ⟨_, rfl⟩
  have keeps := dropHead_keepsQueue r
  obtain ⟨source, output, compose, lane', archive', -, timers'⟩ := dropHead_items r
  have left := dropHead_jobs r
  rw [← answered] at fails cert lane archive timers
  rw [cert] at source output compose left
  rw [fails]
  refine ⟨source, output, compose, lane'.trans lane, left, archive'.trans archive, timers'.trans timers, fun someone => ?_⟩
  rw [answered] at keeps ⊢
  exact answer_queues (r := s.setCert s.cert.emptied) rfl someone _ _ keeps

/-- Settles O55: each event's change of the unit, and what the PRESENCE and the recheck of a change of printer state leave of it. -/
theorem paperOutHoldsThePage : Obligations.PaperOutHoldsThePage := by
  intro s
  refine ⟨fun quiet printer present => ?_, fun quiet printer out => ?_, fun ready j first => ?_⟩
  · have run : exec .paperOutActive s = .next (certChange State.pageHeld (paperLine true s)) := by
      refine congrArg Host.Outcome.next ((if_pos (State.quiet_iff.mp quiet).1).trans ?_)
      rw [settle_quiet quiet]
      exact (if_neg (by simp [present])).trans (if_pos printer)
    obtain ⟨pins, paper, raised, lane, archive, output, sending⟩ := pageHeld_items (paperLine true s)
    obtain ⟨holds, stays⟩ := pageHeld_page (paperLine true s)
    have changed := certChange_rechecks State.pageHeld (paperLine true s)
    obtain ⟨-, output', -, -, current', -, -, sending', paper', -⟩ := changed.items
    refine ⟨_, run, ?_, paper'.trans paper, ?_, changed.lane.trans lane, changed.archive.trans archive, output'.trans output,
      sending'.trans sending, fun head page => ?_, fun idle => ?_⟩
    · rw [changed.pins, pins]
      rfl
    · rw [changed.guidance]
      exact raised
    · obtain ⟨waits, current, timer⟩ := holds head page
      exact ⟨changed.headIs waits, current'.trans current, by rw [changed.timers]; exact timer⟩
    · obtain ⟨current, timer⟩ := stays idle
      exact ⟨current'.trans current, by rw [changed.timers]; exact timer⟩
  · have run : exec .paperOutInactive s = .next (certChange State.pageResent (paperLine false s)) := by
      refine congrArg Host.Outcome.next ((if_pos (State.quiet_iff.mp quiet).1).trans ?_)
      rw [settle_quiet quiet]
      exact (if_pos out).trans (if_pos printer)
    obtain ⟨pin, paper, lowered, lane, archive⟩ := pageResent_items (paperLine false s)
    have changed := certChange_rechecks State.pageResent (paperLine false s)
    obtain ⟨-, output', -, lead', -, previous', -, -, paper', -⟩ := changed.items
    refine ⟨_, run, ?_, paper'.trans paper, ?_, changed.lane.trans lane, changed.archive.trans archive, fun waits => ?_⟩
    · rw [changed.pins, pin]
      rfl
    · rw [changed.guidance]
      exact lowered
    · obtain ⟨head, timer, output, previous, lead⟩ := pageResent_page (s := paperLine false s) waits
      exact ⟨changed.headIs head, by rw [changed.timers]; exact timer, output'.trans output, previous'.trans previous, lead'.trans lead⟩
  · obtain ⟨source, output, compose, lane, left, archive, timers, answered⟩ := failJob_fails (s := cancelCertTimer s) first
    refine ⟨_, (exec_named (.paperWaitExpiry, .paperWait) (by decide) s).trans (congrArg _ (named_ready ready)), source, output, compose,
      lane, left, archive, ?_, answered⟩
    change (failJob (cancelCertTimer s)).timers.certTimer = _
    rw [timers]
    rfl

end Sys2Proof.Machine
end

section
/-! Lines handed in order, and the ends of the jobs whose final page has passed (R155, R156, R159, R160). -/

namespace Sys2Proof.Machine

/-! ### The next line (R156) -/

/-- The first member of a list that satisfies a test, by its place. -/
theorem findIdx_of_first {α : Type} {P : α → Bool} {l : List α} {i : Nat} {x : α} (here : l[i]? = some x) (holds : P x = true)
    (before : ∀ m, m < i → ∀ y, l[m]? = some y → P y = false) : l.findIdx P = i ∧ l.findIdx? P = some i := by
  obtain ⟨low, same⟩ := List.getElem?_eq_some_iff.mp here
  have place : l.findIdx P = i := (List.findIdx_eq low).mpr ⟨by rw [same]; exact holds, fun m below =>
    before m below l[m] (List.getElem?_eq_getElem (below.trans low))⟩
  exact ⟨place, List.findIdx?_eq_some_iff_findIdx_eq.mpr ⟨low, place⟩⟩

theorem nextItem_lead {u : Cert} (lead : u.lead = some false) : u.nextItem = some (.lead, printBytes leadLine) := if_pos lead

theorem nextItem_line {u : Cert} (lead : u.lead ≠ some false) {i : Nat} {l : PrintLine} (here : u.output[i]? = some l)
    (unsent : l.sent = false) (before : ∀ k, k < i → ∀ m, u.output[k]? = some m → m.sent = true) :
    u.nextItem = some (.line i, printBytes l.text) := by
  have found := (findIdx_of_first (P := fun l : PrintLine => !l.sent) here (by simp [unsent]) fun k below m at' => by
    simp [before k below m at']).2
  have line : u.output.getD i ⟨[], true⟩ = l := by rw [List.getD_eq_getElem?_getD, here]; rfl
  unfold Cert.nextItem
  rw [if_neg lead, found]
  dsimp only
  rw [line]

/-- The next line is handed, and the printer lowers PRINTER_READY as it takes it (R156). -/
theorem tryHand_hands {s : State} (idle : s.cert.sending = none) (printing : s.cert.headIs .printing = true)
    (ready : s.pins.printerReady = true) {it : PrintItem × List Byte} (next : s.cert.nextItem = some it) :
    (tryHand s).pins.printerReady = false ∧ (tryHand s).cert.sending = some it := by
  unfold tryHand
  dsimp only
  rw [if_neg (by simp [idle, printing, ready]), next]
  exact ⟨rfl, rfl⟩

/-- Nothing is handed while a line is being sent, while the job does not print, or while the printer takes none. -/
theorem tryHand_rests {s : State} (rests : s.cert.sending.isSome = true ∨ s.cert.headIs .printing = false ∨ s.pins.printerReady = false) :
    tryHand s = s := by
  refine if_pos ?_
  rcases rests with sending | other | taken
  · simp [sending]
  · simp [other]
  · simp [taken]

theorem printerReadyRise_outcome {s : State} (quiet : s.quiet = true) (printer : s.printerActive = true) :
    Completes .printerReadyRise s (fun t => s.onlyChanges [.pins, .cert] t ∧ t.cert.output = s.cert.output ∧
      (s.cert.sending.isSome = true ∨ s.cert.headIs .printing = false → t = s.setPins { s.pins with printerReady := true }) ∧
      (s.cert.sending = none → s.cert.headIs .printing = true →
        (s.cert.lead = some false → t.pins.printerReady = false ∧ t.cert.sending = some (.lead, printBytes leadLine)) ∧
        (s.cert.lead ≠ some false → ∀ i, i < s.cert.output.length → ∀ l, s.cert.output[i]? = some l → l.sent = false →
          (∀ k, k < i → ∀ m, s.cert.output[k]? = some m → m.sent = true) →
          t.pins.printerReady = false ∧ t.cert.sending = some (.line i, printBytes l.text)))) := by
  have run : exec .printerReadyRise s = .next (tryHand (readyRises s)) := by
    refine congrArg Host.Outcome.next ((if_pos (State.quiet_iff.mp quiet).1).trans ?_)
    rw [settle_quiet quiet]
    exact if_pos printer
  have hands (idle : s.cert.sending = none) (printing : s.cert.headIs .printing = true) {it : PrintItem × List Byte}
      (next : s.cert.nextItem = some it) : (tryHand (readyRises s)).pins.printerReady = false ∧ (tryHand (readyRises s)).cert.sending = some it :=
    tryHand_hands (s := readyRises s) idle printing rfl next
  refine ⟨_, run, State.onlyChanges_trans ((Within.setPins s _).mono (by simp)).1 (tryHand_within (readyRises s)).1, ?_, fun rests => ?_,
    fun idle printing => ⟨fun lead => hands idle printing (nextItem_lead lead), fun lead i _ l here unsent before =>
      hands idle printing (nextItem_line lead here unsent before)⟩⟩
  · rw [tryHand_cert]
    rfl
  · exact tryHand_rests (s := readyRises s) (rests.imp_right Or.inl)

/-! ### The end of a CERTIFICATE job (R159) -/

theorem lower_cert (p : Prompt) (s : State) : (lower p s).cert = s.cert := (lower_within p s).1 .cert (by simp)

/-- The station with a ticket's entry closed, and the ticket out of the completed list (R159). -/
def State.closedFor (ticket : Nat) (c : CertContent) (s : State) : State :=
  (s.setLane (s.lane.closeLocal ticket c.number c.verdict)).setCert { s.cert with completed := s.cert.completed.filter fun t => t ≠ ticket }

/-- The station with a job's CERT_DONE queued and its ticket closed (R159). -/
def State.certified (ticket : Nat) (c : CertContent) (s : State) : State :=
  (queueFrame (.certDone ticket c.number c.verdict) s).closedFor ticket c

theorem certified_items (ticket : Nat) (c : CertContent) (s : State) :
    (s.certified ticket c).lane = s.lane.closeLocal ticket c.number c.verdict ∧ (s.certified ticket c).archive = s.archive ∧
    (s.certified ticket c).cert = { s.cert with completed := s.cert.completed.filter fun t => t ≠ ticket } ∧
    (s.certified ticket c).bus.canQueue = s.bus.canQueue := by
  have frame := queueFrame_within (.certDone ticket c.number c.verdict) s
  obtain ⟨r, queued⟩ : ∃ r, r = queueFrame (.certDone ticket c.number c.verdict) s := ⟨_, rfl⟩
  have lane : r.lane = s.lane := by rw [queued]; exact frame.1 .lane (by simp)
  have cert : r.cert = s.cert := by rw [queued]; exact frame.1 .cert (by simp)
  have archive : r.archive = s.archive := by rw [queued]; exact frame.1 .archive (by simp)
  have can : r.bus.canQueue = s.bus.canQueue := by rw [queued]; simp
  rw [State.certified, ← queued]
  exact ⟨by rw [← lane]; rfl, archive, by rw [← cert]; rfl, can⟩

/-- The station with a job's working items emptied and its prompt lowered, before the job leaves the queue. -/
def State.finished (s : State) : State := lower .printing (s.setCert { s.cert.emptied with archiveOutcome := .noOutcome })

theorem endCertificate_eq (ticket requester : Nat) (c : CertContent) (s : State) : endCertificate ticket requester c s =
    dropHead (answer requester (.ticket ticket) .printed (s.certified ticket c)).finished := rfl

theorem finished_keepsQueue (s : State) : KeepsQueue s s.finished :=
  (lower_within .printing _).keepsQueue.after (KeepsQueue.of_eq (s := s) rfl)

theorem endCertificate_ends {s : State} (n requester : Nat) (c : CertContent) :
    s.queues (endCertificate n requester c s) (.certDone n c.number c.verdict) ∧
    (endCertificate n requester c s).lane = s.lane.closeLocal n c.number c.verdict ∧
    n ∉ (endCertificate n requester c s).cert.completed ∧ (endCertificate n requester c s).cert.source = none ∧
    (endCertificate n requester c s).cert.output = [] ∧ (endCertificate n requester c s).guidance.isRaised .printing = false ∧
    (requester ≠ 0 → s.queues (endCertificate n requester c s) (.printAnswer requester (.ticket n) .printed)) ∧
    (endCertificate n requester c s).archive = s.archive := by
  obtain ⟨r, told⟩ : ∃ r, r = answer requester (.ticket n) .printed (s.certified n c) := ⟨_, rfl⟩
  obtain ⟨cert, lane, archive, -, -⟩ := answer_items requester (.ticket n) .printed (s.certified n c)
  rw [← told] at cert lane archive
  have ended : endCertificate n requester c s = dropHead r.finished := by rw [endCertificate_eq, told]
  obtain ⟨source, output, -, lane', archive', guidance, -⟩ := dropHead_items r.finished
  have frame := lower_within .printing (r.setCert { r.cert.emptied with archiveOutcome := .noOutcome })
  have done : r.finished.cert = { r.cert.emptied with archiveOutcome := .noOutcome } := lower_cert _ _
  have rest : KeepsQueue r (dropHead r.finished) := (dropHead_keepsQueue _).after (finished_keepsQueue r)
  have queued : KeepsQueue (queueFrame (.certDone n c.number c.verdict) s) r := by
    rw [told]
    exact (answer_within requester (.ticket n) .printed _).keepsQueue.after (.of_eq rfl)
  obtain ⟨closed, kept, filtered, open'⟩ := certified_items n c s
  rw [ended]
  refine ⟨queues_of_keeps rfl rfl (rest.after queued), ?_, fun mem => ?_, ?_, ?_, ?_, fun someone => ?_, ?_⟩
  · exact ((lane'.trans (frame.1 .lane (by simp))).trans lane).trans closed
  · have before := (dropHead_rechecks r.finished).completed n mem
    change n ∈ r.finished.cert.completed at before
    rw [done] at before
    change n ∈ r.cert.completed at before
    rw [cert, filtered] at before
    exact absurd rfl (of_decide_eq_true (List.mem_filter.mp before).2)
  · rw [source, done]
    rfl
  · rw [output, done]
    rfl
  · rw [guidance, State.finished, lower_isRaised]
    simp
  · rw [told] at rest ⊢
    exact answer_queues open' someone _ _ rest
  · exact ((archive'.trans (frame.1 .archive (by simp))).trans archive).trans kept

/-! ### The end of a REPRINT job (R160) -/

theorem endReprint_eq (n : CertNo) (requester : Nat) (s : State) : endReprint n requester s = dropHead (lower .printing
    ((answer requester (.certificate n) .printed s).setCert s.cert.emptied)) := by
  unfold endReprint
  dsimp only
  rw [(answer_items requester (.certificate n) .printed s).1]

/-- A REPRINT job that ends in a state that differs from the one before in its archive and its page alone. -/
theorem endReprint_ends {s r : State} {j : Job} {n : CertNo} (jobs : r.cert.jobs = s.cert.jobs) (lane : r.lane = s.lane) (bus : r.bus = s.bus) :
    s.endsReprint (endReprint n j.requester r) j n := by
  obtain ⟨a, told⟩ : ∃ a, a = answer j.requester (.certificate n) .printed r := ⟨_, rfl⟩
  obtain ⟨x, low⟩ : ∃ x, x = lower .printing (a.setCert r.cert.emptied) := ⟨_, rfl⟩
  have ended : endReprint n j.requester r = dropHead x := by rw [endReprint_eq, low, told]
  have frame := lower_within .printing (a.setCert r.cert.emptied)
  have cert : x.cert = r.cert.emptied := by rw [low]; exact lower_cert _ _
  have lowered : KeepsQueue a x := by rw [low]; exact frame.keepsQueue.after (.of_eq rfl)
  have rest : KeepsQueue a (dropHead x) := (dropHead_keepsQueue x).after lowered
  obtain ⟨source, output, -, lane', -, guidance, -⟩ := dropHead_items x
  have queue : r.AddsRoutine (dropHead x) := by
    have added : a.AddsRoutine x := by rw [low]; exact (lower_adds _ _).after (.of_eq rfl)
    exact (dropHead_adds x).after (added.after (by rw [told]; exact answer_adds _ _ _ r))
  rw [ended]
  refine ⟨fun someone => ?_, ?_, ?_, ?_, ?_, ?_, ?_⟩
  · rw [told] at rest
    exact answer_queues (r := r) (by rw [bus]) someone _ _ rest
  · have same : x.lane = a.lane := by rw [low]; exact frame.1 .lane (by simp)
    rw [lane', same, told, (answer_items _ _ _ r).2.1, lane]
  · have before := queue.noCertDone
    rw [bus] at before
    exact before
  · rw [source, cert]
    rfl
  · rw [output, cert]
    rfl
  · rw [guidance, low, lower_isRaised]
    simp
  · have left := dropHead_jobs x
    rw [cert] at left
    change ∃ more, (dropHead x).cert.jobs = r.cert.jobs.tail ++ more ∧ _ at left
    rw [jobs] at left
    exact left

theorem endReprint_keeps (n : CertNo) (requester : Nat) (s : State) : (endReprint n requester s).lane = s.lane ∧
    (endReprint n requester s).archive = s.archive ∧ (endReprint n requester s).cert.source = none := by
  obtain ⟨cert, lane, archive, -, -⟩ := answer_items requester (.certificate n) .printed s
  obtain ⟨source, -, -, lane', archive', -, -⟩ :=
    dropHead_items (lower .printing ((answer requester (.certificate n) .printed s).setCert s.cert.emptied))
  have frame := lower_within .printing ((answer requester (.certificate n) .printed s).setCert s.cert.emptied)
  rw [endReprint_eq]
  refine ⟨(lane'.trans (frame.1 .lane (by simp))).trans lane, (archive'.trans (frame.1 .archive (by simp))).trans archive, ?_⟩
  rw [source, lower_cert]
  rfl

end Sys2Proof.Machine
end

section
/-! ### A line sent, settled -/

namespace Sys2Proof.Machine

/-! #### The archive's reports to the head job (R160, R161) -/

theorem awaitsMark_iff {u : Cert} {n : CertNo} {requester : Nat} {st : JobState} {js : List Job} (jobs : u.jobs = ⟨.certificate n, requester, st⟩ :: js) :
    u.awaitsMark = true ↔ st = .printing ∧ u.source.isSome = true ∧ u.output = [] := by
  unfold Cert.awaitsMark
  rw [jobs]
  cases st <;> simp

/-- A mark's report ends the REPRINT job that waits for it (R160). -/
theorem takeReport_mark {s : State} {n : CertNo} {requester : Nat} {st : JobState} {js : List Job}
    (jobs : s.cert.jobs = ⟨.certificate n, requester, st⟩ :: js) (awaits : s.cert.awaitsMark = true) :
    (∀ pass, takeReport s (.markDone pass) = endReprint n requester s) ∧ takeReport s .markSkipped = endReprint n requester s := by
  unfold takeReport
  dsimp only
  rw [jobs]
  exact ⟨fun _ => if_pos awaits, if_pos awaits⟩

/-! #### The mark of a REPRINT job (R164, R170) -/

/-- The archive with a mark's program under way, in the first unused place of its slot (R170). -/
def Archive.marking (a : Archive) (k requester : Nat) : Archive :=
  { a with op := .programMark k ((a.store k).marks.findIdx (· == .unused)) requester }

/-- What the archive makes of a mark asked for while it is IDLE. -/
theorem beginMark_cases (a : Archive) (n : CertNo) (requester : Nat) :
    (a.lookup n = none → a.beginMark n requester = (a, some .markSkipped)) ∧
    ∀ k, a.lookup n = some k →
      (3 ≤ (a.row k).used → a.beginMark n requester = (a, some (.markDone false))) ∧
      ((a.row k).used < 3 → a.beginMark n requester = (a.marking k requester, none)) := by
  unfold Archive.beginMark
  refine ⟨fun unlisted => by rw [unlisted], fun k found => ?_⟩
  rw [found]
  exact ⟨fun full => if_pos full, fun room => if_neg (not_le.mpr room)⟩

theorem submit_mark {a : Archive} (idle : a.op = .idle) (n : CertNo) (requester : Nat) :
    a.submit (.mark n requester) = ((a.beginMark n requester).1, (a.beginMark n requester).2.toList) := submit_idle idle _

/-! #### The page passed (R155) -/

/-- The unit with its last line sent and its page passed (R155, R156). -/
def State.passed (s : State) (it : PrintItem) : State :=
  s.setCert { ({ s.cert.markSent it with sending := none } : Cert) with current := .pass, output := [], lead := none }

theorem lineSent_cases {s : State} {i : Nat} {bytes : List Byte} (sending : s.cert.sending = some (.line i, bytes)) :
    (s.cert.output.length ≠ i + 1 ∨ s.cert.current = .fail →
      lineSent s = tryHand (s.setCert { s.cert.markSent (.line i) with sending := none })) ∧
    (s.cert.output.length = i + 1 → s.cert.current ≠ .fail →
      (s.cert.compose ≠ [] → lineSent s = certChange (beginPage s.cert.compose)
        ((s.passed (.line i)).setCert { (s.passed (.line i)).cert with compose := [] })) ∧
      (s.cert.compose = [] → lineSent s = finalPassed (s.passed (.line i)))) := by
  have judged : lineSent s = if s.cert.isLast (.line i) && s.cert.current ≠ .fail then
      pagePassed (s.setCert { s.cert.markSent (.line i) with sending := none })
      else tryHand (s.setCert { s.cert.markSent (.line i) with sending := none }) := by
    unfold lineSent
    rw [sending]
  have last : s.cert.isLast (.line i) = (s.cert.output.length == i + 1) := rfl
  have passes : pagePassed (s.setCert { s.cert.markSent (.line i) with sending := none }) =
      if s.cert.compose.isEmpty then finalPassed (s.passed (.line i)) else certChange (beginPage s.cert.compose)
        ((s.passed (.line i)).setCert { (s.passed (.line i)).cert with compose := [] }) := rfl
  rw [judged, last]
  refine ⟨fun stays => ?_, fun page live => ?_⟩
  · rw [if_neg]
    rcases stays with more | failed
    · simp [more]
    · simp [failed]
  · rw [if_pos (by simp [page, live]), passes]
    exact ⟨fun more => if_neg (by simpa using more), fun none' => if_pos (by simp [none'])⟩

/-- What stands at the unit with its page passed. -/
theorem passed_cert (s : State) (i : Nat) : (s.passed (.line i)).cert =
    { s.cert with sending := none, current := .pass, output := [], lead := none } := rfl

/-- A page's lines as it begins, paper or none (R157). -/
theorem beginPage_page (page : List (List Byte)) (s : State) : (beginPage page s).cert.output = unsent page ∧
    (beginPage page s).cert.previous = s.cert.current ∧ (beginPage page s).lane = s.lane := by
  have lane : (beginPage page s).lane = s.lane := (beginPage_within page s).1 .lane (by simp)
  refine ⟨?_, ?_, lane⟩
  · rw [beginPage_eq]
    split
    · rw [(failPage_items _).1, setHeadState_items]
      rfl
    · rw [tryHand_cert]
      rfl
  · rw [beginPage_eq]
    split
    · rw [(failPage_items _).1, setHeadState_items]
      rfl
    · rw [tryHand_cert]
      rfl

/-! #### The final page of a REPRINT job (R160) -/

/-- What a mark's request makes of the job that waits for it: it ends at once, or it waits at the head. -/
theorem archiveStep_mark {s : State} {j : Job} {n : CertNo} (first : s.cert.jobs.head? = some j) (subject : j.subject = .certificate n)
    (printing : j.state = .printing) (source : s.cert.source.isSome = true) (i : Nat) (a : Archive) :
    s.awaitsItsMark (archiveStep (a, []) (s.passed (.line i))) ∧ (archiveStep (a, []) (s.passed (.line i))).archive = a ∧
    ∀ r, (r = .markSkipped ∨ ∃ pass, r = .markDone pass) →
      s.endsReprint (archiveStep (a, [r]) (s.passed (.line i))) j n ∧ (archiveStep (a, [r]) (s.passed (.line i))).archive = a := by
  obtain ⟨js, jobs⟩ := List.head?_eq_some_iff.mp first
  obtain ⟨sub, requester, st⟩ := j
  cases subject
  cases printing
  obtain ⟨x, marked⟩ : ∃ x, x = (s.passed (.line i)).setArchive a := ⟨_, rfl⟩
  have jobs' : x.cert.jobs = ⟨.certificate n, requester, .printing⟩ :: js := by rw [marked]; exact jobs
  have awaits : x.cert.awaitsMark = true := (awaitsMark_iff jobs').mpr ⟨rfl, by rw [marked]; exact source, by rw [marked]; rfl⟩
  have archive : x.archive = a := by rw [marked]; rfl
  obtain ⟨done, skipped⟩ := takeReport_mark jobs' awaits
  have ends := endReprint_ends (s := s) (r := x) (j := ⟨.certificate n, requester, .printing⟩) (n := n) (by rw [marked]; rfl)
    (by rw [marked]; rfl) (by rw [marked]; rfl)
  have kept : (endReprint n requester x).archive = a := (endReprint_keeps n requester x).2.1.trans archive
  refine ⟨⟨rfl, rfl, rfl, rfl, rfl, rfl⟩, rfl, fun r which => ?_⟩
  have taken : archiveStep (a, [r]) (s.passed (.line i)) = endReprint n requester x := by
    change takeReport ((s.passed (.line i)).setArchive a) r = _
    rw [← marked]
    rcases which with skip | ⟨pass, ended⟩
    · rw [skip, skipped]
    · rw [ended, done]
  rw [taken]
  exact ⟨ends, kept⟩

theorem finalPassed_reprint {s : State} {j : Job} {n : CertNo} (first : s.cert.jobs.head? = some j) (subject : j.subject = .certificate n) (i : Nat) :
    finalPassed (s.passed (.line i)) = archiveStep (s.archive.submit (.mark n j.requester)) (s.passed (.line i)) := by
  obtain ⟨js, jobs⟩ := List.head?_eq_some_iff.mp first
  obtain ⟨sub, requester, st⟩ := j
  cases subject
  have jobs' : (s.passed (.line i)).cert.jobs = ⟨.certificate n, requester, st⟩ :: js := jobs
  unfold finalPassed
  rw [jobs']
  rfl

theorem finalPassed_certificate {s : State} {j : Job} {n : Nat} (first : s.cert.jobs.head? = some j) (subject : j.subject = .ticket n)
    {c : CertContent} (source : s.cert.source = some c) (i : Nat) :
    finalPassed (s.passed (.line i)) = endCertificate n j.requester c (s.passed (.line i)) := by
  obtain ⟨js, jobs⟩ := List.head?_eq_some_iff.mp first
  obtain ⟨sub, requester, st⟩ := j
  cases subject
  have jobs' : (s.passed (.line i)).cert.jobs = ⟨.ticket n, requester, st⟩ :: js := jobs
  have source' : (s.passed (.line i)).cert.source = some c := source
  unfold finalPassed
  rw [jobs', source']

/-- The final page of a REPRINT job passed, at an archive that is IDLE or busy (R160, R164, R170). -/
theorem reprint_passes {s : State} {j : Job} {n : CertNo} (first : s.cert.jobs.head? = some j) (subject : j.subject = .certificate n)
    (printing : j.state = .printing) (source : s.cert.source.isSome = true) (i : Nat) {t : State} (passed : t = finalPassed (s.passed (.line i))) :
    (s.archive.op = .idle → (s.archive.lookup n = none → s.endsReprint t j n ∧ t.archive = s.archive) ∧
      ∀ k, s.archive.lookup n = some k →
        (3 ≤ (s.archive.row k).used → s.endsReprint t j n ∧ t.archive = s.archive) ∧
        ((s.archive.row k).used < 3 → s.awaitsItsMark t ∧ t.archive = { s.archive with op := t.archive.op } ∧
          ∀ place, place < 3 → (s.archive.store k).marks[place]? = some .unused →
            (∀ m, m < place → (s.archive.store k).marks[m]? ≠ some .unused) →
            t.archive.op = .programMark k place j.requester)) ∧
    (s.archive.op ≠ .idle →
      (s.archive.requests.length < 4 → s.awaitsItsMark t ∧
        t.archive = { s.archive with requests := s.archive.requests ++ [.mark n j.requester] }) ∧
      (4 ≤ s.archive.requests.length → s.endsReprint t j n ∧ t.archive = s.archive)) := by
  have step (a : Archive) := archiveStep_mark first subject printing source i a
  rw [finalPassed_reprint first subject] at passed
  refine ⟨fun idle => ?_, fun busy => ⟨fun room => ?_, fun full => ?_⟩⟩
  · obtain ⟨unlisted, listed⟩ := beginMark_cases s.archive n j.requester
    rw [submit_mark idle] at passed
    refine ⟨fun absent => ?_, fun k found => ⟨fun full => ?_, fun room => ?_⟩⟩
    · rw [passed, unlisted absent]
      exact (step s.archive).2.2 .markSkipped (Or.inl rfl)
    · rw [passed, (listed k found).1 full]
      exact (step s.archive).2.2 (.markDone false) (Or.inr ⟨false, rfl⟩)
    · rw [(listed k found).2 room] at passed
      change t = archiveStep (s.archive.marking k j.requester, []) (s.passed (.line i)) at passed
      obtain ⟨awaits, archive, -⟩ := step (s.archive.marking k j.requester)
      rw [← passed] at awaits archive
      refine ⟨awaits, by rw [archive]; rfl, fun place _ here before => ?_⟩
      have index := (findIdx_of_first (P := fun m : MarkCell => m == .unused) here rfl fun m below y at' =>
        beq_eq_false_iff_ne.mpr fun same => before m below (same ▸ at')).1
      rw [archive, Archive.marking, index]
  · rw [submit_joins busy room] at passed
    obtain ⟨awaits, archive, -⟩ := step { s.archive with requests := s.archive.requests ++ [.mark n j.requester] }
    rw [passed]
    exact ⟨awaits, archive⟩
  · rw [passed, (submit_full busy full).2]
    exact (step s.archive).2.2 (.markDone false) (Or.inr ⟨false, rfl⟩)

/-- Settles O54, by the line sent: one more of its page, the last of a page before the final one, or the last of the final page. -/
theorem linesAreHandedAndPagesPass : Obligations.LinesAreHandedAndPagesPass := by
  intro s quiet printer
  have sent : exec .lineSent s = .next (lineSent s) := by
    refine (exec_outside_quiet quiet (onPrinter lineSent)).trans (congrArg _ ?_)
    exact if_pos printer
  refine ⟨printerReadyRise_outcome quiet printer, fun idle => ?_, fun i bytes sending => ?_⟩
  · have rests : lineSent s = s := by
      unfold lineSent
      rw [idle]
    rw [sent, rests]
  · obtain ⟨stays, last⟩ := lineSent_cases sending
    refine ⟨_, sent, fun page taken => ?_, fun page live more => ?_, fun page live final j first n subject c source => ?_,
      fun page live final j first n subject printing source => ?_⟩
    · rw [stays page]
      exact tryHand_rests (Or.inr (Or.inr taken))
    · rw [(last page live).1 more]
      obtain ⟨output, previous, lane⟩ := beginPage_page s.cert.compose
        ((s.passed (.line i)).setCert { (s.passed (.line i)).cert with compose := [] })
      have changed := certChange_rechecks (beginPage s.cert.compose)
        ((s.passed (.line i)).setCert { (s.passed (.line i)).cert with compose := [] })
      obtain ⟨-, output', -, -, -, previous', -⟩ := changed.items
      exact ⟨output'.trans output, previous'.trans previous, changed.lane.trans lane⟩
    · rw [(last page live).2 final, finalPassed_certificate first subject source]
      exact endCertificate_ends (s := s.passed (.line i)) n j.requester c
    · exact reprint_passes first subject printing source i ((last page live).2 final)

end Sys2Proof.Machine
end

section
/-! What an operation's completion leaves of the archive, and what its reports make of the head job (R160, R164, R167, R168, R170). -/

namespace Sys2Proof.Machine

/-! ### Rows and storage -/

theorem Archive.row_setRow_same {a : Archive} {slot : Nat} (low : slot < a.table.length) (r : SlotRow) : (a.setRow slot r).row slot = r := by
  simp [Archive.row, Archive.setRow, List.getD_eq_getElem?_getD, low]

theorem Archive.row_setRow_other {a : Archive} {slot i : Nat} (other : i ≠ slot) (r : SlotRow) : (a.setRow slot r).row i = a.row i := by
  simp [Archive.row, Archive.setRow, List.getD_eq_getElem?_getD, other.symm]

theorem Archive.store_setStore_same {a : Archive} {slot : Nat} (low : slot < a.storage.length) (x : SlotStore) :
    (a.setStore slot x).store slot = x := by
  simp [Archive.store, Archive.setStore, List.getD_eq_getElem?_getD, low]

theorem Archive.store_setStore_other {a : Archive} {slot i : Nat} (other : i ≠ slot) (x : SlotStore) :
    (a.setStore slot x).store i = a.store i := by
  simp [Archive.store, Archive.setStore, List.getD_eq_getElem?_getD, other.symm]

/-! ### Requests that begin (R164) -/

/-- An archive with the slots, the table and the next sequence of another. -/
structure Archive.SameSlots (a b : Archive) : Prop where
  storage : b.storage = a.storage
  table : b.table = a.table
  seq : b.nextSeq = a.nextSeq

theorem Archive.SameSlots.after {a b c : Archive} (k : b.SameSlots c) (h : a.SameSlots b) : a.SameSlots c :=
  ⟨k.storage.trans h.storage, k.table.trans h.table, k.seq.trans h.seq⟩

theorem Archive.SameSlots.row {a b : Archive} (h : a.SameSlots b) (i : Nat) : b.row i = a.row i := by rw [Archive.row, h.table]; rfl

theorem Archive.SameSlots.store {a b : Archive} (h : a.SameSlots b) (i : Nat) : b.store i = a.store i := by rw [Archive.store, h.storage]; rfl

theorem carryRecord_sameSlots (a : Archive) (c : CertContent) (entered : List Nat) (fresh : Bool) :
    a.SameSlots (a.carryRecord c entered fresh).1 := by
  obtain ⟨storage, table, seq, -⟩ := carryRecord_keeps a c entered fresh
  exact ⟨storage, table, seq⟩

theorem begin_sameSlots (a : Archive) (r : ArchiveRequest) : a.SameSlots (a.begin r).1 := by
  cases r with
  | record c => exact carryRecord_sameSlots a c [] true
  | mark n requester =>
    change a.SameSlots (a.beginMark n requester).1
    unfold Archive.beginMark
    split
    · exact ⟨rfl, rfl, rfl⟩
    · split <;> exact ⟨rfl, rfl, rfl⟩

theorem beginNext_sameSlots : ∀ (rs : List ArchiveRequest) (a : Archive), a.SameSlots (a.beginNext rs).1
  | [], _ => ⟨rfl, rfl, rfl⟩
  | r :: rs, a => by
    have begun := begin_sameSlots a r
    unfold Archive.beginNext
    dsimp only
    split
    · exact (beginNext_sameSlots rs _).after begun
    · exact ⟨begun.storage, begun.table, begun.seq⟩

theorem goOn_sameSlots (a : Archive) : a.SameSlots a.goOn.1 :=
  (beginNext_sameSlots a.requests _).after (a := a) (b := { a with op := .idle }) ⟨rfl, rfl, rfl⟩

/-- Where no request waits the archive becomes IDLE (R164). -/
theorem goOn_idle {a : Archive} (alone : a.requests = []) : a.goOn.1.op = .idle ∧ a.goOn.1.writePos = a.writePos := by
  unfold Archive.goOn
  rw [alone]
  exact ⟨rfl, rfl⟩

/-- A report of a mark. -/
def ArchiveReport.ofMark : ArchiveReport → Prop
  | .recordDone _ _ => False
  | .markDone _ => True
  | .markSkipped => True

/-- A request that ends at once is a mark's: a record's search finds its slot or its block (R166, R170). -/
theorem begin_reports {a : Archive} (low : a.writePos < 32) (r : ArchiveRequest) : ∀ x ∈ (a.begin r).2, x.ofMark := by
  cases r with
  | record c =>
    have goes : (a.begin (.record c)).2 = none := carryRecord_goes low c
    rw [goes]
    simp
  | mark n requester =>
    change ∀ x ∈ (a.beginMark n requester).2, x.ofMark
    obtain ⟨unlisted, listed⟩ := beginMark_cases a n requester
    cases found : a.lookup n with
    | none =>
      rw [unlisted found]
      simp [ArchiveReport.ofMark]
    | some k =>
      by_cases room : (a.row k).used < 3
      · rw [(listed k found).2 room]
        simp
      · rw [(listed k found).1 (not_lt.mp room)]
        simp [ArchiveReport.ofMark]

theorem beginNext_reports : ∀ (rs : List ArchiveRequest) {a : Archive}, a.Sound → ∀ x ∈ (a.beginNext rs).2, x.ofMark
  | [], _, _, x, mem => absurd mem (by simp [Archive.beginNext])
  | r :: rs, a, sound, x, mem => by
    have first := begin_reports sound.pos r
    have rest := beginNext_reports rs (sound.begin r)
    unfold Archive.beginNext at mem
    dsimp only at mem
    split at mem
    · rcases List.mem_append.mp mem with now | later
      · exact first x (Option.mem_toList.mp now)
      · exact rest x later
    · exact first x (Option.mem_toList.mp mem)

theorem goOn_reports {a : Archive} (sound : a.Sound) : ∀ x ∈ a.goOn.2, x.ofMark :=
  beginNext_reports a.requests (a := { a with op := .idle }) ⟨sound.slots, sound.rows, sound.pos, sound.requests⟩

/-! ### The reports at the head job (R160, R161) -/

/-- A mark's report ends the job that waits for it, or does nothing. -/
theorem takeReport_skipped (s : State) : takeReport s .markSkipped = s ∨
    s.cert.awaitsMark = true ∧ ∃ n requester, takeReport s .markSkipped = endReprint n requester s := by
  unfold takeReport
  dsimp only
  split
  · by_cases awaits : s.cert.awaitsMark = true
    · exact Or.inr ⟨awaits, _, _, if_pos awaits⟩
    · exact Or.inl (if_neg awaits)
  · exact Or.inl rfl

theorem takeReport_keeps (s : State) (r : ArchiveReport) : (takeReport s r).lane = s.lane ∧ (takeReport s r).archive = s.archive := by
  have kept : (takeReport s .markSkipped).lane = s.lane ∧ (takeReport s .markSkipped).archive = s.archive := by
    rcases takeReport_skipped s with stays | ⟨-, n, requester, ends⟩
    · rw [stays]
      exact ⟨rfl, rfl⟩
    · rw [ends]
      exact ⟨(endReprint_keeps n requester s).1, (endReprint_keeps n requester s).2.1⟩
  cases r with
  | recordDone n pass =>
    unfold takeReport
    dsimp only
    split <;> exact ⟨rfl, rfl⟩
  | markDone pass => exact kept
  | markSkipped => exact kept

theorem takeReports_keep (l : List ArchiveReport) : ∀ s : State, (l.foldl takeReport s).lane = s.lane ∧ (l.foldl takeReport s).archive = s.archive := by
  induction l with
  | nil => exact fun s => ⟨rfl, rfl⟩
  | cons r l ih =>
    intro s
    obtain ⟨lane, archive⟩ := ih (takeReport s r)
    obtain ⟨lane', archive'⟩ := takeReport_keeps s r
    exact ⟨lane.trans lane', archive.trans archive'⟩

/-- The archive after an operation's step, and the vehicle table. -/
theorem archiveStep_keeps (r : Archive × List ArchiveReport) (s : State) : (archiveStep r s).lane = s.lane ∧ (archiveStep r s).archive = r.1 :=
  takeReports_keep r.2 (s.setArchive r.1)

/-- Reports find no job that waits for one: the state stays. -/
theorem takeReports_stay {s : State} {l : List ArchiveReport} (deaf : ∀ r ∈ l, takeReport s r = s) : l.foldl takeReport s = s := by
  induction l with
  | nil => rfl
  | cons r l ih =>
    rw [List.foldl_cons, deaf r (by simp)]
    exact ih fun x mem => deaf x (by simp [mem])

/-- A unit with no source waits for no report. -/
theorem takeReport_sourceless {s : State} (empty : s.cert.source = none) (r : ArchiveReport) : takeReport s r = s := by
  have waits : s.cert.awaitsMark = false := by
    unfold Cert.awaitsMark
    split
    · rw [empty]
      rfl
    · rfl
  have mark : takeReport s .markSkipped = s := (takeReport_skipped s).resolve_right fun ends => by
    rw [waits] at ends
    exact Bool.false_ne_true ends.1
  cases r with
  | recordDone n pass =>
    have owns : s.cert.ownsRecord n = false := by
      unfold Cert.ownsRecord
      rw [empty]
      split <;> simp_all
    exact if_neg (by simp [owns])
  | markDone pass => exact mark
  | markSkipped => exact mark

/-- A mark's report does nothing to a CERTIFICATE job. -/
theorem takeReport_certificate {s : State} {n requester : Nat} {st : JobState} {js : List Job}
    (jobs : s.cert.jobs = ⟨.ticket n, requester, st⟩ :: js) {r : ArchiveReport} (mark : r.ofMark) : takeReport s r = s := by
  cases r with
  | recordDone n pass => exact mark.elim
  | markDone pass =>
    unfold takeReport
    rw [jobs]
  | markSkipped =>
    unfold takeReport
    rw [jobs]

end Sys2Proof.Machine
end

section
/-! ### The archive's completions, settled -/

namespace Sys2Proof.Machine

/-! #### A record program (R167) -/

/-- The archive with a record's program completed, before the next request (R167). -/
def Archive.programmed (a : Archive) (slot : Nat) (c : CertContent) (pass : Bool) (left : Residue) : Archive :=
  (a.setStore slot ((a.store slot).programmedTo c left)).setRow slot ⟨if pass then .record else .bad, some c.number, 0, 0⟩

theorem recordComplete_eq {a : Archive} {slot : Nat} {c : CertContent} (op : a.op = .programRecord slot c) (pass : Bool) (left : Residue) :
    a.recordComplete pass left =
      ((a.programmed slot c pass left).goOn.1, .recordDone c.number pass :: (a.programmed slot c pass left).goOn.2) := by
  unfold Archive.recordComplete
  rw [op]
  rfl

theorem programmed_sound {a : Archive} (sound : a.Sound) (slot : Nat) (c : CertContent) (pass : Bool) (left : Residue) :
    (a.programmed slot c pass left).Sound :=
  ⟨(List.length_set ..).trans sound.slots, (List.length_set ..).trans sound.rows, sound.pos, sound.requests⟩

/-- The report of the head job's record write is its archive outcome (R161). -/
theorem archiveStep_recorded {s : State} {j : Job} (first : s.cert.jobs.head? = some j) {n : Nat} (subject : j.subject = .ticket n)
    {d : CertContent} (source : s.cert.source = some d) (pass : Bool) (a : Archive) {l : List ArchiveReport} (marks : ∀ x ∈ l, x.ofMark) :
    (archiveStep (a, .recordDone d.number pass :: l) s).cert.archiveOutcome = if pass then .pass else .fail := by
  obtain ⟨js, jobs⟩ := List.head?_eq_some_iff.mp first
  obtain ⟨sub, requester, st⟩ := j
  cases subject
  obtain ⟨x, told⟩ : ∃ x, x = takeReport (s.setArchive a) (.recordDone d.number pass) := ⟨_, rfl⟩
  have owns : (s.setArchive a).cert.ownsRecord d.number = true := by
    change s.cert.ownsRecord d.number = true
    unfold Cert.ownsRecord
    rw [jobs, source]
    exact beq_self_eq_true _
  have outcome : x = (s.setArchive a).setCert { s.cert with archiveOutcome := if pass then .pass else .fail } := told.trans (if_pos owns)
  have jobs' : x.cert.jobs = ⟨.ticket n, requester, st⟩ :: js := by rw [outcome]; exact jobs
  change (l.foldl takeReport (takeReport (s.setArchive a) (.recordDone d.number pass))).cert.archiveOutcome = _
  rw [← told, takeReports_stay fun r mem => takeReport_certificate jobs' (marks r mem), outcome]
  rfl

/-! #### A mark program (R170) -/

/-- The archive with a mark's program completed, before the next request (R170). -/
def Archive.marked (a : Archive) (slot place requester : Nat) (pass : Bool) : Archive :=
  (a.setStore slot ((a.store slot).setMark place (if pass then .mark requester else .spoiled))).setRow slot
    { a.row slot with marks := if pass then (a.row slot).marks + 1 else (a.row slot).marks, used := (a.row slot).used + 1 }

theorem markComplete_eq {a : Archive} {slot place requester : Nat} (op : a.op = .programMark slot place requester) (pass : Bool) :
    a.markComplete pass =
      ((a.marked slot place requester pass).goOn.1, .markDone pass :: (a.marked slot place requester pass).goOn.2) := by
  unfold Archive.markComplete
  rw [op]
  rfl

theorem marked_slot {a : Archive} (sound : a.Sound) {slot : Nat} (low : slot < 32) (place requester : Nat) (pass : Bool) :
    ((a.marked slot place requester pass).row slot).used = (a.row slot).used + 1 ∧
    ((a.marked slot place requester pass).row slot).marks = (a.row slot).marks + (if pass then 1 else 0) ∧
    ((a.marked slot place requester pass).row slot).state = (a.row slot).state ∧
    ((a.marked slot place requester pass).row slot).number = (a.row slot).number ∧
    ((a.marked slot place requester pass).store slot).marks = (a.store slot).marks.set place (if pass then .mark requester else .spoiled) := by
  obtain ⟨b, stored⟩ : ∃ b, b = a.setStore slot ((a.store slot).setMark place (if pass then .mark requester else .spoiled)) := ⟨_, rfl⟩
  have rows : slot < b.table.length := by
    rw [stored]
    exact low.trans_eq sound.rows.symm
  have here : (a.marked slot place requester pass).store slot = (a.store slot).setMark place (if pass then .mark requester else .spoiled) :=
    Archive.store_setStore_same (low.trans_eq sound.slots.symm) _
  rw [here, Archive.marked, ← stored, Archive.row_setRow_same rows]
  refine ⟨rfl, ?_, rfl, rfl, rfl⟩
  cases pass <;> rfl

theorem marked_other {a : Archive} {slot i : Nat} (other : i ≠ slot) (place requester : Nat) (pass : Bool) :
    (a.marked slot place requester pass).row i = a.row i ∧ (a.marked slot place requester pass).store i = a.store i :=
  ⟨Archive.row_setRow_other other _, Archive.store_setStore_other other _⟩

/-- The REPRINT job that waits for its mark ends at its report, pass or fail, and the reports behind it find no job (R160). -/
theorem archiveStep_marked {s : State} {j : Job} {n : CertNo} (first : s.cert.jobs.head? = some j) (subject : j.subject = .certificate n)
    (printing : j.state = .printing) (source : s.cert.source.isSome = true) (output : s.cert.output = []) (pass : Bool) (a : Archive)
    (l : List ArchiveReport) : s.endsReprint (archiveStep (a, .markDone pass :: l) s) j n := by
  obtain ⟨js, jobs⟩ := List.head?_eq_some_iff.mp first
  obtain ⟨sub, requester, st⟩ := j
  cases subject
  cases printing
  have awaits : (s.setArchive a).cert.awaitsMark = true := (awaitsMark_iff (u := s.cert) jobs).mpr ⟨rfl, source, output⟩
  have ends := (takeReport_mark (s := s.setArchive a) jobs awaits).1 pass
  have empty := (endReprint_keeps n requester (s.setArchive a)).2.2
  change s.endsReprint (l.foldl takeReport (takeReport (s.setArchive a) (.markDone pass))) _ n
  rw [ends, takeReports_stay fun r _ => takeReport_sourceless empty r]
  exact endReprint_ends (s := s) (r := s.setArchive a) (j := ⟨.certificate n, requester, .printing⟩) rfl rfl rfl

/-! #### A block erase (R168) -/

/-- The archive with a block erased, before its record write goes on (R168). -/
def Archive.erased (a : Archive) (block : Nat) (left : List Residue) : Archive :=
  { a with
    storage := eraseSlots left block a.storage
    table := a.table.mapIdx fun i r => if blockOf i = block then rowAfterErase ((eraseSlots left block a.storage).getD i SlotStore.blank) else r
    op := .idle }

theorem eraseComplete_eq {a : Archive} {block : Nat} {c : CertContent} {entered : List Nat} (op : a.op = .erasing block c entered)
    (left : List Residue) : a.eraseComplete left =
      if ((a.erased block left).carryRecord c entered false).1.isIdle then
        (((a.erased block left).carryRecord c entered false).1.goOn.1, ((a.erased block left).carryRecord c entered false).2.toList ++
          ((a.erased block left).carryRecord c entered false).1.goOn.2)
      else (((a.erased block left).carryRecord c entered false).1, ((a.erased block left).carryRecord c entered false).2.toList) := by
  unfold Archive.eraseComplete
  rw [op]
  rfl

theorem eraseComplete_sameSlots {a : Archive} {block : Nat} {c : CertContent} {entered : List Nat} (op : a.op = .erasing block c entered)
    (left : List Residue) : (a.erased block left).SameSlots (a.eraseComplete left).1 := by
  have carried := carryRecord_sameSlots (a.erased block left) c entered false
  rw [eraseComplete_eq op]
  split
  · exact (goOn_sameSlots _).after carried
  · exact carried

/-- The slots of an archive with a block erased. -/
theorem erased_slots {a : Archive} (sound : a.Sound) {i : Nat} (low : i < 32) (block : Nat) (left : List Residue) :
    (a.erased block left).store i =
      (if i / 8 = block then (a.store i).erasedTo (left.getD (i % 8) .unreadable) else a.store i) ∧
    (a.erased block left).row i =
      (if i / 8 = block then rowAfterErase ((a.store i).erasedTo (left.getD (i % 8) .unreadable)) else a.row i) := by
  have inStorage : i < a.storage.length := low.trans_eq sound.slots.symm
  have inTable : i < a.table.length := low.trans_eq sound.rows.symm
  have store : (a.erased block left).store i =
      if i / 8 = block then (a.store i).erasedTo (left.getD (i % 8) .unreadable) else a.store i := by
    simp [Archive.store, Archive.erased, eraseSlots, List.getD_eq_getElem?_getD, inStorage, blockOf, Config.blockSlots]
  refine ⟨store, ?_⟩
  have row : (a.erased block left).row i = if i / 8 = block then rowAfterErase ((a.erased block left).store i) else a.row i := by
    simp [Archive.row, Archive.store, Archive.erased, List.getD_eq_getElem?_getD, inTable, blockOf, Config.blockSlots]
  rw [row, store]
  by_cases here : i / 8 = block
  · simp only [if_pos here]
  · simp only [if_neg here]

theorem erased_reads {a : Archive} (sound : a.Sound) {i block : Nat} (low : i < 32) (left : List Residue) :
    (i / 8 = block → left[i % 8]? = some .erased → (a.erased block left).row i = ⟨.erased, none, 0, 0⟩) ∧
    (i / 8 = block → left[i % 8]? = some .unreadable → (a.erased block left).row i = ⟨.bad, none, 0, 0⟩) ∧
    (i / 8 ≠ block → (a.erased block left).row i = a.row i ∧ (a.erased block left).store i = a.store i) := by
  obtain ⟨store, row⟩ := erased_slots sound low block left
  refine ⟨fun here clean => ?_, fun here spoilt => ?_, fun away => ?_⟩
  · rw [row, if_pos here, List.getD_eq_getElem?_getD, clean]
    rfl
  · rw [row, if_pos here, List.getD_eq_getElem?_getD, spoilt]
    rfl
  · rw [row, store, if_neg away, if_neg away]
    exact ⟨rfl, rfl⟩

/-- A record write that goes on after its erase writes the slot that it stands at, where the erase left that slot ERASED (R166). -/
theorem eraseComplete_writes {a : Archive} {block : Nat} {c : CertContent} {entered : List Nat} (op : a.op = .erasing block c entered)
    {left : List Residue} (clean : ((a.erased block left).row a.writePos).state = .erased) :
    (a.eraseComplete left).1.op = .programRecord a.writePos c ∧ (a.eraseComplete left).1.writePos = (a.writePos + 1) % 32 := by
  have found : (a.erased block left).search 40 (a.erased block left).writePos entered false = .write a.writePos := by
    rw [search_succ]
    exact if_pos clean
  rw [eraseComplete_eq op, carryRecord_writes found]
  exact ⟨rfl, rfl⟩

/-- Settles O56: each completion writes its slots, and the requests that begin after it leave slots, table and sequence. -/
theorem archiveOperationsComplete : Obligations.ArchiveOperationsComplete := by
  intro s quiet law
  have sound := State.archiveLaw_iff.mp law
  refine ⟨fun slot c op low pass left => ?_, fun slot place requester op low pass => ?_, fun block c entered op left => ?_⟩
  · obtain ⟨a, programmed⟩ : ∃ a, a = s.archive.programmed slot c pass left := ⟨_, rfl⟩
    have run : exec (.recordProgramComplete pass left) s = .next (archiveStep (a.goOn.1, .recordDone c.number pass :: a.goOn.2) s) := by
      rw [programmed, ← recordComplete_eq op]
      exact exec_outside_quiet quiet _
    obtain ⟨lane, archive⟩ := archiveStep_keeps (a.goOn.1, .recordDone c.number pass :: a.goOn.2) s
    have same := goOn_sameSlots a
    have sound' : a.Sound := by rw [programmed]; exact programmed_sound sound slot c pass left
    refine ⟨_, run, lane, ?_, fun i other => ?_, fun whole => ?_, ?_, fun alone => ?_, fun j first n subject d source number => ?_⟩
    · rw [archive, same.table, programmed]
      rfl
    · rw [archive, same.store, programmed]
      exact Archive.store_setStore_other other _
    · have here : a.store slot = (s.archive.store slot).programmedTo c .whole := by
        rw [programmed, whole]
        exact Archive.store_setStore_same (low.trans_eq sound.slots.symm) _
      rw [archive, same.store, here]
      exact ⟨content_programmedTo _ c, rfl, rfl⟩
    · rw [archive, same.seq, programmed]
      rfl
    · obtain ⟨idle, position⟩ := goOn_idle (a := a) (by rw [programmed]; exact alone)
      rw [archive]
      refine ⟨idle, position.trans ?_⟩
      rw [programmed]
      rfl
    · rw [← number]
      exact archiveStep_recorded first subject source pass a.goOn.1 (goOn_reports sound')
  · obtain ⟨a, marked⟩ : ∃ a, a = s.archive.marked slot place requester pass := ⟨_, rfl⟩
    have run : exec (.markProgramComplete pass) s = .next (archiveStep (a.goOn.1, .markDone pass :: a.goOn.2) s) := by
      rw [marked, ← markComplete_eq op]
      exact exec_outside_quiet quiet _
    obtain ⟨lane, archive⟩ := archiveStep_keeps (a.goOn.1, .markDone pass :: a.goOn.2) s
    have same := goOn_sameSlots a
    obtain ⟨used, marks, state, number, places⟩ := marked_slot sound low place requester pass
    rw [← marked] at used marks state number places
    refine ⟨_, run, lane, ?_, ?_, ?_, ?_, ?_, ?_, fun i other => ?_, fun j first n subject printing source output =>
      archiveStep_marked first subject printing source output pass _ _⟩
    · rw [archive, same.seq, marked]
      rfl
    · rw [archive, same.row, used]
    · rw [archive, same.row, marks]
    · rw [archive, same.row, state]
    · rw [archive, same.row, number]
    · rw [archive, same.store, places]
    · rw [archive, same.row, same.store, marked]
      exact marked_other other place requester pass
  · obtain ⟨lane, archive⟩ := archiveStep_keeps (s.archive.eraseComplete left) s
    have same := eraseComplete_sameSlots op left
    refine ⟨_, exec_outside_quiet quiet _, lane, ?_, fun i low here clean => ?_, fun i low here spoilt => ?_, fun i low away => ?_,
      fun here clean => ?_⟩
    · rw [archive, same.seq]
      rfl
    · rw [archive, same.row]
      obtain ⟨erased, -, -⟩ := erased_reads (block := block) sound low left
      exact erased here clean
    · rw [archive, same.row]
      obtain ⟨-, bad, -⟩ := erased_reads (block := block) sound low left
      exact bad here spoilt
    · rw [archive, same.row, same.store]
      obtain ⟨-, -, kept⟩ := erased_reads (block := block) sound low left
      exact kept away
    · have erased := (erased_reads sound sound.pos left).1 here clean
      rw [archive]
      exact eraseComplete_writes op (by rw [erased])

end Sys2Proof.Machine
end
